-- ==== Sys2Proof/Word.lean ====
section
/-! DEFINITION. Word types: the register word of R5, the byte of the shared SRAM, and the plainest arithmetic on them. -/

namespace Sys2Proof

/-- A register or memory word, 32 bits (R5). -/
abbrev Word := BitVec 32

/-- A byte of shared SRAM or of a packet. -/
abbrev Byte := BitVec 8

/-- A word of a natural number, wrapping modulo 2^32. -/
def word (n : Nat) : Word := BitVec.ofNat 32 n

/-- One bit as a number. -/
def bitNat (b : Bool) : Nat := if b then 1 else 0

/-- Saturating addition with ceiling `top`. -/
def satAdd (top a b : Nat) : Nat := min top (a + b)

end Sys2Proof
end

