-- ==== Sys2Proof/Syntax.lean ====
section
/-! DEFINITION. The commands the block takes: one constructor of `Instr` for each row of the operation table, with the
operands the row's rules name. -/

namespace Sys2Proof

/-- What the 16-byte authentication tag of a packet shows (R415 step 6, R424): HMAC-SHA-256 itself lies outside the
model, so a packet says whether its tag is absent, wrong or right. -/
inductive TagCheck where
  | absent | wrong | right
  deriving DecidableEq, Repr

/-- An SCP command packet that passes steps 1 to 3 of R415: its header fields (R414), where it came from (R418 to
R421), what its tag shows, and its payload. -/
structure Packet where
  /-- Host channel 0 to 7 (R418). -/
  chan : Nat
  /-- Source IPv4 address and UDP port of an Ethernet packet (R420); 0 elsewhere. -/
  srcIp : Word
  srcPort : Nat
  /-- Header fields session, seq, tag and lease (R414). -/
  session : Nat
  seq : Nat
  tag : Nat
  lease : Nat
  auth : TagCheck
  /-- The packet's CRC-32C, which R425 compares on a resent packet. -/
  crc : Word
  payload : List Byte
  deriving DecidableEq, Repr


/-- A fault that a lane's self-diagnosis finds (R211): mechanism code, multiply-add unit, phase mark, and whether the
retry of R212 classified it FAULT_LASTING. -/
structure LaneFault where
  lane : Nat
  code : Nat
  unit : Nat
  phase : Nat
  lasting : Bool
  deriving DecidableEq, Repr

/-- What a block asks of the module (R334, R412). -/
inductive BlockReq where
  /-- MODE: a mode code of R183. -/
  | mode (target : Nat)
  /-- PROFILE: an output and its target. -/
  | profile (output : Nat) (target : Word)
  | tripClear (trip : Nat)
  /-- SHUT_ARM: 0 arm, with bit 0 of the value for single mode; 1 trigger; 2 stop; 3 release up to the value. -/
  | shutter (shutter order : Nat) (value : Word)
  deriving DecidableEq, Repr

/-- What a SHUT_ARM block asks to measure (R412): a channel slot of a shutter's records and the first and last sample. -/
structure Measure where
  shutter : Nat
  slot : Nat
  first : Nat
  last : Nat
  deriving DecidableEq, Repr

/-- What a completed call hands back (R329): the block library lies outside the model, so a call's results are given
with its completion. -/
structure BlockEffect where
  /-- Words of the call's own record, by word offset in the region. -/
  outs : List (Nat × Word)
  /-- DIO pads and engine-interface words set for the task's output phase. -/
  dio : List (Nat × Bool)
  eif : List (Nat × Word)
  /-- Publications filled for the task's output phase (R501). -/
  pubs : List (Nat × List Byte)
  req : Option BlockReq
  measure : Option Measure
  /-- The computation failed (R333). -/
  failed : Bool
  deriving DecidableEq, Repr

/-- What an Ethernet frame carries (R445, R446, R463). -/
inductive EthKind where
  /-- A whole SCP datagram; its packet follows as its own command. -/
  | scp
  /-- A fragment of an SCP datagram; the last one completes it. -/
  | fragment (last : Bool)
  /-- PTP: a one-step or two-step Sync, a Follow_Up, a Delay_Req, an Announce of the selected master with its announce
  interval in ms, and any other message. -/
  | sync (twoStep : Bool)
  | followUp
  | delayReq
  | announce (interval : Nat)
  | ptp
  | arpIcmp
  | other
  deriving DecidableEq, Repr

/-- A received Ethernet frame. -/
structure EthFrame where
  /-- Its FCS is good. -/
  fcs : Bool
  kind : EthKind
  /-- Identification of a fragmented datagram, or sequenceId with sourcePortIdentity of a PTP message. -/
  key : Nat
  /-- From the destination address to the FCS. -/
  bytes : List Byte
  deriving DecidableEq, Repr

/-- A received CAN frame (R469): flags holds fdf, brs, esi, xlf, rtr and sec in bits 0 to 5. -/
structure CanFrame where
  id : Nat
  ide : Bool
  flags : Nat
  sdt : Nat
  vcid : Nat
  accept : Word
  data : List Byte
  deriving DecidableEq, Repr
/-- What verification of a container finds outside the model (R539): its signature, body hash and GCM tag are right
(log entry 93, DESIGN CHOICE). -/
structure Crypto where
  signature : Bool
  hash : Bool
  gcm : Bool
  deriving DecidableEq, Repr

/-- What the start-up steps of R525 find (log entry 83, DESIGN CHOICE). -/
structure BootChecks where
  /-- Steps 1 to 3 pass: the rails lie within their windows, the PLL locks, the retained SRAM's CRC is right, and flash
  can be read. -/
  rails : Bool
  locked : Bool
  vault : Bool
  flash : Bool
  /-- By 2·type + slot of the flash: the results of verification, and the decrypted body of an encrypted container. -/
  crypto : List (Nat × Crypto)
  plain : List (Nat × List Byte)
  /-- Step 5: the lattice test passes, and every safe output reads back open. -/
  lattice : Bool
  outputsOpen : Bool
  /-- Step 6: the self-tests of the SRAM and of the lanes pass; the filter ROM passes at once (0), on the retry (1), or
  never (2). -/
  sram : Bool
  laneA : Bool
  laneB : Bool
  rom : Nat
  deriving DecidableEq, Repr

/-! ### Frames of the fabric -/

/-- A node's report to the surveyor (R473, R481): neighbours by port 0 to 3, 0 where the port is down. -/
structure NodeReport where
  uid : Nat
  fixed : Nat
  remembered : Nat
  neighbours : List Nat
  deriving DecidableEq, Repr

/-- The route list of a plane (R482): the nodes in order with their unique IDs and node IDs, whether the plane is a ring,
and, for a ring, the parting link: link k joins node k and the next, the last one node n − 1 and node 0. `stop`: the active
timetable fails on the plane (R485). -/
structure RouteList where
  plane : Nat
  order : List (Nat × Nat)
  ring : Bool
  parting : Nat
  stop : Bool
  deriving DecidableEq, Repr

/-- The cycle frame's payload (R498): times as in the table, `swapAt` S and `directAt` D. -/
structure CycleInfo where
  cycle : Nat
  seconds : Nat
  ns : Nat
  state : Nat
  utc : Nat
  deputy : Nat
  activeCrc : Word
  swapAt : Nat
  shadowCrc : Word
  directAt : Nat
  deriving DecidableEq, Repr

/-- What a TIMETABLE frame says (R493 to R496): entry words are numbered 2·slot + word. -/
inductive TtMsg where
  /-- A node asks the surveyor for the timetable (R496), and the surveyor's answer. -/
  | ask
  | whole (active shadow : List (Nat × Word)) (activeCycle shadowCycle : Nat)
  /-- A fixing node's change on its way to the surveyor. -/
  | change (direct : Bool) (entries : List (Nat × Word)) (cycle : Option Nat)
  /-- A change of every node's shadow; a direct write of every node, with D. -/
  | shadow (fixer : Nat) (entries : List (Nat × Word)) (cycle : Option Nat)
  | direct (entries : List (Nat × Word)) (boundary : Nat)
  /-- FAB_TT_SWAP on its way to the surveyor. -/
  | swap
  /-- The TIMETABLE lease has ended before a swap (R497). -/
  | reset
  deriving DecidableEq, Repr

/-- What a frame of each type carries. The spec gives the bytes of REPORT, CONFIRM, CYCLE and safe STREAM payloads and
names the contents of the others (log entry 19, DESIGN CHOICE). Keys are priority × 2^64 + unique ID (R479). -/
inductive FabBody where
  | hello (key id best : Nat)
  | claim (key : Nat)
  /-- SURVEY: start, with the surveyor's key; FAB_SURVEY on its way; the assigned IDs by unique ID; the survey's end. -/
  | start (key : Nat)
  | again
  | assign (ids : List (Nat × Nat)) (surveyor deputy : Nat)
  | done
  | route (list : RouteList)
  | cycle (info : CycleInfo)
  | stream (bytes : List Byte)
  /-- SECONDARY: a module's report, and a sects values (R504). -/
  | secReport (sect : Nat) (rating omega q target : Word)
  | secValue (sect : Nat) (offset : Word) (corr : List (Nat × Word))
  /-- GRANT: a request, a grant, a section reported live, and a grantee that has left (R505). -/
  | grantRequest (sect : Nat)
  | grant (sect node : Nat)
  | sectionLive (sect : Nat)
  | grantLeft
  | timetable (msg : TtMsg)
  | readReq (tag addr count : Nat)
  | readReply (tag status : Nat) (words : List Word)
  | report (r : NodeReport)
  /-- CONFIRM: subject and plane of R473, and whether the CRC is that of the confirmed content. -/
  | confirm (subject plane : Nat) (right : Bool)
  /-- A frame of a type from 0xC to 0xF. -/
  | other
  deriving DecidableEq, Repr

/-- A frame of the fabric by its header fields (R473); type and length follow from the body (log entry 19, DESIGN
CHOICE). -/
structure FabFrame where
  dst : Nat
  src : Nat
  sched : Bool
  stream : Nat
  hops : Nat
  seq : Nat
  body : FabBody
  deriving DecidableEq, Repr


/-- The commands and events of the block: one constructor for each row of the operation table. The operands carry
what comes from outside the module or what the spec leaves to the hardware of the moment. -/
inductive Instr where
  /-- MODULE_TICK (R593): The 1 ms module tick serves as program, lease and retry tick and drives every millisecond timer outside SAFE. -/
  | moduleTick (vsys vin temp : Nat)
  /-- INTERNAL_1US_BOUNDARY (R184): While the schedule timebase is stopped, the mode machine decides and queued coefficient words apply at each internal 1 µs boundary. -/
  | internal1usBoundary
  /-- SAMPLING_TRIGGER (R82): A conversion group's trigger, 375 CLK_CTL cycles before its update point, closes the apertures of its channels and sets their conversion grid. -/
  | samplingTrigger (group now dt : Nat)
  /-- CONVERSION_COMPLETE (R78): A SAR conversion completes 125 CLK_CTL cycles after its aperture and feeds FILT and the open-wire tests. -/
  | conversionComplete (channel : Nat) (level : Int)
  /-- OPEN_WIRE (R102): An input is marked open-wire after ow_count consecutive conversions at or beyond the threshold with the current flowing. -/
  | openWire (channel : Nat)
  /-- OPEN_WIRE_CLEAR (R102): A marked input clears after ow_count consecutive conversions below the threshold less 1/32 of full scale. -/
  | openWireClear (channel : Nat)
  /-- CONV_OW_TEST (R104): A write to CONV_OW_TEST starts or restarts a requested open-wire test on an analogue input. -/
  | convOwTest (packet : Packet)
  /-- OW_TEST_WINDOW_END (R103): The open-wire test window ends, and the results of the channel stay invalid for a further 10 µs. -/
  | owTestWindowEnd (channel : Nat)
  /-- SPARE_CALIBRATION_DONE (R97): The spare slice completes its 1.6 ms calibration against the reference and attaches to the next input. -/
  | spareCalibrationDone (checkOk : Bool)
  /-- SPARE_COMPARISON_DONE (R97): After 256 parallel conversions the spare takes over the input if its mean difference is 2 LSB or less. -/
  | spareComparisonDone (sumDiff : Int)
  /-- BITSTREAM_STALE (R107): No MCLK edge arrives within the stop limit, so the bitstream input is marked STALE and its partial window is discarded. -/
  | bitstreamStale (input : Nat)
  /-- BITSTREAM_RESUMED (R108): After 16 good clock periods a STALE input resumes, and its filter is flushed. -/
  | bitstreamResumed (input : Nat)
  /-- BITSTREAM_WINDOW_END (R115): A sinc3 decimation window of a bitstream channel ends and produces a preset output. -/
  | bitstreamWindowEnd (input preset : Nat) (bits : List Bool)
  /-- SETTLING_END (R120): The settling time of a preset after a flush passes, and its outputs become valid. -/
  | settlingEnd (channel preset : Nat)
  /-- THRESHOLD_ASSERT (R122): A threshold comparator asserts on the count-th consecutive output past its level, raising THRESHOLD_OVER or THRESHOLD_UNDER. -/
  | thresholdAssert (comparator now : Nat)
  /-- GROUP_SAMPLE_COMPLETE (R95): A group sample whose last result is complete enters the delivery queue, or it is dropped when the queue is full. -/
  | groupSampleComplete (group : Nat)
  /-- GROUP_SAMPLE_WRITTEN (R93): A queued group sample is written whole to its ring once ring space and descriptors are available. -/
  | groupSampleWritten (group : Nat)
  /-- SAMPLE_SCHEDULE (R14): A base sample runs the fixed 375-cycle lane schedule from aperture to compare staging in both lanes. -/
  | sampleSchedule (now corrected : Nat) (diag : List LaneFault) (agree linkA linkB : Bool)
  /-- MEAS_INVALID_LIMIT (R137): Invalid inputs persisting for the configured number of due samples raise MEAS_INVALID_LIMIT and enter SAFELIGHT. -/
  | measInvalidLimit (law : Nat)
  /-- HOLD_EXPIRED (R165): The held samples of a law are exhausted without release, and the hold ends, with SAFELIGHT if hold_exp_act is 1. -/
  | holdExpired (law : Nat)
  /-- GATE_ENABLE_REQUEST_FALL (R185): The lane's gate-enable request falls 4 µs after its stages entered RELEASED. -/
  | gateEnableRequestFall
  /-- RIDE_THROUGH_EXIT (R63): The normal-impedance reference at or below the exit fraction for 64 samples returns the converter to its return mode. -/
  | rideThroughExit
  /-- RIDE_THROUGH_EXPIRED (R64): t_fc expires before the exit condition, and the module enters SAFELIGHT. -/
  | rideThroughExpired
  /-- PRECHARGE_DONE (R193): v_dc has held within pc_band for pc_confirm, so pc_done is set. -/
  | prechargeDone
  /-- PRECHARGE_TIMEOUT (R193): The link is not charged within pc_timeout, or the STANDBY wait is cancelled. -/
  | prechargeTimeout
  /-- DC_LINK_LOST (R194): v_dc outside pc_band for pc_confirm clears pc_done and can enter SAFELIGHT with cause 0x0D. -/
  | dcLinkLost
  /-- BUS_DEAD (R196): vbmag below dead_thr for dead_conf confirms a dead bus. -/
  | busDead
  /-- BUS_LIVE (R196): vbmag and bus speed within bounds for live_conf confirm a live bus. -/
  | busLive
  /-- ROUTE_TIMEOUT (R196): The PRECHARGE wait for a dead or live decision or a grant is cancelled after route_timeout. -/
  | routeTimeout
  /-- SYNC_TIMEOUT (R202): BRK_CLOSE is not issued within sync_timeout, and the converter returns to PRECHARGE. -/
  | syncTimeout
  /-- BLACK_START_RAMP_COMPLETE (R200): The ramp time has elapsed with E_set arrived, and GRID_FORMING is entered. -/
  | blackStartRampComplete
  /-- UNLOAD_COMPLETE (R203): After 64 samples within unload_band the controlled stop issues BRK_OPEN. -/
  | unloadComplete
  /-- UNLOAD_TIMEOUT (R203): unload_timeout expires during a controlled stop, and BRK_OPEN is issued all the same. -/
  | unloadTimeout
  /-- BRK_FB_CHANGE (R198): A BRK_FB level stable for 2 ms counts as a change, which confirms a command or is handled as uncommanded. -/
  | brkFbChange (closed : Bool)
  /-- BREAKER_FAIL (R198): No BRK_FB confirmation arrives within t_cl + fb_margin. -/
  | breakerFail
  /-- SECONDARY_LOST (R58): No secondary value for three periods holds the last offsets, and droop continues alone. -/
  | secondaryLost
  /-- LAW_SET_COEF (R157): The command queues coefficient words in both lanes after its lease and range checks. -/
  | lawSetCoef (packet : Packet)
  /-- LAW_HOLD (R162): The command holds a law from its next sample for a number of samples. -/
  | lawHold (packet : Packet)
  /-- LAW_RELEASE (R164): The command ends a law's hold, optionally after a CRC check. -/
  | lawRelease (packet : Packet)
  /-- PROFILE_MOVE (R181): The command sets a new target of a profile output in both lanes. -/
  | profileMove (packet : Packet)
  /-- MODE_SET (R187): The command sets the target mode after lease, lockout, trip, key and configuration checks. -/
  | modeSet (packet : Packet)
  /-- ACTIVE_LANE_FAILED (R216): The active lane becoming FAILED withholds its compares, latches the selector and drops the ACTIVE token at the update point. -/
  | activeLaneFailed (now : Nat)
  /-- LANE_LINK_WATCHDOG (R211): The peer heartbeat missing for 8 cycles records the peer's loss. -/
  | laneLinkWatchdog (lane : Nat)
  /-- LANE_RECOVERY_START (R225): 1 ms after failing, a lane that may recover becomes RECOVERING and starts its self-test. -/
  | laneRecoveryStart (lane : Nat)
  /-- LANE_RECOVERED (R225): The 40 ms self-test completes, and on a pass the lane becomes STANDBY, out of step. -/
  | laneRecovered (lane : Nat) (pass : Bool)
  /-- RESYNC_COPY (R223): Dynamic state and any differing coefficients are copied to an out-of-step standby. -/
  | resyncCopy (lane : Nat)
  /-- LANE_RESYNC_DONE (R224): The standby's step count reaches 16 after a resynchronisation. -/
  | laneResyncDone (lane : Nat)
  /-- LANE_CHANGE_CMD (R226): Writing key 0xA5 to LANE_RED_CMD requests a commanded lane change at the next update point. -/
  | laneChangeCmd (packet : Packet)
  /-- LANE_RESYNC_CMD (R226): Writing key 0x5A to LANE_RED_CMD requests a resynchronisation of the standby. -/
  | laneResyncCmd (packet : Packet)
  /-- GENERATOR_EPOCH (R232): The PWM epoch falls on the first common 8 ns boundary after the fix, and the enabled timebases start. -/
  | generatorEpoch
  /-- TIMEBASE_ZERO_POINT (R232): At a timebase zero point, fixed changes to period, phase, mode or windows take effect. -/
  | timebaseZeroPoint (timebase now : Nat)
  /-- UPDATE_POINT (R233): At an update point staged compare values transfer to active values, subject to pair lock. -/
  | updatePoint (timebase now : Nat)
  /-- TRIP_SOURCE_ASSERT (R242): An external trip level that has held for its filter time counts as asserted or released. -/
  | tripSourceAssert (source : Nat) (high : Bool) (held now : Nat)
  /-- BLANKING_WINDOW_CLOSE (R244): A blanking window closes, so a trip whose source is still asserted can latch. -/
  | blankingWindowClose (window now : Nat)
  /-- TRIP_CLEAR (R246): A write to PWM_TRIP_CLR clears a latched trip unless its source is still asserted. -/
  | tripClear (packet : Packet)
  /-- GATE_COMMAND_CHANGE (R252): A channel's effective command changes after gate enable, fault state, refresh and interlock are applied. -/
  | gateCommandChange (now : Nat)
  /-- INTERLOCK_GAP_END (R262): A member's interlock gap ends, so a held ON command may be accepted. -/
  | interlockGapEnd (group channel : Nat)
  /-- GATE_PHASE_END (R258): A phase of a turn-on, turn-off or soft turn-off profile ends on time or on v_exit. -/
  | gatePhaseEnd (channel elapsed now : Nat) (volts : Int)
  /-- GATE_ENABLE_CHANGE (R254): The gate-enable bus falls or rises, and the channels soft-off or follow their commands. -/
  | gateEnableChange
  /-- FORCED_REFRESH (R268): refresh_n periods without a natural refresh force a bootstrap refresh at the next zero point. -/
  | forcedRefresh (pair : Nat)
  /-- SC (R271): SNS at or above sc_thr after blanking starts a soft turn-off and a channel fault. -/
  | sc (channel sns since : Nat)
  /-- SUPPLY_UV (R273): A filtered VCC_UV, VEE_UV or BOOT_UV condition becomes a fault or holds the channel in UNPOWERED. -/
  | supplyUv (channel kind : Nat) (level : Int)
  /-- OVERTEMP (R273): The driver junction reaching 150 °C is a channel fault. -/
  | overtemp (channel : Nat) (temp : Int)
  /-- RETRY_WAIT_END (R276): At the end of the retry wait the channel recovers, or the tick counts as a new occurrence. -/
  | retryWaitEnd (channel sns : Nat)
  /-- SAFETY_TICK (R291): Each 1 ms the safety processor samples inputs, judges safe data, evaluates functions, drives outputs, runs diagnostics and updates the mirror. -/
  | safetyTick (raw : Word) (rstA rstB : Bool) (closedA closedB voltage : Nat) (testOk : Bool) (persist : List Nat)
  /-- INPUT_DISCREPANCY (R296): A pair discrepant for N ticks faults, holds the pair in demand and latches LOCKOUT. -/
  | inputDiscrepancy (input : Nat)
  /-- LATTICE_DEMAND (R287): A lattice-marked input showing demand after the 1 µs filter drops the lattice's enable. -/
  | latticeDemand (input : Nat)
  /-- LATTICE_TEST (R292): The processor injects a 50 µs demand into the lattice and checks that its enable falls and recovers. -/
  | latticeTest (ok : Bool)
  /-- HEARTBEAT_LOST (R288): Three missed processor heartbeats latch the lattice's LOCKOUT. -/
  | heartbeatLost
  /-- LOCKSTEP_MISMATCH (R293): A lock-step mismatch latches the lattice and restarts both processor cores. -/
  | lockstepMismatch
  /-- PROCESSOR_RESTART_DONE (R293): The safety processor completes its 50 ms restart from the parameter table. -/
  | processorRestartDone
  /-- SOUT_TEST_PULSE (R301): Each test_period an on output opens its switches in turn and checks the readbacks. -/
  | soutTestPulse (output : Nat) (switchB : Bool) (opened closed : Nat)
  /-- SAFE_FRAME_RECEIVED (R304): A safe frame copy received on one plane is judged for validity against its subscription. -/
  | safeFrameReceived (plane node stream seq : Nat) (data crc : Word) (inSlot : Bool)
  /-- DEGRADED_WINDOW_EXPIRY (R306): The degraded window expires, and the subscription takes the safe value. -/
  | degradedWindowExpiry (subscription : Nat)
  /-- LOCAL_RESET (R312): The local reset hold count reaching reset_hold evaluates a release of LOCKOUT. -/
  | localReset (testOk : Bool) (persist : List Nat)
  /-- RESET_DISCREPANCY (R312): One reset channel high alone for more than 500 ms is reported and ignored. -/
  | resetDiscrepancy
  /-- LOCKOUT_ARM (R313): The command arms a remote LOCKOUT reset and returns a challenge. -/
  | lockoutArm (packet : Packet) (testOk : Bool)
  /-- LOCKOUT_CONFIRM (R314): The command, evaluated at the next tick, releases LOCKOUT when the arm, count and challenge match. -/
  | lockoutConfirm (packet : Packet)
  /-- ARM_EXPIRED (R313): A pending remote arm expires after confirm_window. -/
  | armExpired
  /-- SAFE_STATUS (R316): The command returns the SAFE status words from one tick. -/
  | safeStatus (packet : Packet)
  /-- SAFE_PARAM_READ (R316): The command returns the 336-byte parameter table. -/
  | safeParamRead (packet : Packet)
  /-- TASK_START_POINT (R324): At a task's start point its input image is latched and its calls become ready. -/
  | taskStartPoint (task : Nat) (dio : Word)
  /-- PROGRAM_WATCHDOG (R342): K overruns, a cycle past 2 × T_t or an error-task run past err_budget halts the program with safe outputs. -/
  | programWatchdog (task : Nat)
  /-- DISPATCH_GRANT (R328): The dispatcher grants the highest-priority ready call to a free core. -/
  | dispatchGrant (core : Nat)
  /-- BLOCK_CALL_COMPLETE (R329): A call completes and its outputs are released in table order. -/
  | blockCallComplete (call : Nat) (effect : BlockEffect) (rest cycles corrected : Nat)
  /-- ERROR_TASK_RUN (R344): The error task runs once for the oldest queued cause. -/
  | errorTaskRun (dio : Word)
  /-- PRG_LOAD (R336): The command writes a chunk of a program image and checks the image at the last chunk. -/
  | prgLoad (packet : Packet)
  /-- PRG_START (R337): The command fixes the loaded program cold or warm and enters RUNNING. -/
  | prgStart (packet : Packet)
  /-- PRG_STOP (R338): The command stops new task cycles and enters STOPPING. -/
  | prgStop (packet : Packet)
  /-- PROGRAM_STOPPED (R338): The last cycle in progress completes, the program enters STOPPED and outputs take safe values. -/
  | programStopped
  /-- FORCE_SET (R352): The command forces a program input, output or word to a value. -/
  | forceSet (packet : Packet)
  /-- FORCE_CLEAR (R354): The command clears one force or every force. -/
  | forceClear (packet : Packet)
  /-- KEY_CHANGE (R348): A key-switch level stable for 20 ms changes the decoded position. -/
  | keyChange (run stop : Bool)
  /-- HOST_LINK_LOST (R350): No valid command or keepalive arrives for longer than host_timeout. -/
  | hostLinkLost
  /-- UNCORRECTABLE_ERROR (R31): A failed access is retried once, at once, on the same resource. -/
  | uncorrectableError (region addr ctx : Nat) (dma : Bool) (channel : Nat)
  /-- RETRY_RESULT (R32): The retry completes and the fault is classified transient or lasting. -/
  | retryResult (ok : Bool)
  /-- SCRUB_ACCESS (R360): The scrubber reads the next 64-byte block of shared SRAM and corrects or retries errors. -/
  | scrubAccess (corrected : Nat) (bad : Bool)
  /-- BADPAGE_CLEAR (R363): Writing 1 to a MEM_BADPAGE bit starts a zeroing pass over the page. -/
  | badpageClear (packet : Packet)
  /-- BADPAGE_CLEAR_DONE (R363): The zeroing pass completes and the page mark clears. -/
  | badpageClearDone (page : Nat)
  /-- BANK_GRANT (R366): A bank arbiter grants the next access by class and age level. -/
  | bankGrant (bank : Nat) (requests : List Nat) (withdrawn : Bool) (beats wait : Nat)
  /-- FILM_WRITE (R367): The film writer takes a reserved bank cycle for a ready beat. -/
  | filmWrite (bank : Nat)
  /-- FAULT_RECORD_WRITE (R368): The fault-record writer writes a 256-byte record into the fault-record region. -/
  | faultRecordWrite
  /-- MEM_READ (R373): The command reads memory through the session's context. -/
  | memRead (packet : Packet) (host : List Byte) (corrected : Nat)
  /-- MEM_WRITE (R432): The command writes memory or directly acting registers after whole-command checks. -/
  | memWrite (packet : Packet) (corrected : Nat)
  /-- MEM_MAP (R374): The command adds a mapping to the session's context. -/
  | memMap (packet : Packet)
  /-- MEM_UNMAP (R375): The command removes mappings after accesses in progress end. -/
  | memUnmap (packet : Packet)
  /-- DMA_START (R378): The command starts a chain of transfers on an owned idle channel. -/
  | dmaStart (packet : Packet)
  /-- DMA_ABORT (R382): The command stops a chain at the next burst boundary. -/
  | dmaAbort (packet : Packet)
  /-- DMA_STATUS (R373): The command returns a channel's status and done counts. -/
  | dmaStatus (packet : Packet)
  /-- DMA_BURST (R379): An engine moves one burst of up to 64 bytes for the highest-priority ready channel. -/
  | dmaBurst (engine err : Nat) (host : List Byte) (corrected : Nat)
  /-- DMA_FAULT_CLEAR (R381): Writing 1 to a MEM_DMA fault bit clears the mark and returns the channel to IDLE. -/
  | dmaFaultClear (packet : Packet)
  /-- DESCRIPTOR_ALLOCATION (R387): The pool allocator serves or refuses a ring's descriptor request. -/
  | descriptorAllocation (ring descs : Nat) (bytes : List Byte)
  /-- RING_HEAD_ADVANCE (R383): A consumer advances a ring's head, and the descriptors return to the pool. -/
  | ringHeadAdvance (ring descs : Nat)
  /-- SHUTTER_SAMPLE (R392): Every div + 1 pacing outputs a shutter writes a sample to its film and tests triggers and masks. -/
  | shutterSample (shutter : Nat) (pads dio sins : Word) (dt : Nat)
  /-- PATTERN_TRIGGER (R401): A pattern that has held for dur cycles triggers the shutter. -/
  | patternTrigger (shutter back frac held : Nat) (pads dio sins : Word)
  /-- RECORD_CLOSED (R397): The record header is written and a film notice appended, then the shutter re-arms, idles or goes FULL. -/
  | recordClosed (shutter : Nat)
  /-- SHUTTER_ARM (R405): The command arms an idle shutter at its next sample. -/
  | shutterArm (packet : Packet)
  /-- SHUTTER_STOP (R405): The command stops a shutter or closes its triggered record as STOPPED. -/
  | shutterStop (packet : Packet)
  /-- SHUTTER_TRIGGER (R405): The command forces a trigger at the next sample of an armed shutter. -/
  | shutterTrigger (packet : Packet)
  /-- SHUTTER_RELEASE (R405): The command frees closed records up to seq. -/
  | shutterRelease (packet : Packet)
  /-- SHUTTER_STATUS (R404): The command returns a shutter's state and sequence. -/
  | shutterStatus (packet : Packet)
  /-- INVALID_PACKET (R415): A packet failing header, size, CRC, session, seq or tag checks is dropped or refused before its opcode runs. -/
  | invalidPacket (step opcode : Nat) (packet : Packet)
  /-- DUPLICATE_PACKET (R425): A resent packet matching a consumed seq and CRC gets its latest reply again. -/
  | duplicatePacket (opcode : Nat) (packet : Packet)
  /-- SESSION_OPEN (R423): The command opens the lowest free session as OBSERVER. -/
  | sessionOpen (packet : Packet)
  /-- SESSION_AUTH_PHASE1 (R547): Phase 1 of session authentication exchanges ephemeral keys and nonces. -/
  | sessionAuthPhase1 (packet : Packet)
  /-- SESSION_AUTH_PHASE2 (R547): Phase 2 verifies the host signature and sets the session's role and key. -/
  | sessionAuthPhase2 (packet : Packet) (sigOk : Bool)
  /-- SESSION_CLOSE (R426): The command closes the session after its earlier commands. -/
  | sessionClose (packet : Packet)
  /-- SESSION_KEEPALIVE (R439): The command renews every lease of its session. -/
  | sessionKeepalive (packet : Packet)
  /-- SESSION_INFO (R428): The command returns the session word and its leases. -/
  | sessionInfo (packet : Packet)
  /-- SESSION_IDLE_CLOSE (R426): A session with no packet for session_timeout closes and its work is discarded. -/
  | sessionIdleClose (session : Nat)
  /-- COMMAND_TIMEOUT (R442): A command not started within command_timeout is answered TIMEOUT. -/
  | commandTimeout (session seq : Nat)
  /-- CFG_READ (R430): The command reads fixed, staged or ledger values. -/
  | cfgRead (packet : Packet)
  /-- CFG_WRITE (R431): The command stages register values for FIX. -/
  | cfgWrite (packet : Packet) (elsewhere : Bool)
  /-- CFG_FIX (R433): The command validates the staged set and records its claims, or refuses it. -/
  | cfgFix (packet : Packet)
  /-- FIX_APPLIED (R434): Every object of an accepted set has taken its values at its boundary, and the final OK is sent. -/
  | fixApplied
  /-- CFG_DISCARD (R436): The command empties the staging area. -/
  | cfgDiscard (packet : Packet)
  /-- LEASE_TAKE (R437): The command grants or renews a lease on an object. -/
  | leaseTake (packet : Packet) (elsewhere : Bool)
  /-- LEASE_RELEASE (R438): The command ends a lease the session holds. -/
  | leaseRelease (packet : Packet)
  /-- LEASE_EXPIRY (R439): A lease expires at the lease tick after its duration, with the effects of R440. -/
  | leaseExpiry (entry : Nat)
  /-- PCIE_DOORBELL (R419): A write of CQ_TAIL makes the module take command slots from the host queue. -/
  | pcieDoorbell (channel : Nat) (setup : List (Nat × Word)) (tail : Nat)
  /-- PCIE_RQ_HEAD_WRITE (R419): A write of RQ_HEAD frees reply slots in host memory. -/
  | pcieRqHeadWrite (channel head : Nat)
  /-- PCIE_LINK_RESET (R419): Link-down, hot reset or function-level reset resets the ring windows and faults PCIe sessions. -/
  | pcieLinkReset (down : Bool)
  /-- BAR2_WRITE (R419): A BAR2 write reaches shared SRAM as BULK or is discarded for registers and in CERT_MODE. -/
  | bar2Write (addr : Nat) (value : Word)
  /-- ETH_REASSEMBLY_TIMEOUT (R420): A reassembly incomplete 20 ms after its first fragment is discarded. -/
  | ethReassemblyTimeout (port key : Nat)
  /-- ETH_PORT_DOWN_FAULT (R420): A port whose link stays down for 1 s faults its sessions. -/
  | ethPortDownFault (port : Nat)
  /-- SPI_WRITE (R421): A WRITE transaction receives one SCP packet from the host. -/
  | spiWrite (whole : Bool)
  /-- SPI_READ (R421): A READ transaction sends the oldest waiting reply or notice. -/
  | spiRead (whole : Bool)
  /-- SPI_INVALID_TYPE (R421): A transaction with an unknown first byte is ignored and counted. -/
  | spiInvalidType
  /-- SPI_CS_RISE (R422): HSPI_CS rising ends the transaction and abandons an incomplete frame. -/
  | spiCsRise
  /-- SPI_FRAME_ABORTED (R422): An inter-byte gap beyond ib_timeout abandons the frame. -/
  | spiFrameAborted
  /-- ETH_FRAME_RECEIVED (R445): A received frame is taken for SCP, PTP, ARP or ICMP, bridged, or dropped. -/
  | ethFrameReceived (port : Nat) (frame : EthFrame) (dt : Nat)
  /-- ETH_FRAME_SENT (R448): A transmitted unit writes back its completion and timestamp. -/
  | ethFrameSent (port what dt : Nat) (tsReq last : Bool)
  /-- PTP_SYNC (R454): A synchronisation adjusts the time counter increment, slews or steps it. -/
  | ptpSync (offset : Int) (incNs incFrac portState utc : Nat)
  /-- TIME_LOCKED (R452): 16 consecutive synchronisations within lock_thr lock the time counter. -/
  | timeLocked
  /-- TIME_SOURCE_LOST (R461): Missing Announce or Sync for ann_timeout intervals loses the time source. -/
  | timeSourceLost
  /-- TIME_FREE (R452): Holdover passes and the time counter becomes FREE. -/
  | timeFree
  /-- TIME_ADJ_STEP (R455): A write of NET_TC_ADJ with step set steps the time counter. -/
  | timeAdjStep (packet : Packet)
  /-- TIME_ADJ_SLEW (R455): A write of NET_TC_ADJ with step clear slews the time counter. -/
  | timeAdjSlew (packet : Packet)
  /-- TIME_SET_SECONDS (R455): A write of NET_TC_SETSEC sets the seconds at the next tick. -/
  | timeSetSeconds (packet : Packet)
  /-- TIME_MATCH (R457): A time comparator fires when its target is reached. -/
  | timeMatch (comparator dt : Nat)
  /-- CAN_FRAME_RECEIVED (R466): A received CAN frame that passes the filters is delivered to ring 59. -/
  | canFrameReceived (controller : Nat) (frame : CanFrame) (dt errors tec rec' : Nat)
  /-- CAN_FRAME_SENT (R467): A CAN frame completes or fails on the bus and is written back. -/
  | canFrameSent (controller : Nat) (lost : Bool) (dt errors tec rec' : Nat)
  /-- CAN_BUS_OFF (R467): A controller enters bus-off and writes back the frame on the bus. -/
  | canBusOff (controller : Nat) (onBus : Bool) (dt : Nat)
  /-- CAN_BUS_ON (R467): Bus-off recovery completes after 128 × 11 recessive bits. -/
  | canBusOn (controller : Nat)
  /-- CAN_RESTART (R467): The restart bit of NET_CANn_CMD begins bus-off recovery. -/
  | canRestart (packet : Packet)
  /-- CAN_ABORT (R468): The abort bit of NET_CANn_CMD writes back every queued frame as aborted. -/
  | canAbort (packet : Packet)
  /-- LINK_UP (R472): A fabric link completes training, idle and delay qualification, or it is refused. -/
  | linkUp (port delay : Nat) (samePlane : Bool)
  /-- LINK_DOWN (R478): A lost or marked link stops carrying frames and discards the work that used it. -/
  | linkDown (port : Nat)
  /-- FAB_FRAME_RECEIVED (R475): A fabric frame is forwarded cut-through and consumed by type when addressed to the node. -/
  | fabFrameReceived (port : Nat) (frame : FabFrame) (aborted : Bool) (arrival : Nat)
  /-- FAB_FRAME_CHECK_FAIL (R476): A frame failing its check is aborted downstream and a NAK is sent upstream. -/
  | fabFrameCheckFail (port tag copy : Nat) (frame : FabFrame)
  /-- NAK_RECEIVED (R476): A NAK makes the upstream node resend the tagged frame once. -/
  | nakReceived (port tag : Nat) (passes : Bool)
  /-- FRAME_IDLE_STOP (R477): 64 idle symbol times inside a frame close the forwarded copy with an abort. -/
  | frameIdleStop (port stray : Nat) (frame : FabFrame)
  /-- HELLO_SEND (R479): A node sends a HELLO on an up link after its random delay and every 100 ms. -/
  | helloSend (port : Nat)
  /-- BECOME_SURVEYOR (R480): With no better claim for 50 ms the node becomes surveyor and broadcasts SURVEY start. -/
  | becomeSurveyor
  /-- REPORT_SEND (R481): After a random delay a node sends its REPORT to the surveyor. -/
  | reportSend
  /-- SURVEY_DONE (R482): The surveyor receives every confirmation of the route lists. -/
  | surveyDone
  /-- FAB_SURVEY (R484): The command makes the surveyor repeat reports, assignment and route lists. -/
  | fabSurvey (packet : Packet)
  /-- FAB_STATUS (R507): The command returns the fabric status words from one cycle. -/
  | fabStatus (packet : Packet)
  /-- FAB_NODE_READ (R507): The command reads words from a far node's device space. -/
  | fabNodeRead (packet : Packet)
  /-- FAB_NODE_READ_TIMEOUT (R507): No reply to a node read arrives within 100 ms. -/
  | fabNodeReadTimeout
  /-- FAB_TT_SWAP (R494): The command announces a swap of shadow into active at cycle C + 16. -/
  | fabTtSwap (packet : Packet)
  /-- TT_SWAPPED (R494): At the swap boundary every node copies its shadow into the active timetable. -/
  | ttSwapped
  /-- TT_DIRECT_APPLY (R495): At boundary D, or D + 1 for slots in progress, a direct timetable change applies to the active copy. -/
  | ttDirectApply
  /-- TT_DISTRIBUTION_TIMEOUT (R493): A shadow FIX replies OK 200 ms after distribution began without every confirmation. -/
  | ttDistributionTimeout
  /-- CYCLE_START (R499): A fabric cycle starts, and its cycle frame aligns the node's cycle timer and time. -/
  | cycleStart (dt incNs incFrac : Nat)
  /-- SLOT_TRANSMIT (R489): A source transmits its slot frame at the slot's offset. -/
  | slotTransmit (slot : Nat)
  /-- CYCLE_LOST (R500): 8 cycles without a valid cycle frame stop scheduled transmission. -/
  | cycleLost
  /-- SURVEYOR_CHANGED (R500): After 3 missing cycle frames the deputy takes over as surveyor. -/
  | surveyorChanged
  /-- STREAM_LOST (R502): No valid copy for lost_n cycles loses the subscription. -/
  | streamLost (subscription : Nat)
  /-- STREAM_RETURNED (R502): Two cycles with valid copies make the subscription valid again. -/
  | streamReturned (subscription : Nat)
  /-- SECONDARY_REPORT_SEND (R504): A participating module sends its secondary report once per period. -/
  | secondaryReportSend
  /-- SECONDARY_COMPUTE (R504): Once per period the surveyor computes and broadcasts section offsets and reactive corrections. -/
  | secondaryCompute
  /-- PORT_RETRY (R478): A marked-down port tries to qualify again after 1 s. -/
  | portRetry (port : Nat)
  /-- PORT_CLEAR (R478): Writing 1 to FAB_PORTp_CMD clear ends a port's hold. -/
  | portClear (packet : Packet)
  /-- PLL_LOCK (R513): Phase error within ±1 ns for 4,096 REFCLK cycles declares lock and restarts the outputs. -/
  | pllLock
  /-- PLL_UNLOCK (R513): Phase error outside ±2 ns for 16 cycles declares the PLL unlocked. -/
  | pllUnlock
  /-- RELOCK_START (R515): At an alignment point the outputs are gated off and the domains move to the detour clock. -/
  | relockStart
  /-- RELOCK_TIMEOUT (R518): No lock within 2 ms retries the acquisition once, then resets the module. -/
  | relockTimeout
  /-- REFCLK_LOST (R514): No REFCLK edge for 400 ns, or a frequency error, loses the reference and resets the module. -/
  | refclkLost
  /-- REFCLK_PRESENT (R514): REFCLK within 0.5 % for 1 ms is present again. -/
  | refclkPresent
  /-- VSYS_FAIL (R523): VSYS below 16.0 V starts the reset entry and the hold-up. -/
  | vsysFail
  /-- HOLDUP_END (R523): Reset is asserted at the hold-up end threshold or 10 ms after VSYS_FAIL. -/
  | holdupEnd (duration vmin : Nat)
  /-- POWER_GOOD (R521): VSYS above 17.0 V for 100 ms releases reset. -/
  | powerGood (cold : Bool)
  /-- VSYS_HIGH (R521): VSYS above 33.0 V for 1 ms raises VSYS_HIGH. -/
  | vsysHigh
  /-- RAIL_OUT_OF_WINDOW (R521): An internal rail outside its window for 5 µs causes a reset entry. -/
  | railOutOfWindow
  /-- REVERSE_BLOCKED (R522): VSYS exceeding VIN_SNS turns the reverse-battery MOSFET off. -/
  | reverseBlocked
  /-- RESET_ENTRY (R520): A reset entry lowers gate enable and asserts reset 5 µs later. -/
  | resetEntry
  /-- RESET_ASSERT (R530): Reset returns registers to their reset values, closes sessions and ends leases. -/
  | resetAssert
  /-- RESET_REQUEST (R529): A write of 0x5AA5 to SYS_RESET_CMD starts a reset entry 2 ms later. -/
  | resetRequest (packet : Packet)
  /-- START_UP (R525): After reset the module runs the start-up steps in order towards STANDBY. -/
  | startUp (checks : BootChecks)
  /-- STARTUP_DONE (R525): Start-up completes and the mode target is set to STANDBY. -/
  | startupDone (ms : Nat)
  /-- VBAT_MEASURE (R531): Each hour VBAT is measured and VBAT_LOW is raised below 2.6 V. -/
  | vbatMeasure (mv : Nat)
  /-- IMAGE_BEGIN (R541): The command opens an image transfer and erases the inactive slot. -/
  | imageBegin (packet : Packet)
  /-- IMAGE_ERASE_DONE (R541): The erase of the inactive slot completes, and the final OK is sent. -/
  | imageEraseDone
  /-- IMAGE_DATA (R542): The command writes a chunk into the inactive slot. -/
  | imageData (packet : Packet)
  /-- IMAGE_COMMIT (R543): The command verifies the slot and writes its pending mark. -/
  | imageCommit (packet : Packet)
  /-- IMAGE_STATUS (R544): The command returns the slot state of each object type. -/
  | imageStatus (packet : Packet)
  /-- AUDIT_READ (R553): The command returns held audit entries. -/
  | auditRead (packet : Packet)
  /-- AUDIT_FLUSH (R553): Buffered audit entries are written to the flash ring. -/
  | auditFlush
  /-- CREDENTIAL_SET (R545): The command sets a credential entry or programs or revokes an owner slot. -/
  | credentialSet (packet : Packet)
  /-- CERT_MODE_SET (R549): The command enters or leaves CERT_MODE, consuming a step. -/
  | certModeSet (packet : Packet)
  /-- TAMPER (R550): A tamper input asserted for 4 samples is recorded and may reset the module and latch. -/
  | tamper (input : Nat) (high : Bool)
  /-- TAMPER_CLEAR (R551): The command clears tamper latches whose inputs are no longer asserted. -/
  | tamperClear (packet : Packet)
  /-- EVENT_WRITE (R560): The merger writes queued events to the matching event rings. -/
  | eventWrite
  /-- EVENT_SUBSCRIBE (R561): The command replaces an event ring's filter list. -/
  | eventSubscribe (packet : Packet)
  /-- EVENT_UNSUBSCRIBE (R561): The command empties an event ring's filter list. -/
  | eventUnsubscribe (packet : Packet)
  /-- STATUS_READ (R562): The command returns the status and event words of every block. -/
  | statusRead (packet : Packet)
  /-- COUNTER_READ (R567): The command returns counters from one cycle. -/
  | counterRead (packet : Packet)
  /-- PERF_CLEAR (R567): A write to PERF_CLEAR sets the named counters to 0. -/
  | perfClear (packet : Packet)
  /-- COUNTER_OVERFLOW (R565): A counter passing 0xFFFF_FFFF reloads and may capture a sample. -/
  | counterOverflow (counter : Nat) (sample : Word)
  /-- CONTACT_SHEET (R568): The command, or a comparator firing, snapshots every counter and fault statistic. -/
  | contactSheet (packet : Option Packet)
  /-- BANDWIDTH_WINDOW_END (R570): A bandwidth window ends and records its beats and peak. -/
  | bandwidthWindowEnd (window : Nat)
  /-- TRANSIENT_RATE (R569): A block reaching rate_thr transients in a 1 s window raises TRANSIENT_RATE. -/
  | transientRate (block : Nat)
  /-- REGISTER_WRITE (R432): A direct write reaches a W1C, WO or clearing register that has no row of its own. -/
  | registerWrite (packet : Packet)
  /-- LATTICE_DEMAND_END (R287): A lattice-marked input stops showing demand after the 1 µs filter, and the lattice's enable rises again. -/
  | latticeDemandEnd (input : Nat)
  /-- SUPPLY_CONDITION_CLEAR (R274): A supply condition of a channel held in UNPOWERED clears, and the channel leaves UNPOWERED for OFF. -/
  | supplyConditionClear (channel kind : Nat) (level : Int)
  /-- BAD_OPCODE (R428): A packet that passes steps 1 to 6 of R415 carries an opcode not in the table, consumes its seq and is answered BAD_OPCODE. -/
  | badOpcode (opcode : Nat) (packet : Packet)
  /-- ETH_LINK_DOWN (R420): An Ethernet port loses its link, which clears its up bit and starts the 1 s wait before its sessions fault. -/
  | ethLinkDown (port : Nat)
  /-- ETH_LINK_UP (R443): An Ethernet port's link comes up, which sets its up bit and cancels a pending down wait. -/
  | ethLinkUp (port speed : Nat)
  /-- PCIE_LINK_UP (R419): The PCI Express link trains and comes up, so pcie_up is set and the ring windows become usable again. -/
  | pcieLinkUp (gen width : Nat)
  /-- ID_ASSIGNMENT (R481): At the end of the report phase the surveyor assigns node IDs and broadcasts the route lists of each plane. -/
  | idAssignment (partingX partingY : Nat)
  /-- RTC_WRITE (R533): While the time counter is LOCKED, the module writes the RTC seconds at each whole second of the counter. -/
  | rtcWrite
  /-- RB_GATE_DRIVE (R522): VIN_SNS exceeds VSYS by 50 mV again, and the charge pump drives RB_GATE to turn the reverse-battery MOSFET back on. -/
  | rbGateDrive
  /-- VAULT_BROWN_OUT (R532): The vault supply falls below 2.3 V and sets the brown-out latch that invalidates the vault at the next start-up. -/
  | vaultBrownOut
  /-- IMAGE_COMMITTED (R543): Verification of the committed slot completes, its pending mark is written and the final reply is sent. -/
  | imageCommitted (signature hash gcm : Bool)
  /-- SOUT_OVERCURRENT (R302): A safe output carrying above 0.7 A for 100 µs faults, opens both switches and latches LOCKOUT with cause 0x03. -/
  | soutOvercurrent (output : Nat)
  deriving DecidableEq, Repr

end Sys2Proof
end

