-- ==== Sys2Proof/Decode.lean ====
section
/-! DEFINITION. Table words: the operation table gives no row any bits, so no word spells a command. -/

namespace Sys2Proof

/-- The command that the table word `w` of `nbits` bits spells. The operation table lists no bits for any row (log entry
12, DESIGN CHOICE). -/
def decodeTableWord (_nbits _w : Nat) : Option Instr := none

end Sys2Proof
end

