-- ==== Sys2Proof/Config.lean ====
section
/-! DEFINITION. What an implementation fixes and the spec leaves open: free values (opaque constants, applied to a
counter of the state or to operands) and constants the spec names but does not give. -/

namespace Sys2Proof.Config

/-- A fresh free word: the value of the counter `State.fresh` picks one. Nothing is known of it. -/
opaque freeWord : Nat → BitVec 32

/-- A fresh free 128-bit value: nonces, challenges and keys the spec calls random (log entry 5, DESIGN CHOICE). -/
opaque freeKey : Nat → BitVec 128

/-- A fresh free byte: contents the spec calls undefined, one per address (log entry 5, DESIGN CHOICE). -/
opaque freeByte : Nat → Nat → BitVec 8

/-- Payload bits of a quiet NaN of the format with `p` significand bits (log entry 7, DESIGN CHOICE). -/
opaque nanBits : Nat → BitVec 51

/-- The bytes in which a timer, a flag or a field narrower than a register enters a lane's state CRC: the spec gives no
width (R208; log entry 115, DESIGN CHOICE). -/
opaque crcField : Nat → List (BitVec 8)

/-- Coefficient `i` below the centre of SAR preset `p` in the filter ROM, a signed 20-bit number the spec does not list
(R116; log entry 6, DESIGN CHOICE). -/
opaque firTap : Nat → Nat → BitVec 20

/-- Code word by which an event names why a lease ended: 0 expiry, 1 LEASE_RELEASE, 2 the end of its session; the spec
gives no coding (R440; log entry 15, DESIGN CHOICE). -/
opaque leaseCause : Nat → BitVec 32

/-- Code and detail of an audit entry of a kind with an argument and a result; the spec gives no coding (R552; log entry
15, DESIGN CHOICE). -/
opaque auditCode : Nat → Nat → BitVec 16
opaque auditDetail : Nat → Nat → Nat → BitVec 64

/-- What stands for a remote I/O value while its station is lost (R346). -/
inductive Substitute where
  | last
  | zero
  | value (v : BitVec 32)
  deriving DecidableEq, Repr

/-- What a word of a task's input image holds (R324): the DIO levels, the key position, word `w` of subscription `j`'s
value, whether that value is valid, or a CAN value held in word `w` of the program region. -/
inductive ImageItem where
  | pads
  | key
  | remote (j w : Nat) (lost : Substitute)
  | valid (j : Nat)
  | held (w : Nat)
  deriving DecidableEq, Repr

/-- What the block library defines for a type (R321, R332 to R334): for each input the reference written at a cold start
and the default of an unconnected one; the output words and the words of state as a cold start leaves them; the places of
EN among the inputs, of ENO and of the status output among the outputs, and of the outputs that a rule gives: EVENT_RD's
code and index (R344), SHUT_ARM's measurements and MDONE (R412). -/
structure BlockType where
  inputs : List (BitVec 32 × BitVec 32)
  outputs : List (BitVec 32)
  state : List (BitVec 32)
  en : Nat
  eno : Nat
  status : Nat
  named : List Nat
  deriving DecidableEq, Repr, Inhabited

/-- The library's definition of a type code: R332 says that it is fixed, the spec does not list it (log entry 120,
DESIGN CHOICE). -/
opaque blockType : Nat → BlockType

/-- The header word of an instance record, which holds a type and a length (R321; log entry 120, DESIGN CHOICE). -/
opaque blockHeader : Nat → Nat → BitVec 32

/-- The DIO pads, engine-interface words or profile output that a block of a type names with this record (R335; log
entry 120, DESIGN CHOICE). -/
opaque blockNames : Nat → List (BitVec 32) → List Nat

/-- The words of its task's input image, by index, that a block of a type asks for with this record (R324; log entry
120, DESIGN CHOICE). -/
opaque blockImage : Nat → List (BitVec 32) → List (Nat × ImageItem)

/-- What an index of the input image reads as that no block asks for (log entry 120, DESIGN CHOICE). -/
opaque imageRest : Nat → BitVec 32

/-- The code in word 1 of the fault record that a reset entry of a cause takes: R563 names the record, and no event has
its code (log entry 21, DESIGN CHOICE). -/
opaque entryCode : Nat → BitVec 16

end Sys2Proof.Config
end

