-- ==== Sys2Proof/Machine/Bits.lean ====
section
/-! DEFINITION. Bit fields of a word, byte order (little-endian, R5), two's complement readings, and CRC-32C.
Everything here is pure arithmetic used by every subsystem. -/

namespace Sys2Proof.Machine

/-- The field of `n` bits of `w` that starts at bit `lo`, as a number. -/
def field (w : Word) (lo n : Nat) : Nat := (w.toNat / 2 ^ lo) % 2 ^ n

/-- `w` with the field of `n` bits at bit `lo` holding `v` modulo 2^n. -/
def putFld (w : Word) (lo n v : Nat) : Word :=
  BitVec.ofNat 32 (w.toNat % 2 ^ lo + (v % 2 ^ n) * 2 ^ lo + (w.toNat / 2 ^ (lo + n)) * 2 ^ (lo + n))

/-- `w` with bit `i` made `b`. -/
def putBit (w : Word) (i : Nat) (b : Bool) : Word := putFld w i 1 (bitNat b)

/-- The indices below `n` at which `p` holds, ascending. -/
def indicesWhere (n : Nat) (p : Nat → Bool) : List Nat := (List.range n).filter p

/-- The number whose bit i is `p i`, for i below `n`. -/
def bitsOf (n : Nat) (p : Nat → Bool) : Nat :=
  (List.range n).foldr (fun i acc => bitNat (p i) * 2 ^ i + acc) 0

/-- Two's complement reading of the low `n` bits of `v`. -/
def signedOf (n v : Nat) : Int :=
  if v % 2 ^ n < 2 ^ (n - 1) then (v % 2 ^ n : Nat) else ((v % 2 ^ n : Nat) : Int) - (2 ^ n : Nat)

/-- The `n`-bit two's complement code of `z`. -/
def codeOf (n : Nat) (z : Int) : Nat := (z % ((2 ^ n : Nat) : Int)).toNat

/-- `z` held to the range `lo` to `hi`. -/
def clampInt (lo hi z : Int) : Int := if z < lo then lo else if hi < z then hi else z

/-- The four bytes of a word, lowest address first (R5). -/
def wordBytes (w : Word) : List Byte :=
  [BitVec.ofNat 8 w.toNat, BitVec.ofNat 8 (w.toNat / 2 ^ 8),
   BitVec.ofNat 8 (w.toNat / 2 ^ 16), BitVec.ofNat 8 (w.toNat / 2 ^ 24)]

/-- The bytes of a list of words in address order. -/
def wordsBytes (ws : List Word) : List Byte := ws.flatMap wordBytes

/-- The little-endian number in a list of bytes. -/
def bytesNat : List Byte → Nat
  | [] => 0
  | b :: bs => b.toNat + 256 * bytesNat bs

/-- The word in the first four bytes of a list; bytes beyond its end count as 0. -/
def bytesWord (bs : List Byte) : Word := word (bytesNat (bs.take 4))

/-- The first `n` words of a list of bytes. -/
def bytesWords : Nat → List Byte → List Word
  | 0, _ => []
  | n + 1, bs => bytesWord bs :: bytesWords n (bs.drop 4)

/-- The little-endian number of `n` bytes at byte offset `o` of a list. -/
def leAt (bs : List Byte) (o n : Nat) : Nat := bytesNat ((bs.drop o).take n)

/-- One bit step of the reflected CRC-32C register. -/
def crcBit (c : Nat) : Nat := if c % 2 = 1 then (c / 2) ^^^ 0x82F63B78 else c / 2

/-- One byte of CRC-32C. -/
def crcByte (c : Nat) (b : Byte) : Nat :=
  crcBit (crcBit (crcBit (crcBit (crcBit (crcBit (crcBit (crcBit (c ^^^ b.toNat))))))))

/-- CRC-32C (Castagnoli, reflected, initial value and final inversion all ones) of a list of bytes. -/
def crc32c (bs : List Byte) : Word := word ((bs.foldl crcByte 0xFFFFFFFF) ^^^ 0xFFFFFFFF)

end Sys2Proof.Machine
end

