-- ==== Sys2Proof/Machine/RegMap.lean ====
section
/-! DEFINITION. The register maps as a table: for every register its address, the strides and counts of its indices,
its access code (R7), the bits its fields occupy (reserved bits read 0 and ignore writes, R9) and its reset value
(R10). -/

namespace Sys2Proof.Machine

/-- Access codes of R7. -/
inductive Access where
  | rw | ro | wo | w1c | rc
  deriving DecidableEq, Repr

/-- One row of a register map. -/
structure RegRow where
  base : Nat
  /-- Strides and counts of the indices, greatest stride first. -/
  dims : List (Nat × Nat)
  access : Access
  /-- Bits that hold a field. -/
  mask : Nat
  /-- The Reset column; "U" and "V" registers take 0 (log entry 2, DESIGN CHOICE). -/
  reset : Nat
  /-- Held in the vault domain ("V" in the Reset column, R10). -/
  vault : Bool
  deriving DecidableEq, Repr

/-- Whether byte offset `o` is the start of a register of an array with these strides and counts. -/
def inDims : Nat → List (Nat × Nat) → Bool
  | o, [] => o == 0
  | o, (st, n) :: r => decide (o / st < n) && inDims (o % st) r

/-- The register map of SYS. -/
def rowsSys : List RegRow :=
  [{ base := 0x10000000, dims := [], access := .ro, mask := 0xFFFFFFFF, reset := 0x0, vault := false },
   { base := 0x10000004, dims := [], access := .w1c, mask := 0xFF, reset := 0x0, vault := false },
   { base := 0x10000008, dims := [], access := .rw, mask := 0xF, reset := 0x0, vault := false },
   { base := 0x1000000C, dims := [], access := .ro, mask := 0xFFFFFFFF, reset := 0x0, vault := false },
   { base := 0x10000010, dims := [], access := .rc, mask := 0xFFFF, reset := 0x0, vault := false },
   { base := 0x10000014, dims := [], access := .ro, mask := 0xFFFFFFFF, reset := 0x0, vault := true },
   { base := 0x10000018, dims := [], access := .wo, mask := 0xFFFF, reset := 0x0, vault := false },
   { base := 0x1000001C, dims := [], access := .ro, mask := 0xFFFFFFFF, reset := 0x0, vault := false },
   { base := 0x10000020, dims := [], access := .ro, mask := 0xFFFFFFFF, reset := 0x0, vault := false },
   { base := 0x10000024, dims := [], access := .ro, mask := 0xFFFFFFFF, reset := 0x0, vault := false },
   { base := 0x10000028, dims := [], access := .ro, mask := 0xFFFFFFFF, reset := 0x0, vault := false },
   { base := 0x1000002C, dims := [], access := .ro, mask := 0xFFFFFFFF, reset := 0x0, vault := true },
   { base := 0x10000030, dims := [], access := .ro, mask := 0xFFFFFFFF, reset := 0x0, vault := true },
   { base := 0x10000034, dims := [], access := .ro, mask := 0xFFFFFFFF, reset := 0x0, vault := true }]

/-- The register map of CONV. -/
def rowsConv : List RegRow :=
  [{ base := 0x10010000, dims := [], access := .ro, mask := 0xFFFFFFFF, reset := 0x140, vault := false },
   { base := 0x10010004, dims := [], access := .w1c, mask := 0xFF, reset := 0x0, vault := false },
   { base := 0x10010008, dims := [], access := .rw, mask := 0x1, reset := 0x1, vault := false },
   { base := 0x1001000C, dims := [], access := .wo, mask := 0x3F, reset := 0x0, vault := false },
   { base := 0x10010010, dims := [], access := .ro, mask := 0xFFFFFFFF, reset := 0x0, vault := false },
   { base := 0x10010014, dims := [], access := .ro, mask := 0xFFFFFFFF, reset := 0x0, vault := false },
   { base := 0x10010018, dims := [], access := .w1c, mask := 0xFFFFFFFF, reset := 0x0, vault := false },
   { base := 0x1001001C, dims := [], access := .w1c, mask := 0xFFFFFFFF, reset := 0x0, vault := false },
   { base := 0x10010020, dims := [], access := .ro, mask := 0xFFFFFFFF, reset := 0x0, vault := false },
   { base := 0x10010024, dims := [], access := .ro, mask := 0xFFFFFFFF, reset := 0x0, vault := false },
   { base := 0x10010028, dims := [], access := .ro, mask := 0xFFFFFFFF, reset := 0x0, vault := false },
   { base := 0x10010100, dims := [(0x20, 16)], access := .rw, mask := 0xFFFFFFFF, reset := 0x0, vault := false },
   { base := 0x10010104, dims := [(0x20, 16)], access := .rw, mask := 0xFFFFFFFF, reset := 0x0, vault := false },
   { base := 0x10010108, dims := [(0x20, 16)], access := .rw, mask := 0xFFFF, reset := 0x0, vault := false },
   { base := 0x1001010C, dims := [(0x20, 16)], access := .rw, mask := 0x1FFF7F, reset := 0x0, vault := false },
   { base := 0x10010110, dims := [(0x20, 16)], access := .ro, mask := 0xFFFFFFFF, reset := 0x0, vault := false },
   { base := 0x10010114, dims := [(0x20, 16)], access := .rc, mask := 0xFFFF, reset := 0x0, vault := false },
   { base := 0x10010400, dims := [(0x4, 64)], access := .rw, mask := 0xFFFFFF0F, reset := 0x1910FA00, vault := false },
   { base := 0x10010600, dims := [(0x4, 16)], access := .rw, mask := 0x1FFFF, reset := 0x0, vault := false }]

/-- The register map of FILT. -/
def rowsFilt : List RegRow :=
  [{ base := 0x10020000, dims := [], access := .ro, mask := 0xFFFFFFFF, reset := 0x0, vault := false },
   { base := 0x10020004, dims := [], access := .w1c, mask := 0x7, reset := 0x0, vault := false },
   { base := 0x10020008, dims := [], access := .ro, mask := 0xFFFFFFFF, reset := 0x0, vault := false },
   { base := 0x1002000C, dims := [], access := .ro, mask := 0xFFFFFFFF, reset := 0x0, vault := false },
   { base := 0x10020010, dims := [], access := .w1c, mask := 0xFFFFFFFF, reset := 0x0, vault := false },
   { base := 0x10020014, dims := [], access := .w1c, mask := 0xFFFFFFFF, reset := 0x0, vault := false },
   { base := 0x10020018, dims := [], access := .ro, mask := 0xFFFFFFFF, reset := 0x0, vault := false },
   { base := 0x1002001C, dims := [], access := .ro, mask := 0xFFFFFFFF, reset := 0x0, vault := false },
   { base := 0x10020020, dims := [], access := .ro, mask := 0xFFFFFFFF, reset := 0x0, vault := false },
   { base := 0x10020024, dims := [], access := .rc, mask := 0xFFFF, reset := 0x0, vault := false },
   { base := 0x10020028, dims := [], access := .ro, mask := 0xFFFFFFFF, reset := 0x1, vault := false },
   { base := 0x10020100, dims := [(0x4, 80)], access := .rw, mask := 0x3, reset := 0x0, vault := false },
   { base := 0x10020400, dims := [(0x8, 64)], access := .rw, mask := 0x7FF1F, reset := 0x0, vault := false },
   { base := 0x10020404, dims := [(0x8, 64)], access := .rw, mask := 0xFFFFFFFF, reset := 0x0, vault := false }]

/-- The register map of LANE. -/
def rowsLane : List RegRow :=
  [{ base := 0x10030000, dims := [(0x10000, 2)], access := .ro, mask := 0xFFFFFFFF, reset := 0x0, vault := false },
   { base := 0x10030004, dims := [(0x10000, 2)], access := .w1c, mask := 0xFF, reset := 0x0, vault := false },
   { base := 0x10030008, dims := [(0x10000, 2)], access := .rw, mask := 0x3F, reset := 0x0, vault := false },
   { base := 0x1003000C, dims := [(0x10000, 2)], access := .ro, mask := 0xFFFFFFFF, reset := 0x0, vault := false },
   { base := 0x10030010, dims := [(0x10000, 2)], access := .ro, mask := 0xFFFFFFFF, reset := 0x0, vault := false },
   { base := 0x10030014, dims := [(0x10000, 2)], access := .ro, mask := 0xFFFFFFFF, reset := 0x0, vault := false },
   { base := 0x10030018, dims := [(0x10000, 2)], access := .rw, mask := 0xFFFF, reset := 0x10, vault := false },
   { base := 0x1003001C, dims := [(0x10000, 2)], access := .ro, mask := 0xFFFFFFFF, reset := 0x0, vault := false },
   { base := 0x10030020, dims := [(0x10000, 2)], access := .rw, mask := 0xFFFF, reset := 0x0, vault := false },
   { base := 0x10030024, dims := [(0x10000, 2)], access := .rw, mask := 0xFF, reset := 0x0, vault := false },
   { base := 0x10030028, dims := [(0x10000, 2)], access := .ro, mask := 0xFFFFFFFF, reset := 0x0, vault := false },
   { base := 0x1003002C, dims := [(0x10000, 2)], access := .rc, mask := 0xFFFF, reset := 0x0, vault := false },
   { base := 0x10030100, dims := [(0x10000, 2)], access := .rw, mask := 0x7, reset := 0x0, vault := false },
   { base := 0x10030104, dims := [(0x10000, 2), (0x4, 4)], access := .rw, mask := 0x807F7F7F, reset := 0x0, vault := false },
   { base := 0x10030114, dims := [(0x10000, 2)], access := .rw, mask := 0x7FF07FF, reset := 0xC80190, vault := false },
   { base := 0x10030118, dims := [(0x10000, 2)], access := .rw, mask := 0x3FF03FF, reset := 0x12C0190, vault := false },
   { base := 0x1003011C, dims := [(0x10000, 2)], access := .rw, mask := 0xFFFF01FF, reset := 0xB5000096, vault := false },
   { base := 0x10030120, dims := [(0x10000, 2)], access := .rw, mask := 0xFF, reset := 0x32, vault := false },
   { base := 0x10030124, dims := [(0x10000, 2)], access := .rw, mask := 0x3FF03FF, reset := 0x320000, vault := false },
   { base := 0x10030128, dims := [(0x10000, 2)], access := .rw, mask := 0x3FF03FF, reset := 0xC80032, vault := false }]
  ++
  [{ base := 0x1003012C, dims := [(0x10000, 2)], access := .rw, mask := 0x3FF03FF, reset := 0x14000A, vault := false },
   { base := 0x10030130, dims := [(0x10000, 2)], access := .rw, mask := 0x3FFFF, reset := 0x180BF, vault := false },
   { base := 0x10030134, dims := [(0x10000, 2)], access := .rw, mask := 0xFF3F3F3F, reset := 0x0, vault := false },
   { base := 0x10030138, dims := [(0x10000, 2)], access := .rw, mask := 0x7FFF, reset := 0x640, vault := false },
   { base := 0x1003013C, dims := [(0x10000, 2)], access := .rw, mask := 0x7FF03FF, reset := 0x41A02B2, vault := false },
   { base := 0x10030140, dims := [(0x10000, 2)], access := .ro, mask := 0xFFFFFFFF, reset := 0x3F800000, vault := false },
   { base := 0x10030144, dims := [(0x10000, 2)], access := .ro, mask := 0xFFFFFFFF, reset := 0x0, vault := false },
   { base := 0x10030148, dims := [(0x10000, 2)], access := .ro, mask := 0xFFFFFFFF, reset := 0x0, vault := false },
   { base := 0x1003014C, dims := [(0x10000, 2)], access := .ro, mask := 0xFFFFFFFF, reset := 0x0, vault := false },
   { base := 0x10030150, dims := [(0x10000, 2)], access := .ro, mask := 0xFFFFFFFF, reset := 0x0, vault := false },
   { base := 0x10030154, dims := [(0x10000, 2)], access := .ro, mask := 0xFFFFFFFF, reset := 0x0, vault := false },
   { base := 0x10030158, dims := [(0x10000, 2)], access := .ro, mask := 0xFFFFFFFF, reset := 0x0, vault := false },
   { base := 0x10030200, dims := [(0x10000, 2), (0x8, 80)], access := .rw, mask := 0xFFFFFFFF, reset := 0x0, vault := false },
   { base := 0x10030204, dims := [(0x10000, 2), (0x8, 80)], access := .rw, mask := 0xFFFFFFFF, reset := 0x0, vault := false },
   { base := 0x10030480, dims := [(0x10000, 2), (0x4, 32)], access := .ro, mask := 0xFFFFFFFF, reset := 0x0, vault := false },
   { base := 0x10031000, dims := [(0x10000, 2), (0x400, 4)], access := .rw, mask := 0xFFFFF, reset := 0x0, vault := false },
   { base := 0x10031004, dims := [(0x10000, 2), (0x400, 4)], access := .rw, mask := 0xFFFF, reset := 0x0, vault := false },
   { base := 0x10031008, dims := [(0x10000, 2), (0x400, 4)], access := .ro, mask := 0xFFFFFFFF, reset := 0x0, vault := false },
   { base := 0x1003100C, dims := [(0x10000, 2), (0x400, 4)], access := .ro, mask := 0xFFFFFFFF, reset := 0x0, vault := false },
   { base := 0x10031010, dims := [(0x10000, 2), (0x400, 4)], access := .ro, mask := 0xFFFFFFFF, reset := 0x0, vault := false }]
  ++
  [{ base := 0x10031014, dims := [(0x10000, 2), (0x400, 4)], access := .rw, mask := 0xFFFFFF, reset := 0x0, vault := false },
   { base := 0x10031018, dims := [(0x10000, 2), (0x400, 4), (0x4, 4)], access := .rw, mask := 0xFFFFFFFF, reset := 0x0, vault := false },
   { base := 0x10031028, dims := [(0x10000, 2), (0x400, 4), (0x4, 2)], access := .rw, mask := 0xFFFFFFFF, reset := 0x0, vault := false },
   { base := 0x10031030, dims := [(0x10000, 2), (0x400, 4), (0x4, 12)], access := .rw, mask := 0x3F03, reset := 0x0, vault := false },
   { base := 0x10031060, dims := [(0x10000, 2), (0x400, 4), (0x8, 12)], access := .rw, mask := 0xFFFFFFFF, reset := 0x0, vault := false },
   { base := 0x10031064, dims := [(0x10000, 2), (0x400, 4), (0x8, 12)], access := .rw, mask := 0xFFFFFFFF, reset := 0x0, vault := false },
   { base := 0x100310C0, dims := [(0x10000, 2), (0x400, 4), (0x10, 24)], access := .rw, mask := 0xFFFFFFFF, reset := 0x0, vault := false },
   { base := 0x100310C4, dims := [(0x10000, 2), (0x400, 4), (0x10, 24)], access := .rw, mask := 0xFFFFFFFF, reset := 0x0, vault := false },
   { base := 0x100310C8, dims := [(0x10000, 2), (0x400, 4), (0x10, 24)], access := .rw, mask := 0xFFFFFFFF, reset := 0x0, vault := false },
   { base := 0x100310CC, dims := [(0x10000, 2), (0x400, 4), (0x10, 24)], access := .rw, mask := 0x1F, reset := 0x0, vault := false },
   { base := 0x10031240, dims := [(0x10000, 2), (0x400, 4), (0x4, 24)], access := .rw, mask := 0xFFFFFFFF, reset := 0x0, vault := false },
   { base := 0x100312A0, dims := [(0x10000, 2), (0x400, 4), (0x4, 24)], access := .ro, mask := 0xFFFFFFFF, reset := 0x0, vault := false },
   { base := 0x10031300, dims := [(0x10000, 2), (0x400, 4), (0x4, 12)], access := .ro, mask := 0xFFFFFFFF, reset := 0x0, vault := false },
   { base := 0x10030800, dims := [(0x10000, 2)], access := .ro, mask := 0xFFFFFFFF, reset := 0x0, vault := false },
   { base := 0x10030804, dims := [(0x10000, 2)], access := .w1c, mask := 0xFFFF, reset := 0x0, vault := false },
   { base := 0x10030808, dims := [(0x10000, 2)], access := .rw, mask := 0xF1F, reset := 0x400, vault := false },
   { base := 0x1003080C, dims := [(0x10000, 2)], access := .rw, mask := 0xFFFFFFFF, reset := 0x320A1450, vault := false },
   { base := 0x10030810, dims := [(0x10000, 2)], access := .rw, mask := 0xFFFFFFFF, reset := 0xA55190A, vault := false },
   { base := 0x10030814, dims := [(0x10000, 2)], access := .rw, mask := 0x3FF007F, reset := 0x3C0014, vault := false },
   { base := 0x10030818, dims := [(0x10000, 2)], access := .rw, mask := 0xFFFFFFFF, reset := 0xA640A32, vault := false }]
  ++
  [{ base := 0x1003081C, dims := [(0x10000, 2)], access := .rw, mask := 0x3FFFFFF, reset := 0x3C0A64, vault := false },
   { base := 0x10030820, dims := [(0x10000, 2)], access := .rw, mask := 0xFF3F, reset := 0x50A, vault := false },
   { base := 0x10030830, dims := [(0x10000, 2)], access := .ro, mask := 0xFFFFFFFF, reset := 0x0, vault := false },
   { base := 0x10030834, dims := [(0x10000, 2)], access := .ro, mask := 0xFFFFFFFF, reset := 0x0, vault := false },
   { base := 0x10030838, dims := [(0x10000, 2)], access := .ro, mask := 0xFFFFFFFF, reset := 0x0, vault := false },
   { base := 0x10030840, dims := [(0x10000, 2)], access := .ro, mask := 0xFFFFFFFF, reset := 0x0, vault := false },
   { base := 0x10030844, dims := [(0x10000, 2)], access := .ro, mask := 0xFFFFFFFF, reset := 0x0, vault := false },
   { base := 0x10030848, dims := [(0x10000, 2)], access := .ro, mask := 0xFFFFFFFF, reset := 0x0, vault := false },
   { base := 0x1003084C, dims := [(0x10000, 2)], access := .ro, mask := 0xFFFFFFFF, reset := 0x0, vault := false },
   { base := 0x10030900, dims := [(0x10000, 2), (0x20, 2)], access := .ro, mask := 0xFFFFFFFF, reset := 0x3F800000, vault := false },
   { base := 0x10030940, dims := [(0x10000, 2), (0x20, 14)], access := .ro, mask := 0xFFFFFFFF, reset := 0x0, vault := false },
   { base := 0x10030904, dims := [(0x10000, 2), (0x20, 16)], access := .rw, mask := 0xFFFFFFFF, reset := 0x3DCCCCCD, vault := false },
   { base := 0x10030908, dims := [(0x10000, 2), (0x20, 16)], access := .rw, mask := 0xFFFFFFFF, reset := 0x0, vault := false },
   { base := 0x1003090C, dims := [(0x10000, 2), (0x20, 16)], access := .rw, mask := 0xFFFFFFFF, reset := 0x0, vault := false },
   { base := 0x10030910, dims := [(0x10000, 2), (0x20, 1)], access := .rw, mask := 0xFFFFFFFF, reset := 0x3F733333, vault := false },
   { base := 0x10030930, dims := [(0x10000, 2), (0x20, 1)], access := .rw, mask := 0xFFFFFFFF, reset := 0x0, vault := false },
   { base := 0x10030950, dims := [(0x10000, 2), (0x20, 14)], access := .rw, mask := 0xFFFFFFFF, reset := 0xBF800000, vault := false },
   { base := 0x10030914, dims := [(0x10000, 2), (0x20, 1)], access := .rw, mask := 0xFFFFFFFF, reset := 0x3F866666, vault := false },
   { base := 0x10030934, dims := [(0x10000, 2), (0x20, 1)], access := .rw, mask := 0xFFFFFFFF, reset := 0x3F99999A, vault := false },
   { base := 0x10030954, dims := [(0x10000, 2), (0x20, 14)], access := .rw, mask := 0xFFFFFFFF, reset := 0x3F800000, vault := false }]
  ++
  [{ base := 0x10030918, dims := [(0x10000, 2), (0x20, 2)], access := .ro, mask := 0xFFFFFFFF, reset := 0x3F800000, vault := false },
   { base := 0x10030958, dims := [(0x10000, 2), (0x20, 14)], access := .ro, mask := 0xFFFFFFFF, reset := 0x0, vault := false },
   { base := 0x1003091C, dims := [(0x10000, 2), (0x20, 16)], access := .ro, mask := 0xFFFFFFFF, reset := 0x0, vault := false },
   { base := 0x10030040, dims := [(0x10000, 2)], access := .ro, mask := 0xFFFFFFFF, reset := 0x0, vault := false },
   { base := 0x10030044, dims := [(0x10000, 2)], access := .w1c, mask := 0x7F, reset := 0x0, vault := false },
   { base := 0x10030048, dims := [(0x10000, 2)], access := .wo, mask := 0xFF, reset := 0x0, vault := false },
   { base := 0x1003004C, dims := [(0x10000, 2)], access := .rw, mask := 0xF, reset := 0x7, vault := false },
   { base := 0x10030050, dims := [(0x10000, 2)], access := .ro, mask := 0xFFFFFFFF, reset := 0x0, vault := false },
   { base := 0x10030054, dims := [(0x10000, 2)], access := .ro, mask := 0xFFFFFFFF, reset := 0x0, vault := false },
   { base := 0x10030058, dims := [(0x10000, 2)], access := .ro, mask := 0xFFFFFFFF, reset := 0x0, vault := false },
   { base := 0x1003005C, dims := [(0x10000, 2)], access := .ro, mask := 0xFFFFFFFF, reset := 0x0, vault := false },
   { base := 0x10030060, dims := [(0x10000, 2)], access := .rc, mask := 0xFFFF, reset := 0x0, vault := false },
   { base := 0x10030064, dims := [(0x10000, 2)], access := .ro, mask := 0xFFFFFFFF, reset := 0x0, vault := false }]

/-- The register map of PWM. -/
def rowsPwm : List RegRow :=
  [{ base := 0x10050000, dims := [(0x10000, 2)], access := .ro, mask := 0xFFFFFFFF, reset := 0x0, vault := false },
   { base := 0x10050004, dims := [(0x10000, 2)], access := .w1c, mask := 0x7, reset := 0x0, vault := false },
   { base := 0x10050008, dims := [(0x10000, 2)], access := .rw, mask := 0x1, reset := 0x0, vault := false },
   { base := 0x1005000C, dims := [(0x10000, 2)], access := .wo, mask := 0x7F, reset := 0x0, vault := false },
   { base := 0x10050010, dims := [(0x10000, 2)], access := .ro, mask := 0xFFFFFFFF, reset := 0x0, vault := false },
   { base := 0x10050014, dims := [(0x10000, 2)], access := .ro, mask := 0xFFFFFFFF, reset := 0x0, vault := false },
   { base := 0x10050018, dims := [(0x10000, 2)], access := .ro, mask := 0xFFFFFFFF, reset := 0x0, vault := false },
   { base := 0x1005001C, dims := [(0x10000, 2)], access := .ro, mask := 0xFFFFFFFF, reset := 0x0, vault := false },
   { base := 0x10050020, dims := [(0x10000, 2)], access := .ro, mask := 0xFFFFFFFF, reset := 0x0, vault := false },
   { base := 0x10050024, dims := [(0x10000, 2)], access := .ro, mask := 0xFFFFFFFF, reset := 0x0, vault := false },
   { base := 0x10050028, dims := [(0x10000, 2)], access := .ro, mask := 0xFFFFFFFF, reset := 0x0, vault := false },
   { base := 0x1005002C, dims := [(0x10000, 2)], access := .w1c, mask := 0xFFFFFF, reset := 0x0, vault := false },
   { base := 0x10050030, dims := [(0x10000, 2)], access := .rc, mask := 0xFFFF, reset := 0x0, vault := false },
   { base := 0x10050034, dims := [(0x10000, 2)], access := .rc, mask := 0xFFFF, reset := 0x0, vault := false },
   { base := 0x10050040, dims := [(0x10000, 2), (0x4, 12)], access := .rw, mask := 0xFF, reset := 0x0, vault := false },
   { base := 0x10050100, dims := [(0x10000, 2), (0x40, 12)], access := .rw, mask := 0xF, reset := 0x0, vault := false },
   { base := 0x10050104, dims := [(0x10000, 2), (0x40, 12)], access := .rw, mask := 0xFFFFFF, reset := 0x0, vault := false },
   { base := 0x10050108, dims := [(0x10000, 2), (0x40, 12)], access := .rw, mask := 0xFFFFF, reset := 0x0, vault := false },
   { base := 0x1005010C, dims := [(0x10000, 2), (0x40, 12)], access := .ro, mask := 0xFFFFFFFF, reset := 0x0, vault := false },
   { base := 0x10050110, dims := [(0x10000, 2), (0x40, 12)], access := .ro, mask := 0xFFFFFFFF, reset := 0x0, vault := false }]
  ++
  [{ base := 0x10050120, dims := [(0x10000, 2), (0x40, 12), (0x8, 4)], access := .rw, mask := 0x7FFFFFF, reset := 0x0, vault := false },
   { base := 0x10050124, dims := [(0x10000, 2), (0x40, 12), (0x8, 4)], access := .rw, mask := 0xFFFFF, reset := 0x0, vault := false },
   { base := 0x10050400, dims := [(0x10000, 2), (0x10, 48)], access := .rw, mask := 0xFF, reset := 0x0, vault := false },
   { base := 0x10050404, dims := [(0x10000, 2), (0x10, 48)], access := .ro, mask := 0xFFFFFFFF, reset := 0x0, vault := false },
   { base := 0x10050408, dims := [(0x10000, 2), (0x10, 48)], access := .ro, mask := 0xFFFFFFFF, reset := 0x0, vault := false },
   { base := 0x10050800, dims := [(0x10000, 2), (0x4, 24)], access := .rw, mask := 0x3FFFFFF, reset := 0x0, vault := false },
   { base := 0x10050900, dims := [(0x10000, 2), (0x4, 80)], access := .rw, mask := 0x1FFFFFF, reset := 0x0, vault := false }]

/-- The register map of GATE. -/
def rowsGate : List RegRow :=
  [{ base := 0x10070000, dims := [], access := .ro, mask := 0xFFFFFFFF, reset := 0x0, vault := false },
   { base := 0x10070004, dims := [], access := .w1c, mask := 0xFF, reset := 0x0, vault := false },
   { base := 0x10070008, dims := [], access := .ro, mask := 0xFFFFFFFF, reset := 0x0, vault := false },
   { base := 0x1007000C, dims := [], access := .ro, mask := 0xFFFFFFFF, reset := 0x0, vault := false },
   { base := 0x10070010, dims := [], access := .ro, mask := 0xFFFFFFFF, reset := 0x0, vault := false },
   { base := 0x10070014, dims := [], access := .ro, mask := 0xFFFFFFFF, reset := 0x0, vault := false },
   { base := 0x10070018, dims := [], access := .rc, mask := 0xFFFF, reset := 0x0, vault := false },
   { base := 0x1007001C, dims := [], access := .rc, mask := 0xFFFF, reset := 0x0, vault := false },
   { base := 0x10070020, dims := [], access := .rc, mask := 0xFFFF, reset := 0x0, vault := false },
   { base := 0x10070024, dims := [], access := .ro, mask := 0xFFFFFFFF, reset := 0x0, vault := false },
   { base := 0x10070040, dims := [(0x4, 3)], access := .rw, mask := 0x7FFFFFF, reset := 0x78C064, vault := false },
   { base := 0x1007004C, dims := [(0x4, 1)], access := .rw, mask := 0x7FFFFFF, reset := 0x780064, vault := false },
   { base := 0x10070050, dims := [(0x4, 1)], access := .rw, mask := 0x7FFFFFF, reset := 0x78C064, vault := false },
   { base := 0x10070100, dims := [(0x10, 16)], access := .rw, mask := 0xBFBFBFBF, reset := 0x0, vault := false },
   { base := 0x10070104, dims := [(0x10, 16)], access := .rw, mask := 0x3FFBFBF, reset := 0x640000, vault := false },
   { base := 0x10070108, dims := [(0x10, 16)], access := .rw, mask := 0xBFBFBFBF, reset := 0x0, vault := false },
   { base := 0x1007010C, dims := [(0x10, 16)], access := .rc, mask := 0xFFFFFFFF, reset := 0x0, vault := false },
   { base := 0x10070400, dims := [(0x20, 48)], access := .rw, mask := 0x1FFFB, reset := 0x16412, vault := false },
   { base := 0x10070404, dims := [(0x20, 48)], access := .rw, mask := 0x7FFFFFFF, reset := 0x3C2050FA, vault := false },
   { base := 0x10070408, dims := [(0x20, 48)], access := .rw, mask := 0x7FFFFFFF, reset := 0x142050FA, vault := false }]
  ++
  [{ base := 0x1007040C, dims := [(0x20, 48)], access := .rw, mask := 0x1F3FFF3F, reset := 0x1A321E, vault := false },
   { base := 0x10070410, dims := [(0x20, 48)], access := .ro, mask := 0xFFFFFFFF, reset := 0x0, vault := false },
   { base := 0x10070414, dims := [(0x20, 48)], access := .ro, mask := 0xFFFFFFFF, reset := 0x0, vault := false },
   { base := 0x10070418, dims := [(0x20, 48)], access := .rc, mask := 0xFFFF, reset := 0x0, vault := false },
   { base := 0x10070A00, dims := [(0x4, 24)], access := .rw, mask := 0xFFFFFF, reset := 0x607320, vault := false }]

/-- The register map of SAFE. -/
def rowsSafe : List RegRow :=
  [{ base := 0x10080000, dims := [], access := .ro, mask := 0xFFFFFFFF, reset := 0x0, vault := false },
   { base := 0x10080004, dims := [], access := .ro, mask := 0xFFFFFFFF, reset := 0x0, vault := true },
   { base := 0x10080008, dims := [], access := .ro, mask := 0xFFFFFFFF, reset := 0x0, vault := false },
   { base := 0x1008000C, dims := [], access := .ro, mask := 0xFFFFFFFF, reset := 0x0, vault := false },
   { base := 0x10080010, dims := [], access := .ro, mask := 0xFFFFFFFF, reset := 0x0, vault := false },
   { base := 0x10080014, dims := [], access := .ro, mask := 0xFFFFFFFF, reset := 0x0, vault := false },
   { base := 0x10080018, dims := [], access := .ro, mask := 0xFFFFFFFF, reset := 0xFFFFFFFF, vault := false },
   { base := 0x1008001C, dims := [], access := .ro, mask := 0xFFFFFFFF, reset := 0x0, vault := false },
   { base := 0x10080020, dims := [], access := .ro, mask := 0xFFFFFFFF, reset := 0x0, vault := true },
   { base := 0x10080024, dims := [], access := .ro, mask := 0xFFFFFFFF, reset := 0x0, vault := false },
   { base := 0x10080028, dims := [], access := .ro, mask := 0xFFFFFFFF, reset := 0x0, vault := false },
   { base := 0x1008002C, dims := [], access := .ro, mask := 0xFFFFFFFF, reset := 0x0, vault := false },
   { base := 0x10080030, dims := [], access := .ro, mask := 0xFFFFFFFF, reset := 0x0, vault := false },
   { base := 0x10080034, dims := [], access := .ro, mask := 0xFFFFFFFF, reset := 0x0, vault := false },
   { base := 0x10080100, dims := [(0x4, 16)], access := .ro, mask := 0xFFFFFFFF, reset := 0x0, vault := false },
   { base := 0x10080140, dims := [(0x4, 32)], access := .ro, mask := 0xFFFFFFFF, reset := 0x0, vault := false },
   { base := 0x100801C0, dims := [(0x4, 8)], access := .ro, mask := 0xFFFFFFFF, reset := 0x0, vault := false },
   { base := 0x100801E0, dims := [], access := .ro, mask := 0xFFFFFFFF, reset := 0x0, vault := false },
   { base := 0x100801E4, dims := [], access := .ro, mask := 0xFFFFFFFF, reset := 0x0, vault := false },
   { base := 0x10080200, dims := [(0x4, 16)], access := .ro, mask := 0xFFFFFFFF, reset := 0x0, vault := false }]

/-- The register map of CYCLE. -/
def rowsCycle : List RegRow :=
  [{ base := 0x10090000, dims := [], access := .ro, mask := 0xFFFFFFFF, reset := 0x11000, vault := false },
   { base := 0x10090004, dims := [], access := .w1c, mask := 0xFFF, reset := 0x0, vault := false },
   { base := 0x10090008, dims := [], access := .ro, mask := 0xFFFFFFFF, reset := 0x0, vault := false },
   { base := 0x1009000C, dims := [], access := .rw, mask := 0x3FF, reset := 0x32, vault := false },
   { base := 0x10090010, dims := [], access := .rw, mask := 0x7FF, reset := 0xA2, vault := false },
   { base := 0x10090014, dims := [], access := .ro, mask := 0xFFFFFFFF, reset := 0x0, vault := false },
   { base := 0x10090018, dims := [], access := .ro, mask := 0xFFFFFFFF, reset := 0x0, vault := false },
   { base := 0x1009001C, dims := [], access := .ro, mask := 0xFFFFFFFF, reset := 0xFFFF, vault := false },
   { base := 0x10090020, dims := [], access := .ro, mask := 0xFFFFFFFF, reset := 0x0, vault := false },
   { base := 0x10090024, dims := [], access := .rc, mask := 0xFFFF, reset := 0x0, vault := false },
   { base := 0x10090028, dims := [], access := .ro, mask := 0xFFFFFFFF, reset := 0x0, vault := false },
   { base := 0x1009002C, dims := [], access := .ro, mask := 0xFFFFFFFF, reset := 0x0, vault := false },
   { base := 0x10090030, dims := [], access := .ro, mask := 0xFFFFFFFF, reset := 0x0, vault := false },
   { base := 0x10090034, dims := [], access := .ro, mask := 0xFFFFFFFF, reset := 0x0, vault := false },
   { base := 0x10090038, dims := [], access := .rw, mask := 0xFFFFFFFF, reset := 0x0, vault := false },
   { base := 0x1009003C, dims := [], access := .rw, mask := 0xFFFFFFFF, reset := 0x0, vault := false },
   { base := 0x10090040, dims := [], access := .rw, mask := 0x3FFFFFFF, reset := 0x0, vault := false },
   { base := 0x10090100, dims := [(0x10, 9)], access := .ro, mask := 0xFFFFFFFF, reset := 0x0, vault := false },
   { base := 0x10090104, dims := [(0x10, 9)], access := .ro, mask := 0xFFFFFFFF, reset := 0x0, vault := false },
   { base := 0x10090108, dims := [(0x10, 9)], access := .rc, mask := 0xFFFF, reset := 0x0, vault := false }]
  ++
  [{ base := 0x10090200, dims := [(0x4, 32)], access := .rw, mask := 0xFFFFFFFF, reset := 0x0, vault := false }]

/-- The register map of MEM. -/
def rowsMem : List RegRow :=
  [{ base := 0x100A0000, dims := [], access := .ro, mask := 0xFFFFFFFF, reset := 0x0, vault := false },
   { base := 0x100A0004, dims := [], access := .w1c, mask := 0x3F, reset := 0x0, vault := false },
   { base := 0x100A0008, dims := [], access := .rc, mask := 0xFFFF, reset := 0x0, vault := false },
   { base := 0x100A000C, dims := [], access := .rc, mask := 0xFFFFFFFF, reset := 0x0, vault := false },
   { base := 0x100A0010, dims := [], access := .ro, mask := 0xFFFFFFFF, reset := 0x0, vault := false },
   { base := 0x100A0014, dims := [], access := .ro, mask := 0xFFFFFFFF, reset := 0x0, vault := false },
   { base := 0x100A0018, dims := [], access := .ro, mask := 0xFFFFFFFF, reset := 0x0, vault := false },
   { base := 0x100A001C, dims := [], access := .ro, mask := 0xFFFFFFFF, reset := 0x0, vault := false },
   { base := 0x100A0020, dims := [], access := .ro, mask := 0xFFFFFFFF, reset := 0x400C00, vault := false },
   { base := 0x100A0024, dims := [], access := .rc, mask := 0xFFFF, reset := 0x0, vault := false },
   { base := 0x100A0028, dims := [], access := .rw, mask := 0xFF, reset := 0xFF, vault := false },
   { base := 0x100A002C, dims := [], access := .rc, mask := 0xFFFF, reset := 0x0, vault := false },
   { base := 0x100A0030, dims := [], access := .ro, mask := 0xFFFFFFFF, reset := 0x0, vault := false },
   { base := 0x100A0200, dims := [(0x4, 128)], access := .w1c, mask := 0xFFFFFFFF, reset := 0x0, vault := false },
   { base := 0x100A0400, dims := [(0x10, 16)], access := .rw, mask := 0x3FFFFFF, reset := 0x206, vault := false },
   { base := 0x100A0500, dims := [(0x10, 16)], access := .rw, mask := 0x3FFFFFF, reset := 0x4, vault := false },
   { base := 0x100A0600, dims := [(0x10, 8)], access := .rw, mask := 0x3FFFFFF, reset := 0x408, vault := false },
   { base := 0x100A0680, dims := [(0x10, 24)], access := .rw, mask := 0x3FFFFFF, reset := 0x4, vault := false },
   { base := 0x100A0404, dims := [(0x10, 64)], access := .ro, mask := 0xFFFFFFFF, reset := 0x0, vault := false },
   { base := 0x100A0408, dims := [(0x10, 64)], access := .rc, mask := 0xFFFFFFFF, reset := 0x0, vault := false }]
  ++
  [{ base := 0x100A0800, dims := [(0x4, 4)], access := .w1c, mask := 0xFFFFFFFF, reset := 0x0, vault := false },
   { base := 0x100A1000, dims := [(0x200, 4), (0x10, 32)], access := .rw, mask := 0x7FF, reset := 0x0, vault := false },
   { base := 0x100A1004, dims := [(0x200, 4), (0x10, 32)], access := .ro, mask := 0xFFFFFFFF, reset := 0x0, vault := false },
   { base := 0x100A1008, dims := [(0x200, 4), (0x10, 32)], access := .rc, mask := 0xFFFFFFFF, reset := 0x0, vault := false }]

/-- The register map of SHUT. -/
def rowsShut : List RegRow :=
  [{ base := 0x100B0000, dims := [], access := .ro, mask := 0xFFFFFFFF, reset := 0x0, vault := false },
   { base := 0x100B0004, dims := [], access := .w1c, mask := 0xF, reset := 0x0, vault := false },
   { base := 0x100B0040, dims := [(0x4, 16)], access := .ro, mask := 0xFFFFFFFF, reset := 0x0, vault := false },
   { base := 0x100B0100, dims := [(0x80, 8)], access := .rw, mask := 0xFFFFFFFF, reset := 0x0, vault := false },
   { base := 0x100B0104, dims := [(0x80, 8), (0x4, 4)], access := .rw, mask := 0xFFFFFFFF, reset := 0x0, vault := false },
   { base := 0x100B0114, dims := [(0x80, 8)], access := .rw, mask := 0xFFFF, reset := 0x0, vault := false },
   { base := 0x100B0118, dims := [(0x80, 8)], access := .rw, mask := 0xFFFFF, reset := 0x0, vault := false },
   { base := 0x100B011C, dims := [(0x80, 8)], access := .rw, mask := 0xFFFFF, reset := 0x0, vault := false },
   { base := 0x100B0120, dims := [(0x80, 8)], access := .rw, mask := 0xFFF, reset := 0x0, vault := false },
   { base := 0x100B0124, dims := [(0x80, 8)], access := .rw, mask := 0xFFFFFFFF, reset := 0x0, vault := false },
   { base := 0x100B0128, dims := [(0x80, 8)], access := .rw, mask := 0xFFFFFF, reset := 0x0, vault := false },
   { base := 0x100B012C, dims := [(0x80, 8)], access := .rw, mask := 0xFFFFFFFF, reset := 0x0, vault := false },
   { base := 0x100B0130, dims := [(0x80, 8)], access := .rw, mask := 0xFFFF003F, reset := 0x0, vault := false },
   { base := 0x100B0134, dims := [(0x80, 8)], access := .rw, mask := 0xFFFFFFFF, reset := 0x0, vault := false },
   { base := 0x100B0138, dims := [(0x80, 8)], access := .rw, mask := 0xFFFFFFFF, reset := 0x0, vault := false },
   { base := 0x100B013C, dims := [(0x80, 8)], access := .rw, mask := 0xFFFFFFFF, reset := 0x0, vault := false },
   { base := 0x100B0140, dims := [(0x80, 8)], access := .rw, mask := 0xFFFFFFFF, reset := 0x0, vault := false },
   { base := 0x100B0144, dims := [(0x80, 8)], access := .ro, mask := 0xFFFFFFFF, reset := 0x0, vault := false },
   { base := 0x100B0148, dims := [(0x80, 8)], access := .ro, mask := 0xFFFFFFFF, reset := 0x0, vault := false },
   { base := 0x100B014C, dims := [(0x80, 8)], access := .rc, mask := 0xFFFFFFFF, reset := 0x0, vault := false }]
  ++
  [{ base := 0x100B0800, dims := [(0x100, 8), (0x20, 8)], access := .rw, mask := 0xFFFFF01F, reset := 0x0, vault := false },
   { base := 0x100B0804, dims := [(0x100, 8), (0x20, 8)], access := .rw, mask := 0xFFFFF, reset := 0x0, vault := false },
   { base := 0x100B0808, dims := [(0x100, 8), (0x20, 8)], access := .rw, mask := 0xFFFFFF, reset := 0x0, vault := false },
   { base := 0x100B080C, dims := [(0x100, 8), (0x20, 8)], access := .rw, mask := 0xFFFFFF, reset := 0x0, vault := false }]

/-- The register map of HOST. -/
def rowsHost : List RegRow :=
  [{ base := 0x100C0000, dims := [], access := .ro, mask := 0xFFFFFFFF, reset := 0x0, vault := false },
   { base := 0x100C0004, dims := [], access := .w1c, mask := 0xFF, reset := 0x0, vault := false },
   { base := 0x100C0008, dims := [], access := .rw, mask := 0xFFFFFFF, reset := 0xF81901E, vault := false },
   { base := 0x100C000C, dims := [], access := .rw, mask := 0x3FF, reset := 0x64, vault := false },
   { base := 0x100C0010, dims := [], access := .rc, mask := 0xFFFFFFFF, reset := 0x0, vault := false },
   { base := 0x100C0014, dims := [], access := .rc, mask := 0xFFFFFFFF, reset := 0x0, vault := false },
   { base := 0x100C0018, dims := [], access := .rc, mask := 0xFFFF, reset := 0x0, vault := false },
   { base := 0x100C001C, dims := [], access := .rc, mask := 0xFFFF, reset := 0x0, vault := false },
   { base := 0x100C0020, dims := [], access := .rc, mask := 0xFFFFFFFF, reset := 0x0, vault := false },
   { base := 0x100C0024, dims := [], access := .rc, mask := 0xFFFF, reset := 0x0, vault := false },
   { base := 0x100C0030, dims := [(0x4, 4)], access := .ro, mask := 0xFFFFFFFF, reset := 0x0, vault := false },
   { base := 0x100C0100, dims := [(0x4, 128)], access := .ro, mask := 0xFFFFFFFF, reset := 0x0, vault := false },
   { base := 0x100C0400, dims := [(0x8, 256)], access := .ro, mask := 0xFFFFFFFF, reset := 0x0, vault := false },
   { base := 0x100C0404, dims := [(0x8, 256)], access := .ro, mask := 0xFFFFFFFF, reset := 0x0, vault := false }]

/-- The register map of NET. -/
def rowsNet : List RegRow :=
  [{ base := 0x100D0000, dims := [], access := .ro, mask := 0xFFFFFFFF, reset := 0x0, vault := false },
   { base := 0x100D0004, dims := [], access := .w1c, mask := 0x1FF, reset := 0x0, vault := false },
   { base := 0x100D0008, dims := [], access := .rw, mask := 0xFFFFF3F, reset := 0x2580A08, vault := false },
   { base := 0x100D000C, dims := [], access := .rw, mask := 0xFFFFFFFF, reset := 0x7D0D300, vault := false },
   { base := 0x100D0010, dims := [], access := .ro, mask := 0xFFFFFFFF, reset := 0x5, vault := false },
   { base := 0x100D0014, dims := [], access := .ro, mask := 0xFFFFFFFF, reset := 0x0, vault := false },
   { base := 0x100D0018, dims := [], access := .wo, mask := 0xFFFFFFFF, reset := 0x0, vault := false },
   { base := 0x100D001C, dims := [], access := .wo, mask := 0xFFFFFFFF, reset := 0x0, vault := false },
   { base := 0x100D0020, dims := [], access := .ro, mask := 0xFFFFFFFF, reset := 0x0, vault := true },
   { base := 0x100D0024, dims := [], access := .ro, mask := 0xFFFFFFFF, reset := 0x0, vault := true },
   { base := 0x100D0028, dims := [], access := .ro, mask := 0xFFFFFFFF, reset := 0x0, vault := false },
   { base := 0x100D002C, dims := [], access := .ro, mask := 0xFFFFFFFF, reset := 0x0, vault := false },
   { base := 0x100D0030, dims := [], access := .ro, mask := 0xFFFFFFFF, reset := 0x0, vault := false },
   { base := 0x100D0034, dims := [], access := .ro, mask := 0xFFFFFFFF, reset := 0x0, vault := false },
   { base := 0x100D0038, dims := [], access := .ro, mask := 0xFFFFFFFF, reset := 0x0, vault := false },
   { base := 0x100D003C, dims := [], access := .ro, mask := 0xFFFFFFFF, reset := 0x0, vault := false },
   { base := 0x100D0040, dims := [], access := .rc, mask := 0xFFFFFFFF, reset := 0x0, vault := false },
   { base := 0x100D0044, dims := [], access := .w1c, mask := 0xFFFF, reset := 0x0, vault := false },
   { base := 0x100D0080, dims := [(0x10, 16)], access := .rw, mask := 0x3, reset := 0x0, vault := false },
   { base := 0x100D0084, dims := [(0x10, 16)], access := .rw, mask := 0xFFFFFFFF, reset := 0x0, vault := false }]
  ++
  [{ base := 0x100D0088, dims := [(0x10, 16)], access := .rw, mask := 0xFFFF, reset := 0x0, vault := false },
   { base := 0x100D008C, dims := [(0x10, 16)], access := .rw, mask := 0xFFFFFFFF, reset := 0x0, vault := false },
   { base := 0x100D0200, dims := [(0x40, 2)], access := .rw, mask := 0x1FFFFF, reset := 0x0, vault := false },
   { base := 0x100D0204, dims := [(0x40, 2)], access := .rw, mask := 0xFFFFFFFF, reset := 0x0, vault := false },
   { base := 0x100D0208, dims := [(0x40, 2)], access := .rw, mask := 0xFFFF, reset := 0x0, vault := false },
   { base := 0x100D020C, dims := [(0x40, 2)], access := .rw, mask := 0xFFFFFFFF, reset := 0x0, vault := false },
   { base := 0x100D0210, dims := [(0x40, 2)], access := .rw, mask := 0x1F, reset := 0x18, vault := false },
   { base := 0x100D0214, dims := [(0x40, 2)], access := .rw, mask := 0xFFFFFFFF, reset := 0x0, vault := false },
   { base := 0x100D0218, dims := [(0x40, 2)], access := .rw, mask := 0xFFF0FFF, reset := 0x0, vault := false },
   { base := 0x100D021C, dims := [(0x40, 2)], access := .ro, mask := 0xFFFFFFFF, reset := 0x0, vault := false },
   { base := 0x100D0220, dims := [(0x40, 2)], access := .rc, mask := 0xFFFFFFFF, reset := 0x0, vault := false },
   { base := 0x100D0224, dims := [(0x40, 2)], access := .rc, mask := 0xFFFFFFFF, reset := 0x0, vault := false },
   { base := 0x100D0228, dims := [(0x40, 2)], access := .rc, mask := 0xFFFFFFFF, reset := 0x0, vault := false },
   { base := 0x100D0400, dims := [(0x200, 4)], access := .rw, mask := 0xFF, reset := 0x10, vault := false },
   { base := 0x100D0404, dims := [(0x200, 4)], access := .rw, mask := 0x7FFFFFF, reset := 0x0, vault := false },
   { base := 0x100D0408, dims := [(0x200, 4)], access := .rw, mask := 0x1FFFFFFF, reset := 0x0, vault := false },
   { base := 0x100D040C, dims := [(0x200, 4)], access := .rw, mask := 0x3FFFF, reset := 0x0, vault := false },
   { base := 0x100D0410, dims := [(0x200, 4)], access := .ro, mask := 0xFFFFFFFF, reset := 0x0, vault := false },
   { base := 0x100D0414, dims := [(0x200, 4)], access := .rc, mask := 0xFFFFFFFF, reset := 0x0, vault := false },
   { base := 0x100D0418, dims := [(0x200, 4)], access := .wo, mask := 0x3, reset := 0x0, vault := false }]
  ++
  [{ base := 0x100D0500, dims := [(0x200, 4), (0x8, 32)], access := .rw, mask := 0xBFFFFFFF, reset := 0x0, vault := false },
   { base := 0x100D0504, dims := [(0x200, 4), (0x8, 32)], access := .rw, mask := 0x1FFFFFFF, reset := 0x0, vault := false }]

/-- The register map of FAB. -/
def rowsFab : List RegRow :=
  [{ base := 0x100E0000, dims := [], access := .ro, mask := 0xFFFFFFFF, reset := 0x0, vault := false },
   { base := 0x100E0004, dims := [], access := .w1c, mask := 0x3FFF, reset := 0x0, vault := false },
   { base := 0x100E0008, dims := [], access := .rw, mask := 0xFFFFF03, reset := 0x8001, vault := false },
   { base := 0x100E000C, dims := [], access := .ro, mask := 0xFFFFFFFF, reset := 0x0, vault := false },
   { base := 0x100E0010, dims := [], access := .ro, mask := 0xFFFFFFFF, reset := 0x0, vault := true },
   { base := 0x100E0014, dims := [], access := .ro, mask := 0xFFFFFFFF, reset := 0x0, vault := true },
   { base := 0x100E0018, dims := [], access := .ro, mask := 0xFFFFFFFF, reset := 0x0, vault := false },
   { base := 0x100E001C, dims := [], access := .ro, mask := 0xFFFFFFFF, reset := 0x0, vault := false },
   { base := 0x100E0020, dims := [], access := .rw, mask := 0x3, reset := 0x0, vault := false },
   { base := 0x100E0024, dims := [], access := .rw, mask := 0x3FFF, reset := 0x4E2, vault := false },
   { base := 0x100E0028, dims := [], access := .ro, mask := 0xFFFFFFFF, reset := 0x4E2, vault := false },
   { base := 0x100E002C, dims := [], access := .ro, mask := 0xFFFFFFFF, reset := 0x0, vault := false },
   { base := 0x100E0030, dims := [], access := .ro, mask := 0xFFFFFFFF, reset := 0x0, vault := false },
   { base := 0x100E0034, dims := [], access := .rw, mask := 0xFFFFFFFF, reset := 0xA0A1402, vault := false },
   { base := 0x100E0038, dims := [], access := .ro, mask := 0xFFFFFFFF, reset := 0xFF, vault := false },
   { base := 0x100E003C, dims := [], access := .rc, mask := 0xFFFFFFFF, reset := 0x0, vault := false },
   { base := 0x100E0040, dims := [(0x10, 4)], access := .ro, mask := 0xFFFFFFFF, reset := 0x0, vault := false },
   { base := 0x100E0044, dims := [(0x10, 4)], access := .ro, mask := 0xFFFFFFFF, reset := 0x0, vault := false },
   { base := 0x100E0048, dims := [(0x10, 4)], access := .rc, mask := 0xFFFFFFFF, reset := 0x0, vault := false },
   { base := 0x100E004C, dims := [(0x10, 4)], access := .wo, mask := 0x1, reset := 0x0, vault := false }]
  ++
  [{ base := 0x100E0100, dims := [(0x4, 64)], access := .rw, mask := 0x7FFF, reset := 0x0, vault := false },
   { base := 0x100E0200, dims := [(0x8, 256)], access := .rw, mask := 0x7FFFFFF, reset := 0x180000, vault := false },
   { base := 0x100E0204, dims := [(0x8, 256)], access := .ro, mask := 0xFFFFFFFF, reset := 0x0, vault := false },
   { base := 0x100E4000, dims := [(0x4, 4096)], access := .ro, mask := 0xFFFFFFFF, reset := 0x0, vault := false },
   { base := 0x100E8000, dims := [(0x8, 1)], access := .rw, mask := 0xFFFFFFFF, reset := 0x15A00000, vault := false },
   { base := 0x100E8008, dims := [(0x8, 4095)], access := .rw, mask := 0xFFFFFFFF, reset := 0x0, vault := false },
   { base := 0x100E8004, dims := [(0x8, 1)], access := .rw, mask := 0xFFFFFFFF, reset := 0xC9000000, vault := false },
   { base := 0x100E800C, dims := [(0x8, 4095)], access := .rw, mask := 0xFFFFFFFF, reset := 0x0, vault := false }]

/-- The register map of SEC. -/
def rowsSec : List RegRow :=
  [{ base := 0x100F0000, dims := [], access := .ro, mask := 0xFFFFFFFF, reset := 0x0, vault := false },
   { base := 0x100F0004, dims := [], access := .w1c, mask := 0x1FF, reset := 0x0, vault := false },
   { base := 0x100F0008, dims := [], access := .rw, mask := 0xFFFF, reset := 0x0, vault := true },
   { base := 0x100F000C, dims := [], access := .ro, mask := 0xFFFFFFFF, reset := 0x0, vault := true },
   { base := 0x100F0010, dims := [], access := .ro, mask := 0xFFFFFFFF, reset := 0x0, vault := true },
   { base := 0x100F0014, dims := [], access := .ro, mask := 0xFFFFFFFF, reset := 0x0, vault := false },
   { base := 0x100F0018, dims := [], access := .rc, mask := 0xFFFF, reset := 0x0, vault := false },
   { base := 0x100F001C, dims := [], access := .ro, mask := 0xFFFFFFFF, reset := 0x0, vault := false },
   { base := 0x100F0100, dims := [(0x4, 24)], access := .ro, mask := 0xFFFFFFFF, reset := 0x0, vault := true }]

/-- The register map of PERF. -/
def rowsPerf : List RegRow :=
  [{ base := 0x10100000, dims := [], access := .ro, mask := 0xFFFFFFFF, reset := 0x0, vault := false },
   { base := 0x10100004, dims := [], access := .w1c, mask := 0x7, reset := 0x0, vault := false },
   { base := 0x10100008, dims := [], access := .wo, mask := 0xFFFFFFFF, reset := 0x0, vault := false },
   { base := 0x1010000C, dims := [], access := .w1c, mask := 0xFFFFFFFF, reset := 0x0, vault := false },
   { base := 0x10100010, dims := [], access := .rw, mask := 0x3F, reset := 0x0, vault := false },
   { base := 0x10100014, dims := [], access := .ro, mask := 0xFFFFFFFF, reset := 0x0, vault := false },
   { base := 0x10100018, dims := [], access := .ro, mask := 0xFFFFFFFF, reset := 0x0, vault := false },
   { base := 0x1010001C, dims := [], access := .ro, mask := 0xFFFFFFFF, reset := 0x0, vault := false },
   { base := 0x10100020, dims := [], access := .rc, mask := 0xFFFF, reset := 0x0, vault := false },
   { base := 0x10100024, dims := [], access := .ro, mask := 0xFFFFFFFF, reset := 0x0, vault := false },
   { base := 0x10100028, dims := [], access := .rw, mask := 0xFFFF, reset := 0x0, vault := false },
   { base := 0x10100040, dims := [(0x4, 18)], access := .ro, mask := 0xFFFFFFFF, reset := 0x0, vault := false },
   { base := 0x101000A0, dims := [(0x4, 18)], access := .ro, mask := 0xFFFFFFFF, reset := 0x0, vault := false },
   { base := 0x10100100, dims := [(0x10, 32)], access := .rw, mask := 0x7FFFF, reset := 0x0, vault := false },
   { base := 0x10100104, dims := [(0x10, 32)], access := .ro, mask := 0xFFFFFFFF, reset := 0x0, vault := false },
   { base := 0x10100108, dims := [(0x10, 32)], access := .rw, mask := 0xFFFFFFFF, reset := 0x0, vault := false },
   { base := 0x1010010C, dims := [(0x10, 32)], access := .ro, mask := 0xFFFFFFFF, reset := 0x0, vault := false },
   { base := 0x10100300, dims := [(0x4, 32)], access := .ro, mask := 0xFFFFFFFF, reset := 0x0, vault := false },
   { base := 0x10100400, dims := [(0x10, 16)], access := .rw, mask := 0x7FFFFF, reset := 0x1000, vault := false },
   { base := 0x10100404, dims := [(0x10, 16)], access := .ro, mask := 0xFFFFFFFF, reset := 0x0, vault := false }]
  ++
  [{ base := 0x10100408, dims := [(0x10, 16)], access := .rc, mask := 0xFFFFFFFF, reset := 0x0, vault := false },
   { base := 0x1010040C, dims := [(0x10, 16)], access := .rc, mask := 0xFFFFFFFF, reset := 0x0, vault := false },
   { base := 0x10100500, dims := [(0x4, 8)], access := .ro, mask := 0xFFFFFFFF, reset := 0x0, vault := false }]

/-- The register map of the block with this index: the upper 16 bits of the device address less 0x1000 (R18). -/
def blockRows : Nat → List RegRow
  | 0 => rowsSys | 1 => rowsConv | 2 => rowsFilt | 3 => rowsLane | 4 => rowsLane | 5 => rowsPwm | 6 => rowsPwm
  | 7 => rowsGate | 8 => rowsSafe | 9 => rowsCycle | 10 => rowsMem | 11 => rowsShut | 12 => rowsHost | 13 => rowsNet
  | 14 => rowsFab | 15 => rowsSec | 16 => rowsPerf | _ => []

/-- The block index of a device address. -/
def blockOf (a : Nat) : Nat := a / 0x10000 - 0x1000

/-- The row of the register map that holds address `a`, if a register is assigned there. -/
def regRow (a : Nat) : Option RegRow :=
  (blockRows (blockOf a)).find? (fun r => decide (r.base ≤ a) && inDims (a - r.base) r.dims)

/-- The value a register reads before anything has written it: the Reset column; CQ_CFG and RQ_CFG of the ring windows
reset to 4 (R419); everything unassigned reads 0 (R9) (log entry 2, DESIGN CHOICE). -/
def resetValue (a : Nat) : Word :=
  if a < 0x100000000 then
    match regRow a with
    | some r => BitVec.ofNat 32 r.reset
    | none => 0
  else if a % 0x100 = 0x08 ∨ a % 0x100 = 0x1C then 4 else 0

/-- Whether address `a` is held in the vault domain (R10). -/
def isVault (a : Nat) : Bool :=
  match regRow a with
  | some r => r.vault
  | none => false

end Sys2Proof.Machine
end

