-- ==== Sys2Proof/Machine/Regs.lean ====
section
/-! DEFINITION. The names of the registers: the device address of every register of the register maps of R109, R127,
R172, R204, R227, R251, R282, R318, R356, R390, R413, R443, R470, R508, R535, R554 and R571, as a function of its
lane and indices, and the address map of R18. -/

namespace Sys2Proof.Machine.Reg

/-- CONV_STATUS, RO (R109). -/
def convStatus : Nat := 0x10010000
/-- CONV_EVENT, W1C (R109). -/
def convEvent : Nat := 0x10010004
/-- CONV_CAL, RW (R109). -/
def convCal : Nat := 0x10010008
/-- CONV_OW_TEST, WO (R109). -/
def convOwTest : Nat := 0x1001000C
/-- CONV_OW_STATUS0, RO (R109). -/
def convOwStatus0 : Nat := 0x10010010
/-- CONV_OW_STATUS1, RO (R109). -/
def convOwStatus1 : Nat := 0x10010014
/-- CONV_CLIP0, W1C (R109). -/
def convClip0 : Nat := 0x10010018
/-- CONV_CLIP1, W1C (R109). -/
def convClip1 : Nat := 0x1001001C
/-- CONV_SUSPECT0, RO (R109). -/
def convSuspect0 : Nat := 0x10010020
/-- CONV_SUSPECT1, RO (R109). -/
def convSuspect1 : Nat := 0x10010024
/-- CONV_BS_STATUS, RO (R109). -/
def convBsStatus : Nat := 0x10010028
/-- CONV_GRPn_MASK0, RW (R109). -/
def convGrpMask0 (n : Nat) : Nat := 0x10010100 + n * 0x20
/-- CONV_GRPn_MASK1, RW (R109). -/
def convGrpMask1 (n : Nat) : Nat := 0x10010104 + n * 0x20
/-- CONV_GRPn_MASK2, RW (R109). -/
def convGrpMask2 (n : Nat) : Nat := 0x10010108 + n * 0x20
/-- CONV_GRPn_CFG, RW (R109). -/
def convGrpCfg (n : Nat) : Nat := 0x1001010C + n * 0x20
/-- CONV_GRPn_SEQ, RO (R109). -/
def convGrpSeq (n : Nat) : Nat := 0x10010110 + n * 0x20
/-- CONV_GRPn_DROP, RC (R109). -/
def convGrpDrop (n : Nat) : Nat := 0x10010114 + n * 0x20
/-- CONV_AINc_CFG, RW (R109). -/
def convAinCfg (c : Nat) : Nat := 0x10010400 + c * 0x4
/-- CONV_BSm_CFG, RW (R109). -/
def convBsCfg (m : Nat) : Nat := 0x10010600 + m * 0x4
/-- FILT_STATUS, RO (R127). -/
def filtStatus : Nat := 0x10020000
/-- FILT_EVENT, W1C (R127). -/
def filtEvent : Nat := 0x10020004
/-- FILT_THR_STATE0, RO (R127). -/
def filtThrState0 : Nat := 0x10020008
/-- FILT_THR_STATE1, RO (R127). -/
def filtThrState1 : Nat := 0x1002000C
/-- FILT_THR_LATCH0, W1C (R127). -/
def filtThrLatch0 : Nat := 0x10020010
/-- FILT_THR_LATCH1, W1C (R127). -/
def filtThrLatch1 : Nat := 0x10020014
/-- FILT_SETTLE0, RO (R127). -/
def filtSettle0 : Nat := 0x10020018
/-- FILT_SETTLE1, RO (R127). -/
def filtSettle1 : Nat := 0x1002001C
/-- FILT_SETTLE2, RO (R127). -/
def filtSettle2 : Nat := 0x10020020
/-- FILT_SAT_COUNT, RC (R127). -/
def filtSatCount : Nat := 0x10020024
/-- FILT_ROM_ID, RO (R127). -/
def filtRomId : Nat := 0x10020028
/-- FILT_CHc_CFG, RW (R127). -/
def filtChCfg (c : Nat) : Nat := 0x10020100 + c * 0x4
/-- FILT_THRk_CFG, RW (R127). -/
def filtThrCfg (k : Nat) : Nat := 0x10020400 + k * 0x8
/-- FILT_THRk_LEVEL, RW (R127). -/
def filtThrLevel (k : Nat) : Nat := 0x10020404 + k * 0x8
/-- LANE_STATUS, RO (R172). -/
def laneStatus (lane : Nat) : Nat := 0x10030000 + lane * 0x10000
/-- LANE_EVENT, W1C (R172). -/
def laneEvent (lane : Nat) : Nat := 0x10030004 + lane * 0x10000
/-- LANE_SCHED, RW (R172). -/
def laneSched (lane : Nat) : Nat := 0x10030008 + lane * 0x10000
/-- LANE_BASE, RO (R172). -/
def laneBase (lane : Nat) : Nat := 0x1003000C + lane * 0x10000
/-- LANE_SAMPLE, RO (R172). -/
def laneSample (lane : Nat) : Nat := 0x10030010 + lane * 0x10000
/-- LANE_QUEUE, RO (R172). -/
def laneQueue (lane : Nat) : Nat := 0x10030014 + lane * 0x10000
/-- LANE_INVALID, RW (R172). -/
def laneInvalid (lane : Nat) : Nat := 0x10030018 + lane * 0x10000
/-- LANE_NUMERIC, RO (R172). -/
def laneNumeric (lane : Nat) : Nat := 0x1003001C + lane * 0x10000
/-- LANE_SPILL_CFG, RW (R172). -/
def laneSpillCfg (lane : Nat) : Nat := 0x10030020 + lane * 0x10000
/-- LANE_SPILL_ADDR, RW (R172). -/
def laneSpillAddr (lane : Nat) : Nat := 0x10030024 + lane * 0x10000
/-- LANE_SPILL_WP, RO (R172). -/
def laneSpillWp (lane : Nat) : Nat := 0x10030028 + lane * 0x10000
/-- LANE_SPILL_DROP, RC (R172). -/
def laneSpillDrop (lane : Nat) : Nat := 0x1003002C + lane * 0x10000
/-- LANE_XF_CFG, RW (R172). -/
def laneXfCfg (lane : Nat) : Nat := 0x10030100 + lane * 0x10000
/-- LANE_XF_TRIk, RW (R172). -/
def laneXfTri (lane k : Nat) : Nat := 0x10030104 + lane * 0x10000 + k * 0x4
/-- LANE_XF_GF0, RW (R172). -/
def laneXfGf0 (lane : Nat) : Nat := 0x10030114 + lane * 0x10000
/-- LANE_XF_GF1, RW (R172). -/
def laneXfGf1 (lane : Nat) : Nat := 0x10030118 + lane * 0x10000
/-- LANE_XF_LIM, RW (R172). -/
def laneXfLim (lane : Nat) : Nat := 0x1003011C + lane * 0x10000
/-- LANE_XF_TFC, RW (R172). -/
def laneXfTfc (lane : Nat) : Nat := 0x10030120 + lane * 0x10000
/-- LANE_XF_ZV, RW (R172). -/
def laneXfZv (lane : Nat) : Nat := 0x10030124 + lane * 0x10000
/-- LANE_XF_ZRT, RW (R172). -/
def laneXfZrt (lane : Nat) : Nat := 0x10030128 + lane * 0x10000
/-- LANE_XF_FILT, RW (R172). -/
def laneXfFilt (lane : Nat) : Nat := 0x1003012C + lane * 0x10000
/-- LANE_XF_MOD, RW (R172). -/
def laneXfMod (lane : Nat) : Nat := 0x10030130 + lane * 0x10000
/-- LANE_XF_OUT, RW (R172). -/
def laneXfOut (lane : Nat) : Nat := 0x10030134 + lane * 0x10000
/-- LANE_XF_RATE0, RW (R172). -/
def laneXfRate0 (lane : Nat) : Nat := 0x10030138 + lane * 0x10000
/-- LANE_XF_RATE1, RW (R172). -/
def laneXfRate1 (lane : Nat) : Nat := 0x1003013C + lane * 0x10000
/-- LANE_XF_OMEGA, RO (R172). -/
def laneXfOmega (lane : Nat) : Nat := 0x10030140 + lane * 0x10000
/-- LANE_XF_THETA, RO (R172). -/
def laneXfTheta (lane : Nat) : Nat := 0x10030144 + lane * 0x10000
/-- LANE_XF_PF, RO (R172). -/
def laneXfPf (lane : Nat) : Nat := 0x10030148 + lane * 0x10000
/-- LANE_XF_QF, RO (R172). -/
def laneXfQf (lane : Nat) : Nat := 0x1003014C + lane * 0x10000
/-- LANE_XF_E, RO (R172). -/
def laneXfE (lane : Nat) : Nat := 0x10030150 + lane * 0x10000
/-- LANE_XF_IMAG, RO (R172). -/
def laneXfImag (lane : Nat) : Nat := 0x10030154 + lane * 0x10000
/-- LANE_XF_INMAG, RO (R172). -/
def laneXfInmag (lane : Nat) : Nat := 0x10030158 + lane * 0x10000
/-- LANE_SCALEc_GAIN, RW (R172). -/
def laneScaleGain (lane c : Nat) : Nat := 0x10030200 + lane * 0x10000 + c * 0x8
/-- LANE_SCALEc_OFFSET, RW (R172). -/
def laneScaleOffset (lane c : Nat) : Nat := 0x10030204 + lane * 0x10000 + c * 0x8
/-- LANE_EIFw, RO (R172). -/
def laneEif (lane w : Nat) : Nat := 0x10030480 + lane * 0x10000 + w * 0x4
/-- LANE_LAWl_CFG, RW (R172). -/
def laneLawCfg (lane l : Nat) : Nat := 0x10031000 + lane * 0x10000 + l * 0x400
/-- LANE_LAWl_RATE, RW (R172). -/
def laneLawRate (lane l : Nat) : Nat := 0x10031004 + lane * 0x10000 + l * 0x400
/-- LANE_LAWl_STATUS, RO (R172). -/
def laneLawStatus (lane l : Nat) : Nat := 0x10031008 + lane * 0x10000 + l * 0x400
/-- LANE_LAWl_SAMPLE, RO (R172). -/
def laneLawSample (lane l : Nat) : Nat := 0x1003100C + lane * 0x10000 + l * 0x400
/-- LANE_LAWl_COEF_CRC, RO (R172). -/
def laneLawCoefCrc (lane l : Nat) : Nat := 0x10031010 + lane * 0x10000 + l * 0x400
/-- LANE_LAWl_INTEG, RW (R172). -/
def laneLawInteg (lane l : Nat) : Nat := 0x10031014 + lane * 0x10000 + l * 0x400
/-- LANE_LAWl_MEASq, RW (R172). -/
def laneLawMeas (lane l q : Nat) : Nat := 0x10031018 + lane * 0x10000 + l * 0x400 + q * 0x4
/-- LANE_LAWl_SETPq, RW (R172). -/
def laneLawSetp (lane l q : Nat) : Nat := 0x10031028 + lane * 0x10000 + l * 0x400 + q * 0x4
/-- LANE_LAWl_OUTj, RW (R172). -/
def laneLawOut (lane l j : Nat) : Nat := 0x10031030 + lane * 0x10000 + l * 0x400 + j * 0x4
/-- LANE_LAWl_UMINj, RW (R172). -/
def laneLawUmin (lane l j : Nat) : Nat := 0x10031060 + lane * 0x10000 + l * 0x400 + j * 0x8
/-- LANE_LAWl_UMAXj, RW (R172). -/
def laneLawUmax (lane l j : Nat) : Nat := 0x10031064 + lane * 0x10000 + l * 0x400 + j * 0x8
/-- LANE_LAWl_INTi_LO, RW (R172). -/
def laneLawIntLo (lane l i : Nat) : Nat := 0x100310C0 + lane * 0x10000 + l * 0x400 + i * 0x10
/-- LANE_LAWl_INTi_HI, RW (R172). -/
def laneLawIntHi (lane l i : Nat) : Nat := 0x100310C4 + lane * 0x10000 + l * 0x400 + i * 0x10
/-- LANE_LAWl_INTi_BETA, RW (R172). -/
def laneLawIntBeta (lane l i : Nat) : Nat := 0x100310C8 + lane * 0x10000 + l * 0x400 + i * 0x10
/-- LANE_LAWl_INTi_LINK, RW (R172). -/
def laneLawIntLink (lane l i : Nat) : Nat := 0x100310CC + lane * 0x10000 + l * 0x400 + i * 0x10
/-- LANE_LAWl_PRESETi, RW (R172). -/
def laneLawPreset (lane l i : Nat) : Nat := 0x10031240 + lane * 0x10000 + l * 0x400 + i * 0x4
/-- LANE_LAWl_XHATi, RO (R172). -/
def laneLawXhat (lane l i : Nat) : Nat := 0x100312A0 + lane * 0x10000 + l * 0x400 + i * 0x4
/-- LANE_LAWl_UAPPj, RO (R172). -/
def laneLawUapp (lane l j : Nat) : Nat := 0x10031300 + lane * 0x10000 + l * 0x400 + j * 0x4
/-- LANE_MODE, RO (R204). -/
def laneMode (lane : Nat) : Nat := 0x10030800 + lane * 0x10000
/-- LANE_MODE_EVENT, W1C (R204). -/
def laneModeEvent (lane : Nat) : Nat := 0x10030804 + lane * 0x10000
/-- LANE_MODE_CFG, RW (R204). -/
def laneModeCfg (lane : Nat) : Nat := 0x10030808 + lane * 0x10000
/-- LANE_MODE_PC, RW (R204). -/
def laneModePc (lane : Nat) : Nat := 0x1003080C + lane * 0x10000
/-- LANE_MODE_BUS, RW (R204). -/
def laneModeBus (lane : Nat) : Nat := 0x10030810 + lane * 0x10000
/-- LANE_MODE_BS, RW (R204). -/
def laneModeBs (lane : Nat) : Nat := 0x10030814 + lane * 0x10000
/-- LANE_MODE_SYNC0, RW (R204). -/
def laneModeSync0 (lane : Nat) : Nat := 0x10030818 + lane * 0x10000
/-- LANE_MODE_SYNC1, RW (R204). -/
def laneModeSync1 (lane : Nat) : Nat := 0x1003081C + lane * 0x10000
/-- LANE_MODE_STOP, RW (R204). -/
def laneModeStop (lane : Nat) : Nat := 0x10030820 + lane * 0x10000
/-- LANE_PG_STATUS, RO (R204). -/
def lanePgStatus (lane : Nat) : Nat := 0x10030830 + lane * 0x10000
/-- LANE_PG_OFS0, RO (R204). -/
def lanePgOfs0 (lane : Nat) : Nat := 0x10030834 + lane * 0x10000
/-- LANE_PG_OFS3, RO (R204). -/
def lanePgOfs3 (lane : Nat) : Nat := 0x10030838 + lane * 0x10000
/-- LANE_MODE_VB, RO (R204). -/
def laneModeVb (lane : Nat) : Nat := 0x10030840 + lane * 0x10000
/-- LANE_MODE_DF, RO (R204). -/
def laneModeDf (lane : Nat) : Nat := 0x10030844 + lane * 0x10000
/-- LANE_MODE_DPHI, RO (R204). -/
def laneModeDphi (lane : Nat) : Nat := 0x10030848 + lane * 0x10000
/-- LANE_MODE_TIME, RO (R204). -/
def laneModeTime (lane : Nat) : Nat := 0x1003084C + lane * 0x10000
/-- LANE_PGj_TGT, RO (R204). -/
def lanePgTgt (lane j : Nat) : Nat := 0x10030900 + lane * 0x10000 + j * 0x20
/-- LANE_PGj_VMAX, RW (R204). -/
def lanePgVmax (lane j : Nat) : Nat := 0x10030904 + lane * 0x10000 + j * 0x20
/-- LANE_PGj_AMAX, RW (R204). -/
def lanePgAmax (lane j : Nat) : Nat := 0x10030908 + lane * 0x10000 + j * 0x20
/-- LANE_PGj_JMAX, RW (R204). -/
def lanePgJmax (lane j : Nat) : Nat := 0x1003090C + lane * 0x10000 + j * 0x20
/-- LANE_PGj_MIN, RW (R204). -/
def lanePgMin (lane j : Nat) : Nat := 0x10030910 + lane * 0x10000 + j * 0x20
/-- LANE_PGj_MAX, RW (R204). -/
def lanePgMax (lane j : Nat) : Nat := 0x10030914 + lane * 0x10000 + j * 0x20
/-- LANE_PGj_POS, RO (R204). -/
def lanePgPos (lane j : Nat) : Nat := 0x10030918 + lane * 0x10000 + j * 0x20
/-- LANE_PGj_VEL, RO (R204). -/
def lanePgVel (lane j : Nat) : Nat := 0x1003091C + lane * 0x10000 + j * 0x20
/-- LANE_RED_STATUS, RO (R227). -/
def laneRedStatus (lane : Nat) : Nat := 0x10030040 + lane * 0x10000
/-- LANE_RED_EVENT, W1C (R227). -/
def laneRedEvent (lane : Nat) : Nat := 0x10030044 + lane * 0x10000
/-- LANE_RED_CMD, WO (R227). -/
def laneRedCmd (lane : Nat) : Nat := 0x10030048 + lane * 0x10000
/-- LANE_RED_CFG, RW (R227). -/
def laneRedCfg (lane : Nat) : Nat := 0x1003004C + lane * 0x10000
/-- LANE_RED_CRC, RO (R227). -/
def laneRedCrc (lane : Nat) : Nat := 0x10030050 + lane * 0x10000
/-- LANE_RED_PEER_CRC, RO (R227). -/
def laneRedPeerCrc (lane : Nat) : Nat := 0x10030054 + lane * 0x10000
/-- LANE_RED_DIAG, RO (R227). -/
def laneRedDiag (lane : Nat) : Nat := 0x10030058 + lane * 0x10000
/-- LANE_RED_FAULT_SAMPLE, RO (R227). -/
def laneRedFaultSample (lane : Nat) : Nat := 0x1003005C + lane * 0x10000
/-- LANE_RED_DISAGREE, RC (R227). -/
def laneRedDisagree (lane : Nat) : Nat := 0x10030060 + lane * 0x10000
/-- LANE_RED_CHANGES, RO (R227). -/
def laneRedChanges (lane : Nat) : Nat := 0x10030064 + lane * 0x10000
/-- PWM_STATUS, RO (R251). -/
def pwmStatus (lane : Nat) : Nat := 0x10050000 + lane * 0x10000
/-- PWM_EVENT, W1C (R251). -/
def pwmEvent (lane : Nat) : Nat := 0x10050004 + lane * 0x10000
/-- PWM_CTRL, RW (R251). -/
def pwmCtrl (lane : Nat) : Nat := 0x10050008 + lane * 0x10000
/-- PWM_TRIP_CLR, WO (R251). -/
def pwmTripClr (lane : Nat) : Nat := 0x1005000C + lane * 0x10000
/-- PWM_TRIP_LATCH0, RO (R251). -/
def pwmTripLatch0 (lane : Nat) : Nat := 0x10050010 + lane * 0x10000
/-- PWM_TRIP_LATCH1, RO (R251). -/
def pwmTripLatch1 (lane : Nat) : Nat := 0x10050014 + lane * 0x10000
/-- PWM_TRIP_LATCH2, RO (R251). -/
def pwmTripLatch2 (lane : Nat) : Nat := 0x10050018 + lane * 0x10000
/-- PWM_TRIP_SRC0, RO (R251). -/
def pwmTripSrc0 (lane : Nat) : Nat := 0x1005001C + lane * 0x10000
/-- PWM_TRIP_SRC1, RO (R251). -/
def pwmTripSrc1 (lane : Nat) : Nat := 0x10050020 + lane * 0x10000
/-- PWM_TRIP_SRC2, RO (R251). -/
def pwmTripSrc2 (lane : Nat) : Nat := 0x10050024 + lane * 0x10000
/-- PWM_TRIP_FIRST, RO (R251). -/
def pwmTripFirst (lane : Nat) : Nat := 0x10050028 + lane * 0x10000
/-- PWM_PAIR_FLAG, W1C (R251). -/
def pwmPairFlag (lane : Nat) : Nat := 0x1005002C + lane * 0x10000
/-- PWM_PAIR_INC, RC (R251). -/
def pwmPairInc (lane : Nat) : Nat := 0x10050030 + lane * 0x10000
/-- PWM_TRIP_COUNT, RC (R251). -/
def pwmTripCount (lane : Nat) : Nat := 0x10050034 + lane * 0x10000
/-- PWM_PWXn_CFG, RW (R251). -/
def pwmPwxCfg (lane n : Nat) : Nat := 0x10050040 + lane * 0x10000 + n * 0x4
/-- PWM_TBt_CFG, RW (R251). -/
def pwmTbCfg (lane t : Nat) : Nat := 0x10050100 + lane * 0x10000 + t * 0x40
/-- PWM_TBt_PERIOD, RW (R251). -/
def pwmTbPeriod (lane t : Nat) : Nat := 0x10050104 + lane * 0x10000 + t * 0x40
/-- PWM_TBt_PHASE, RW (R251). -/
def pwmTbPhase (lane t : Nat) : Nat := 0x10050108 + lane * 0x10000 + t * 0x40
/-- PWM_TBt_COUNT, RO (R251). -/
def pwmTbCount (lane t : Nat) : Nat := 0x1005010C + lane * 0x10000 + t * 0x40
/-- PWM_TBt_PERIODS, RO (R251). -/
def pwmTbPeriods (lane t : Nat) : Nat := 0x10050110 + lane * 0x10000 + t * 0x40
/-- PWM_TBt_WINc_A, RW (R251). -/
def pwmTbWinA (lane t c : Nat) : Nat := 0x10050120 + lane * 0x10000 + t * 0x40 + c * 0x8
/-- PWM_TBt_WINc_B, RW (R251). -/
def pwmTbWinB (lane t c : Nat) : Nat := 0x10050124 + lane * 0x10000 + t * 0x40 + c * 0x8
/-- PWM_CUu_CFG, RW (R251). -/
def pwmCuCfg (lane u : Nat) : Nat := 0x10050400 + lane * 0x10000 + u * 0x10
/-- PWM_CUu_STAGED, RO (R251). -/
def pwmCuStaged (lane u : Nat) : Nat := 0x10050404 + lane * 0x10000 + u * 0x10
/-- PWM_CUu_ACTIVE, RO (R251). -/
def pwmCuActive (lane u : Nat) : Nat := 0x10050408 + lane * 0x10000 + u * 0x10
/-- PWM_PAIRp_CFG, RW (R251). -/
def pwmPairCfg (lane p : Nat) : Nat := 0x10050800 + lane * 0x10000 + p * 0x4
/-- PWM_TRIPi_CFG, RW (R251). -/
def pwmTripCfg (lane i : Nat) : Nat := 0x10050900 + lane * 0x10000 + i * 0x4
/-- GATE_STATUS, RO (R282). -/
def gateStatus : Nat := 0x10070000
/-- GATE_EVENT, W1C (R282). -/
def gateEvent : Nat := 0x10070004
/-- GATE_FAULT0, RO (R282). -/
def gateFault0 : Nat := 0x10070008
/-- GATE_FAULT1, RO (R282). -/
def gateFault1 : Nat := 0x1007000C
/-- GATE_LOCK0, RO (R282). -/
def gateLock0 : Nat := 0x10070010
/-- GATE_LOCK1, RO (R282). -/
def gateLock1 : Nat := 0x10070014
/-- GATE_INTERLOCK, RC (R282). -/
def gateInterlock : Nat := 0x10070018
/-- GATE_HOLD, RC (R282). -/
def gateHold : Nat := 0x1007001C
/-- GATE_REFRESH, RC (R282). -/
def gateRefresh : Nat := 0x10070020
/-- GATE_FIRST, RO (R282). -/
def gateFirst : Nat := 0x10070024
/-- GATE_RETRYk, RW (R282). -/
def gateRetry (k : Nat) : Nat := 0x10070040 + k * 0x4
/-- GATE_ILGg_MEM0, RW (R282). -/
def gateIlgMem0 (g : Nat) : Nat := 0x10070100 + g * 0x10
/-- GATE_ILGg_MEM1, RW (R282). -/
def gateIlgMem1 (g : Nat) : Nat := 0x10070104 + g * 0x10
/-- GATE_ILGg_SET, RW (R282). -/
def gateIlgSet (g : Nat) : Nat := 0x10070108 + g * 0x10
/-- GATE_ILGg_COUNT, RC (R282). -/
def gateIlgCount (g : Nat) : Nat := 0x1007010C + g * 0x10
/-- GATE_CHc_CFG, RW (R282). -/
def gateChCfg (c : Nat) : Nat := 0x10070400 + c * 0x20
/-- GATE_CHc_ON, RW (R282). -/
def gateChOn (c : Nat) : Nat := 0x10070404 + c * 0x20
/-- GATE_CHc_OFF, RW (R282). -/
def gateChOff (c : Nat) : Nat := 0x10070408 + c * 0x20
/-- GATE_CHc_PROT, RW (R282). -/
def gateChProt (c : Nat) : Nat := 0x1007040C + c * 0x20
/-- GATE_CHc_STATUS, RO (R282). -/
def gateChStatus (c : Nat) : Nat := 0x10070410 + c * 0x20
/-- GATE_CHc_MON, RO (R282). -/
def gateChMon (c : Nat) : Nat := 0x10070414 + c * 0x20
/-- GATE_CHc_COUNT, RC (R282). -/
def gateChCount (c : Nat) : Nat := 0x10070418 + c * 0x20
/-- GATE_PAIRp_CFG, RW (R282). -/
def gatePairCfg (p : Nat) : Nat := 0x10070A00 + p * 0x4
/-- SAFE_STATUS, RO (R318). -/
def safeStatus : Nat := 0x10080000
/-- SAFE_CAUSE, RO (R318). -/
def safeCause : Nat := 0x10080004
/-- SAFE_IN_RAW, RO (R318). -/
def safeInRaw : Nat := 0x10080008
/-- SAFE_IN_LOGIC, RO (R318). -/
def safeInLogic : Nat := 0x1008000C
/-- SAFE_SF_STATE, RO (R318). -/
def safeSfState : Nat := 0x10080010
/-- SAFE_OUT_STATE, RO (R318). -/
def safeOutState : Nat := 0x10080014
/-- SAFE_RX_STATE, RO (R318). -/
def safeRxState : Nat := 0x10080018
/-- SAFE_TICK, RO (R318). -/
def safeTick : Nat := 0x1008001C
/-- SAFE_LOCKOUT_COUNT, RO (R318). -/
def safeLockoutCount : Nat := 0x10080020
/-- SAFE_DISC_COUNT, RO (R318). -/
def safeDiscCount : Nat := 0x10080024
/-- SAFE_DATA_COUNT, RO (R318). -/
def safeDataCount : Nat := 0x10080028
/-- SAFE_PARAM_ID, RO (R318). -/
def safeParamId : Nat := 0x1008002C
/-- SAFE_PARAM_CRC, RO (R318). -/
def safeParamCrc : Nat := 0x10080030
/-- SAFE_DIAG, RO (R318). -/
def safeDiag : Nat := 0x10080034
/-- SAFE_INi_CFG, RO (R318). -/
def safeInCfg (i : Nat) : Nat := 0x10080100 + i * 0x4
/-- SAFE_SFf_CFG, RO (R318). -/
def safeSfCfg (f : Nat) : Nat := 0x10080140 + f * 0x4
/-- SAFE_OUTn_CFG, RO (R318). -/
def safeOutCfg (n : Nat) : Nat := 0x100801C0 + n * 0x4
/-- SAFE_TX_CFG, RO (R318). -/
def safeTxCfg : Nat := 0x100801E0
/-- SAFE_LOCKOUT_CFG, RO (R318). -/
def safeLockoutCfg : Nat := 0x100801E4
/-- SAFE_RXr_CFG, RO (R318). -/
def safeRxCfg (r : Nat) : Nat := 0x10080200 + r * 0x4
/-- CYCLE_STATUS, RO (R356). -/
def cycleStatus : Nat := 0x10090000
/-- CYCLE_EVENT, W1C (R356). -/
def cycleEvent : Nat := 0x10090004
/-- CYCLE_KEY, RO (R356). -/
def cycleKey : Nat := 0x10090008
/-- CYCLE_KEY_CFG, RW (R356). -/
def cycleKeyCfg : Nat := 0x1009000C
/-- CYCLE_WD_CFG, RW (R356). -/
def cycleWdCfg : Nat := 0x10090010
/-- CYCLE_PRG_ID, RO (R356). -/
def cyclePrgId : Nat := 0x10090014
/-- CYCLE_PRG_CRC, RO (R356). -/
def cyclePrgCrc : Nat := 0x10090018
/-- CYCLE_CORES, RO (R356). -/
def cycleCores : Nat := 0x1009001C
/-- CYCLE_ERR, RO (R356). -/
def cycleErr : Nat := 0x10090020
/-- CYCLE_ERR_DROP, RC (R356). -/
def cycleErrDrop : Nat := 0x10090024
/-- CYCLE_FORCE, RO (R356). -/
def cycleForce : Nat := 0x10090028
/-- CYCLE_DIO_IN, RO (R356). -/
def cycleDioIn : Nat := 0x1009002C
/-- CYCLE_DIO_OUT, RO (R356). -/
def cycleDioOut : Nat := 0x10090030
/-- CYCLE_DIO_DIR, RO (R356). -/
def cycleDioDir : Nat := 0x10090034
/-- CYCLE_DIO_SAFE0, RW (R356). -/
def cycleDioSafe0 : Nat := 0x10090038
/-- CYCLE_DIO_SAFE1, RW (R356). -/
def cycleDioSafe1 : Nat := 0x1009003C
/-- CYCLE_EIF_HOLD, RW (R356). -/
def cycleEifHold : Nat := 0x10090040
/-- CYCLE_TASKt_CFG, RO (R356). -/
def cycleTaskCfg (t : Nat) : Nat := 0x10090100 + t * 0x10
/-- CYCLE_TASKt_TIME, RO (R356). -/
def cycleTaskTime (t : Nat) : Nat := 0x10090104 + t * 0x10
/-- CYCLE_TASKt_OVR, RC (R356). -/
def cycleTaskOvr (t : Nat) : Nat := 0x10090108 + t * 0x10
/-- CYCLE_EIFw_SAFE, RW (R356). -/
def cycleEifSafe (w : Nat) : Nat := 0x10090200 + w * 0x4
/-- MEM_STATUS, RO (R390). -/
def memStatus : Nat := 0x100A0000
/-- MEM_EVENT, W1C (R390). -/
def memEvent : Nat := 0x100A0004
/-- MEM_ECC_CORR, RC (R390). -/
def memEccCorr : Nat := 0x100A0008
/-- MEM_FAULTS, RC (R390). -/
def memFaults : Nat := 0x100A000C
/-- MEM_FAULT_ADDR, RO (R390). -/
def memFaultAddr : Nat := 0x100A0010
/-- MEM_FAULT_INFO, RO (R390). -/
def memFaultInfo : Nat := 0x100A0014
/-- MEM_TF_ADDR, RO (R390). -/
def memTfAddr : Nat := 0x100A0018
/-- MEM_TF_INFO, RO (R390). -/
def memTfInfo : Nat := 0x100A001C
/-- MEM_POOL, RO (R390). -/
def memPool : Nat := 0x100A0020
/-- MEM_MARKED_WRITE, RC (R390). -/
def memMarkedWrite : Nat := 0x100A0024
/-- MEM_FR_CFG, RW (R390). -/
def memFrCfg : Nat := 0x100A0028
/-- MEM_FR_DROP, RC (R390). -/
def memFrDrop : Nat := 0x100A002C
/-- MEM_LEASE, RO (R390). -/
def memLease : Nat := 0x100A0030
/-- MEM_BADPAGEw, W1C (R390). -/
def memBadpage (w : Nat) : Nat := 0x100A0200 + w * 0x4
/-- MEM_RINGr_CFG, RW (R390). -/
def memRingCfg (r : Nat) : Nat := 0x100A0400 + r * 0x10
/-- MEM_RINGr_STAT, RO (R390). -/
def memRingStat (r : Nat) : Nat := 0x100A0404 + r * 0x10
/-- MEM_RINGr_DROP, RC (R390). -/
def memRingDrop (r : Nat) : Nat := 0x100A0408 + r * 0x10
/-- MEM_DMAe_FAULT, W1C (R390). -/
def memDmaFault (e : Nat) : Nat := 0x100A0800 + e * 0x4
/-- MEM_DMAe_CHn_CFG, RW (R390). -/
def memDmaChCfg (e n : Nat) : Nat := 0x100A1000 + e * 0x200 + n * 0x10
/-- MEM_DMAe_CHn_STAT, RO (R390). -/
def memDmaChStat (e n : Nat) : Nat := 0x100A1004 + e * 0x200 + n * 0x10
/-- MEM_DMAe_CHn_DONE, RC (R390). -/
def memDmaChDone (e n : Nat) : Nat := 0x100A1008 + e * 0x200 + n * 0x10
/-- SHUT_STATUS, RO (R413). -/
def shutStatus : Nat := 0x100B0000
/-- SHUT_EVENT, W1C (R413). -/
def shutEvent : Nat := 0x100B0004
/-- SHUT_BANKb_RATE, RO (R413). -/
def shutBankRate (b : Nat) : Nat := 0x100B0040 + b * 0x4
/-- SHUT_Ss_CFG, RW (R413). -/
def shutSCfg (s : Nat) : Nat := 0x100B0100 + s * 0x80
/-- SHUT_Ss_CHq, RW (R413). -/
def shutSCh (s q : Nat) : Nat := 0x100B0104 + s * 0x80 + q * 0x4
/-- SHUT_Ss_FILM, RW (R413). -/
def shutSFilm (s : Nat) : Nat := 0x100B0114 + s * 0x80
/-- SHUT_Ss_LEAD, RW (R413). -/
def shutSLead (s : Nat) : Nat := 0x100B0118 + s * 0x80
/-- SHUT_Ss_POST, RW (R413). -/
def shutSPost (s : Nat) : Nat := 0x100B011C + s * 0x80
/-- SHUT_Ss_TRIG, RW (R413). -/
def shutSTrig (s : Nat) : Nat := 0x100B0120 + s * 0x80
/-- SHUT_Ss_LEVEL, RW (R413). -/
def shutSLevel (s : Nat) : Nat := 0x100B0124 + s * 0x80
/-- SHUT_Ss_LEVEL2, RW (R413). -/
def shutSLevel2 (s : Nat) : Nat := 0x100B0128 + s * 0x80
/-- SHUT_Ss_TIME, RW (R413). -/
def shutSTime (s : Nat) : Nat := 0x100B012C + s * 0x80
/-- SHUT_Ss_PAT, RW (R413). -/
def shutSPat (s : Nat) : Nat := 0x100B0130 + s * 0x80
/-- SHUT_Ss_PAT_MA, RW (R413). -/
def shutSPatMa (s : Nat) : Nat := 0x100B0134 + s * 0x80
/-- SHUT_Ss_PAT_VA, RW (R413). -/
def shutSPatVa (s : Nat) : Nat := 0x100B0138 + s * 0x80
/-- SHUT_Ss_PAT_MB, RW (R413). -/
def shutSPatMb (s : Nat) : Nat := 0x100B013C + s * 0x80
/-- SHUT_Ss_PAT_VB, RW (R413). -/
def shutSPatVb (s : Nat) : Nat := 0x100B0140 + s * 0x80
/-- SHUT_Ss_STATE, RO (R413). -/
def shutSState (s : Nat) : Nat := 0x100B0144 + s * 0x80
/-- SHUT_Ss_SEQ, RO (R413). -/
def shutSSeq (s : Nat) : Nat := 0x100B0148 + s * 0x80
/-- SHUT_Ss_COUNT, RC (R413). -/
def shutSCount (s : Nat) : Nat := 0x100B014C + s * 0x80
/-- SHUT_Ss_ZONEz_CFG, RW (R413). -/
def shutSZoneCfg (s z : Nat) : Nat := 0x100B0800 + s * 0x100 + z * 0x20
/-- SHUT_Ss_ZONEz_END, RW (R413). -/
def shutSZoneEnd (s z : Nat) : Nat := 0x100B0804 + s * 0x100 + z * 0x20
/-- SHUT_Ss_ZONEz_LO, RW (R413). -/
def shutSZoneLo (s z : Nat) : Nat := 0x100B0808 + s * 0x100 + z * 0x20
/-- SHUT_Ss_ZONEz_HI, RW (R413). -/
def shutSZoneHi (s z : Nat) : Nat := 0x100B080C + s * 0x100 + z * 0x20
/-- HOST_STATUS, RO (R443). -/
def hostStatus : Nat := 0x100C0000
/-- HOST_EVENT, W1C (R443). -/
def hostEvent : Nat := 0x100C0004
/-- HOST_CFG, RW (R443). -/
def hostCfg : Nat := 0x100C0008
/-- HOST_SPI_CFG, RW (R443). -/
def hostSpiCfg : Nat := 0x100C000C
/-- HOST_ERR, RC (R443). -/
def hostErr : Nat := 0x100C0010
/-- HOST_DROP, RC (R443). -/
def hostDrop : Nat := 0x100C0014
/-- HOST_AUTH_FAIL, RC (R443). -/
def hostAuthFail : Nat := 0x100C0018
/-- HOST_BAR2_DISCARD, RC (R443). -/
def hostBar2Discard : Nat := 0x100C001C
/-- HOST_SPI_ABORT, RC (R443). -/
def hostSpiAbort : Nat := 0x100C0020
/-- HOST_ETH_REASM, RC (R443). -/
def hostEthReasm : Nat := 0x100C0024
/-- HOST_SESSIONSq, RO (R443). -/
def hostSessions (q : Nat) : Nat := 0x100C0030 + q * 0x4
/-- HOST_SESSs, RO (R443). -/
def hostSess (s : Nat) : Nat := 0x100C0100 + s * 0x4
/-- HOST_LEASEi_A, RO (R443). -/
def hostLeaseA (i : Nat) : Nat := 0x100C0400 + i * 0x8
/-- HOST_LEASEi_B, RO (R443). -/
def hostLeaseB (i : Nat) : Nat := 0x100C0404 + i * 0x8
/-- NET_STATUS, RO (R470). -/
def netStatus : Nat := 0x100D0000
/-- NET_EVENT, W1C (R470). -/
def netEvent : Nat := 0x100D0004
/-- NET_TIME_CFG, RW (R470). -/
def netTimeCfg : Nat := 0x100D0008
/-- NET_PTP_CFG, RW (R470). -/
def netPtpCfg : Nat := 0x100D000C
/-- NET_TC_INC_NS, RO (R470). -/
def netTcIncNs : Nat := 0x100D0010
/-- NET_TC_INC_FRAC, RO (R470). -/
def netTcIncFrac : Nat := 0x100D0014
/-- NET_TC_ADJ, WO (R470). -/
def netTcAdj : Nat := 0x100D0018
/-- NET_TC_SETSEC, WO (R470). -/
def netTcSetsec : Nat := 0x100D001C
/-- NET_TC_SEC_LO, RO (R470). -/
def netTcSecLo : Nat := 0x100D0020
/-- NET_TC_SEC_HI, RO (R470). -/
def netTcSecHi : Nat := 0x100D0024
/-- NET_TC_NS, RO (R470). -/
def netTcNs : Nat := 0x100D0028
/-- NET_TC_FRAC, RO (R470). -/
def netTcFrac : Nat := 0x100D002C
/-- NET_TC_LIN_LO, RO (R470). -/
def netTcLinLo : Nat := 0x100D0030
/-- NET_TC_LIN_HI, RO (R470). -/
def netTcLinHi : Nat := 0x100D0034
/-- NET_PTP_STAT, RO (R470). -/
def netPtpStat : Nat := 0x100D0038
/-- NET_PTP_OFS, RO (R470). -/
def netPtpOfs : Nat := 0x100D003C
/-- NET_TC_COUNT, RC (R470). -/
def netTcCount : Nat := 0x100D0040
/-- NET_CMP_LATCH, W1C (R470). -/
def netCmpLatch : Nat := 0x100D0044
/-- NET_CMPk_CFG, RW (R470). -/
def netCmpCfg (k : Nat) : Nat := 0x100D0080 + k * 0x10
/-- NET_CMPk_TGT_LO, RW (R470). -/
def netCmpTgtLo (k : Nat) : Nat := 0x100D0084 + k * 0x10
/-- NET_CMPk_TGT_HI, RW (R470). -/
def netCmpTgtHi (k : Nat) : Nat := 0x100D0088 + k * 0x10
/-- NET_CMPk_PER, RW (R470). -/
def netCmpPer (k : Nat) : Nat := 0x100D008C + k * 0x10
/-- NET_ETHp_CFG, RW (R470). -/
def netEthCfg (p : Nat) : Nat := 0x100D0200 + p * 0x40
/-- NET_ETHp_MAC_LO, RW (R470). -/
def netEthMacLo (p : Nat) : Nat := 0x100D0204 + p * 0x40
/-- NET_ETHp_MAC_HI, RW (R470). -/
def netEthMacHi (p : Nat) : Nat := 0x100D0208 + p * 0x40
/-- NET_ETHp_IP, RW (R470). -/
def netEthIp (p : Nat) : Nat := 0x100D020C + p * 0x40
/-- NET_ETHp_PREFIX, RW (R470). -/
def netEthPrefix (p : Nat) : Nat := 0x100D0210 + p * 0x40
/-- NET_ETHp_GW, RW (R470). -/
def netEthGw (p : Nat) : Nat := 0x100D0214 + p * 0x40
/-- NET_ETHp_LAT, RW (R470). -/
def netEthLat (p : Nat) : Nat := 0x100D0218 + p * 0x40
/-- NET_ETHp_STAT, RO (R470). -/
def netEthStat (p : Nat) : Nat := 0x100D021C + p * 0x40
/-- NET_ETHp_RXCNT, RC (R470). -/
def netEthRxcnt (p : Nat) : Nat := 0x100D0220 + p * 0x40
/-- NET_ETHp_TXCNT, RC (R470). -/
def netEthTxcnt (p : Nat) : Nat := 0x100D0224 + p * 0x40
/-- NET_ETHp_ERR, RC (R470). -/
def netEthErr (p : Nat) : Nat := 0x100D0228 + p * 0x40
/-- NET_CANn_CFG, RW (R470). -/
def netCanCfg (n : Nat) : Nat := 0x100D0400 + n * 0x200
/-- NET_CANn_NBT, RW (R470). -/
def netCanNbt (n : Nat) : Nat := 0x100D0404 + n * 0x200
/-- NET_CANn_DBT, RW (R470). -/
def netCanDbt (n : Nat) : Nat := 0x100D0408 + n * 0x200
/-- NET_CANn_XL, RW (R470). -/
def netCanXl (n : Nat) : Nat := 0x100D040C + n * 0x200
/-- NET_CANn_STAT, RO (R470). -/
def netCanStat (n : Nat) : Nat := 0x100D0410 + n * 0x200
/-- NET_CANn_ERR, RC (R470). -/
def netCanErr (n : Nat) : Nat := 0x100D0414 + n * 0x200
/-- NET_CANn_CMD, WO (R470). -/
def netCanCmd (n : Nat) : Nat := 0x100D0418 + n * 0x200
/-- NET_CANn_FLTf_ID, RW (R470). -/
def netCanFltId (n f : Nat) : Nat := 0x100D0500 + n * 0x200 + f * 0x8
/-- NET_CANn_FLTf_MASK, RW (R470). -/
def netCanFltMask (n f : Nat) : Nat := 0x100D0504 + n * 0x200 + f * 0x8
/-- FAB_STATUS, RO (R508). -/
def fabStatus : Nat := 0x100E0000
/-- FAB_EVENT, W1C (R508). -/
def fabEvent : Nat := 0x100E0004
/-- FAB_CFG, RW (R508). -/
def fabCfg : Nat := 0x100E0008
/-- FAB_NODE, RO (R508). -/
def fabNode : Nat := 0x100E000C
/-- FAB_UID_LO, RO (R508). -/
def fabUidLo : Nat := 0x100E0010
/-- FAB_UID_HI, RO (R508). -/
def fabUidHi : Nat := 0x100E0014
/-- FAB_NODES, RO (R508). -/
def fabNodes : Nat := 0x100E0018
/-- FAB_CYCLE, RO (R508). -/
def fabCycle : Nat := 0x100E001C
/-- FAB_TT_CTRL, RW (R508). -/
def fabTtCtrl : Nat := 0x100E0020
/-- FAB_TT_CYCLE, RW (R508). -/
def fabTtCycle : Nat := 0x100E0024
/-- FAB_TT_STAT, RO (R508). -/
def fabTtStat : Nat := 0x100E0028
/-- FAB_TT_CRC_A, RO (R508). -/
def fabTtCrcA : Nat := 0x100E002C
/-- FAB_TT_CRC_S, RO (R508). -/
def fabTtCrcS : Nat := 0x100E0030
/-- FAB_SEC_CFG, RW (R508). -/
def fabSecCfg : Nat := 0x100E0034
/-- FAB_SEC_STAT, RO (R508). -/
def fabSecStat : Nat := 0x100E0038
/-- FAB_ERR, RC (R508). -/
def fabErr : Nat := 0x100E003C
/-- FAB_PORTp_STAT, RO (R508). -/
def fabPortStat (p : Nat) : Nat := 0x100E0040 + p * 0x10
/-- FAB_PORTp_DELAY, RO (R508). -/
def fabPortDelay (p : Nat) : Nat := 0x100E0044 + p * 0x10
/-- FAB_PORTp_ERR, RC (R508). -/
def fabPortErr (p : Nat) : Nat := 0x100E0048 + p * 0x10
/-- FAB_PORTp_CMD, WO (R508). -/
def fabPortCmd (p : Nat) : Nat := 0x100E004C + p * 0x10
/-- FAB_PUBi_CFG, RW (R508). -/
def fabPubCfg (i : Nat) : Nat := 0x100E0100 + i * 0x4
/-- FAB_SUBj_CFG, RW (R508). -/
def fabSubCfg (j : Nat) : Nat := 0x100E0200 + j * 0x8
/-- FAB_SUBj_STAT, RO (R508). -/
def fabSubStat (j : Nat) : Nat := 0x100E0204 + j * 0x8
/-- FAB_WAYd, RO (R508). -/
def fabWay (d : Nat) : Nat := 0x100E4000 + d * 0x4
/-- FAB_TTn_A, RW (R508). -/
def fabTtA (n : Nat) : Nat := 0x100E8000 + n * 0x8
/-- FAB_TTn_B, RW (R508). -/
def fabTtB (n : Nat) : Nat := 0x100E8004 + n * 0x8
/-- SYS_STATUS, RO (R535). -/
def sysStatus : Nat := 0x10000000
/-- SYS_EVENT, W1C (R535). -/
def sysEvent : Nat := 0x10000004
/-- SYS_CLK_CFG, RW (R535). -/
def sysClkCfg : Nat := 0x10000008
/-- SYS_CLK_STAT, RO (R535). -/
def sysClkStat : Nat := 0x1000000C
/-- SYS_RELOCK_COUNT, RC (R535). -/
def sysRelockCount : Nat := 0x10000010
/-- SYS_RESET_CAUSE, RO (R535). -/
def sysResetCause : Nat := 0x10000014
/-- SYS_RESET_CMD, WO (R535). -/
def sysResetCmd : Nat := 0x10000018
/-- SYS_BOOT, RO (R535). -/
def sysBoot : Nat := 0x1000001C
/-- SYS_VSYS, RO (R535). -/
def sysVsys : Nat := 0x10000020
/-- SYS_VBAT, RO (R535). -/
def sysVbat : Nat := 0x10000024
/-- SYS_TEMP, RO (R535). -/
def sysTemp : Nat := 0x10000028
/-- SYS_HOLDUP, RO (R535). -/
def sysHoldup : Nat := 0x1000002C
/-- SYS_RTC_LO, RO (R535). -/
def sysRtcLo : Nat := 0x10000030
/-- SYS_RTC_HI, RO (R535). -/
def sysRtcHi : Nat := 0x10000034
/-- SEC_STATUS, RO (R554). -/
def secStatus : Nat := 0x100F0000
/-- SEC_EVENT, W1C (R554). -/
def secEvent : Nat := 0x100F0004
/-- SEC_TAMPER_CFG, RW (R554). -/
def secTamperCfg : Nat := 0x100F0008
/-- SEC_TAMPER_STAT, RO (R554). -/
def secTamperStat : Nat := 0x100F000C
/-- SEC_ARB, RO (R554). -/
def secArb : Nat := 0x100F0010
/-- SEC_CRED, RO (R554). -/
def secCred : Nat := 0x100F0014
/-- SEC_AUTH_FAIL, RC (R554). -/
def secAuthFail : Nat := 0x100F0018
/-- SEC_AUDIT, RO (R554). -/
def secAudit : Nat := 0x100F001C
/-- SEC_DEVKEYw, RO (R554). -/
def secDevkey (w : Nat) : Nat := 0x100F0100 + w * 0x4
/-- PERF_STATUS, RO (R571). -/
def perfStatus : Nat := 0x10100000
/-- PERF_EVENT, W1C (R571). -/
def perfEvent : Nat := 0x10100004
/-- PERF_CLEAR, WO (R571). -/
def perfClear : Nat := 0x10100008
/-- PERF_OVF, W1C (R571). -/
def perfOvf : Nat := 0x1010000C
/-- PERF_CS_CFG, RW (R571). -/
def perfCsCfg : Nat := 0x10100010
/-- PERF_CS_SEQ, RO (R571). -/
def perfCsSeq : Nat := 0x10100014
/-- PERF_CS_TIME_LO, RO (R571). -/
def perfCsTimeLo : Nat := 0x10100018
/-- PERF_CS_TIME_HI, RO (R571). -/
def perfCsTimeHi : Nat := 0x1010001C
/-- PERF_EVT_LOST, RC (R571). -/
def perfEvtLost : Nat := 0x10100020
/-- PERF_FR_STAT, RO (R571). -/
def perfFrStat : Nat := 0x10100024
/-- PERF_RATE_CFG, RW (R571). -/
def perfRateCfg : Nat := 0x10100028
/-- PERF_FSTATn, RO (R571). -/
def perfFstat (n : Nat) : Nat := 0x10100040 + n * 0x4
/-- PERF_FSNAPn, RO (R571). -/
def perfFsnap (n : Nat) : Nat := 0x101000A0 + n * 0x4
/-- PERF_CNTk_CFG, RW (R571). -/
def perfCntCfg (k : Nat) : Nat := 0x10100100 + k * 0x10
/-- PERF_CNTk_VAL, RO (R571). -/
def perfCntVal (k : Nat) : Nat := 0x10100104 + k * 0x10
/-- PERF_CNTk_RELOAD, RW (R571). -/
def perfCntReload (k : Nat) : Nat := 0x10100108 + k * 0x10
/-- PERF_CNTk_SNAP, RO (R571). -/
def perfCntSnap (k : Nat) : Nat := 0x1010010C + k * 0x10
/-- PERF_CNTk_SAMPLE, RO (R571). -/
def perfCntSample (k : Nat) : Nat := 0x10100300 + k * 0x4
/-- PERF_WINw_CFG, RW (R571). -/
def perfWinCfg (w : Nat) : Nat := 0x10100400 + w * 0x10
/-- PERF_WINw_LAST, RO (R571). -/
def perfWinLast (w : Nat) : Nat := 0x10100404 + w * 0x10
/-- PERF_WINw_PEAK, RC (R571). -/
def perfWinPeak (w : Nat) : Nat := 0x10100408 + w * 0x10
/-- PERF_WINw_WAIT, RC (R571). -/
def perfWinWait (w : Nat) : Nat := 0x1010040C + w * 0x10
/-- PERF_SUBq, RO (R571). -/
def perfSub (q : Nat) : Nat := 0x10100500 + q * 0x4

/-- The PCI Express ring window of channel `c`, outside the device address space (R419): its word at offset `o`. The
model keeps the five windows beside the registers, above the 32-bit device addresses. -/
def ringWin (c o : Nat) : Nat := 0x100000000 + c * 0x100 + o

end Sys2Proof.Machine.Reg
end

