-- ==== Sys2Proof/Machine/Sparse.lean ====
section
/-! DEFINITION. Sparse tables: a list of (key, value) pairs with keys strictly rising and no entry equal to what an
unlisted key reads as. The register file, the shared SRAM and every large table of the model are held this way, so
that equal contents are equal data. -/

namespace Sys2Proof.Machine

/-- Reading key `k`: the listed value, or the default of that key. -/
def sparseGet {α : Type} (d : Nat → α) : List (Nat × α) → Nat → α
  | [], k => d k
  | (j, v) :: r, k => if j = k then v else sparseGet d r k

/-- `l` without its entries for key `k`. -/
def sparseErase {α : Type} (l : List (Nat × α)) (k : Nat) : List (Nat × α) :=
  l.filter (fun e => e.1 ≠ k)

/-- `l` with `v` at key `k`, in rising order of keys. -/
def sparsePut {α : Type} : List (Nat × α) → Nat → α → List (Nat × α)
  | [], k, v => [(k, v)]
  | (j, w) :: r, k, v =>
    if k < j then (k, v) :: (j, w) :: r
    else if j = k then (k, v) :: r
    else (j, w) :: sparsePut r k v

/-- Writing `v` at key `k`, keeping the canonical form: the default's value is not listed. -/
def sparseSet {α : Type} [DecidableEq α] (d : Nat → α) (l : List (Nat × α)) (k : Nat) (v : α) : List (Nat × α) :=
  if v = d k then sparseErase l k else sparsePut l k v

/-- The keys of `l` rise strictly from `b` on, and no entry equals its default. -/
def sparseWfFrom {α : Type} [DecidableEq α] (d : Nat → α) : Nat → List (Nat × α) → Bool
  | _, [] => true
  | b, (j, v) :: r => decide (b ≤ j) && decide (v ≠ d j) && sparseWfFrom d (j + 1) r

/-- The canonical form of a sparse table. -/
def sparseWf {α : Type} [DecidableEq α] (d : Nat → α) (l : List (Nat × α)) : Bool := sparseWfFrom d 0 l

end Sys2Proof.Machine
end

