-- ==== Sys2Proof/Machine/State.lean ====
section
/-! DEFINITION. The state of the module as plain data: the register space, the shared SRAM, and the state behind the
registers that the spec's rules name. -/

namespace Sys2Proof.Machine

/-- Reasons to stop with a fault: the spec names none for this block; every access it forbids is answered by a status
code or by an event. Nothing raises this type (log entry 3, DESIGN CHOICE). -/
inductive Fault where
  deriving DecidableEq, Repr

/-- Reasons to refuse a command (log entry 3, DESIGN CHOICE). -/
inductive Refusal where
  /-- The command has no meaning in this model; raised by `exec` alone; safe: the run stops. -/
  | notModelled (mnemonic : String)
  deriving DecidableEq, Repr

/-- A raised event waiting in the merger (R558, R560) (log entry 11, DEDUCED). -/
structure EventRec where
  code : Nat
  /-- Time counter at the raise: seconds, nanoseconds and the 2^-32 ns fraction (R448). -/
  timeSec : Nat
  timeNs : Nat
  timeFrac : Nat
  details : List Word
  /-- The event rings whose filter lists it matched when it was raised (R561). -/
  rings : List Nat
  deriving DecidableEq, Repr

/-- A unit of work in a ring: the descriptors it takes and its bytes (R384). -/
structure RingUnit where
  descs : Nat
  seq : Nat
  bytes : List Byte
  deriving DecidableEq, Repr

/-- A ring's queue beside its registers: units oldest first, descriptors retired by its consumer, the run flags of
R388 and the lost count of R560. -/
structure RingQ where
  units : List RingUnit
  /-- A run of drops is under way: RING_DROP has been raised for it. -/
  dropRun : Bool
  /-- Events not written since the previous written event (R558 lost). -/
  lost : Nat
  /-- Filter entries of an event ring: (code, mask) (R561). -/
  filters : List (Nat × Nat)
  deriving DecidableEq, Repr

/-- An empty ring. -/
def RingQ.empty : RingQ := { units := [], dropRun := false, lost := 0, filters := [] }

/-- A claim of the resource ledger (R24 to R27). -/
structure Claim where
  kind : Nat
  granule : Nat
  ownerKind : Nat
  ownerIdx : Nat
  deriving DecidableEq, Repr

/-- A reply or notice of the module (R414, R417). -/
structure Reply where
  chan : Nat
  srcIp : Word
  srcPort : Nat
  opcode : Nat
  session : Nat
  seq : Nat
  tag : Nat
  lease : Nat
  status : Nat
  notice : Bool
  /-- A tag of R424 is appended. -/
  tagged : Bool
  payload : List Byte
  deriving DecidableEq, Repr

/-- A consumed packet of a session with its latest reply (R425). -/
structure Consumed where
  seq : Nat
  crc : Word
  reply : Option Reply
  deriving DecidableEq, Repr

/-- What phase 1 of SESSION_AUTH leaves for phase 2 (R547). -/
structure AuthPhase where
  slot : Nat
  nonce : BitVec 128
  key : BitVec 128
  tick : Nat
  deriving DecidableEq, Repr

/-- A session beside its HOST_SESSs word (R423 to R426). -/
structure Session where
  client : Word
  openTag : Nat
  openTick : Nat
  srcIp : Word
  srcPort : Nat
  /-- Module tick of the latest packet past step 6. -/
  lastTick : Nat
  /-- Module tick from which the number may be opened again. -/
  readyTick : Nat
  /-- Consecutive AUTH_FAILED packets. -/
  authRun : Nat
  /-- The 64-bit command counter of R424. -/
  counter : Nat
  /-- Notice count of R417. -/
  notices : Nat
  key : Option (BitVec 128)
  /-- Credential slot that authenticated the session. -/
  credential : Nat
  phase1 : Option AuthPhase
  /-- The last 16 consumed packets, newest first. -/
  history : List Consumed
  deriving DecidableEq, Repr

/-- A session number that has not been opened. -/
def Session.closed : Session :=
  { client := 0, openTag := 0, openTick := 0, srcIp := 0, srcPort := 0, lastTick := 0, readyTick := 0, authRun := 0,
    counter := 0, notices := 0, key := none, credential := 0, phase1 := none, history := [] }

/-- What a command's row says of things outside the module, kept until the command starts: a yes or no, or what host
memory holds with the errors corrected (log entry 82, DESIGN CHOICE). -/
inductive Aid where
  | none
  | flag (b : Bool)
  | host (bytes : List Byte) (corrected : Nat)
  deriving DecidableEq, Repr

/-- A command that has consumed its seq: held back before its start (R418, R435), or started and without a final
reply (R416, R441) (log entry 82, DESIGN CHOICE). -/
structure InFlight where
  opcode : Nat
  packet : Packet
  started : Bool
  aid : Aid
  /-- Module tick of its arrival (R442). -/
  tick : Nat
  deriving DecidableEq, Repr

/-- A configured object (R430, R431): an owner kind with its index; 0x100 + block number stands for a block's own
configuration, and 0x200 with slot n for a slot entry of the timetable. -/
structure Obj where
  kind : Nat
  index : Nat
  deriving DecidableEq, Repr

/-- The timetable part of a FIX set: entry words by 2·slot + word, the cycle where it is staged, and whether it is a
direct write (R493, R495). -/
structure TtPart where
  entries : List (Nat × Word)
  cycle : Option Nat
  direct : Bool
  deriving DecidableEq, Repr

/-- An accepted FIX set that has not applied to every object (R434): the command it answers and the registers still to
take their values, in staging order (log entry 28, DEDUCED). -/
structure Fix where
  opcode : Nat
  packet : Packet
  items : List (Nat × Word)
  /-- Its timetable part, until that has been distributed. -/
  table : Option TtPart
  /-- Claims to release when the set has applied (R29). -/
  releases : List Claim
  /-- Registers the set changed, for R435. -/
  objects : List Obj
  deriving DecidableEq, Repr

/-! ### CONV and FILT -/

/-- A channel's result in conversion staging: what lanes and records read (R91, R94). -/
structure ChanResult where
  value : Int
  valid : Bool
  ow : Bool
  stale : Bool
  settling : Bool
  clip : Bool
  deriving DecidableEq, Repr

/-- No result yet: value 0, invalid. -/
def ChanResult.none : ChanResult :=
  { value := 0, valid := false, ow := false, stale := false, settling := true, clip := false }

/-- An analogue input beside its registers. -/
structure AinSt where
  /-- The latest conversion clipped (R80). -/
  clipped : Bool
  /-- Consecutive conversions at or beyond the open-wire threshold with the current flowing (R102). -/
  owCount : Nat
  /-- Consecutive conversions inside the clearing threshold (R102). -/
  owClear : Nat
  /-- Conversions since a requested test started, while its window is open (R103). -/
  test : Option Nat
  /-- Conversions of the 10 µs after a window still to come, and the one after them (R103). -/
  tail : Nat
  /-- The input was marked within the window of a requested test (R103). -/
  inTest : Bool
  deriving DecidableEq, Repr

def AinSt.idle : AinSt := { clipped := false, owCount := 0, owClear := 0, test := none, tail := 0, inTest := false }

/-- A SAR channel's filter: its codes since the flush, newest first, at most 499, and how many there were (R113). -/
structure SarFilt where
  codes : List Int
  since : Nat
  deriving DecidableEq, Repr

def SarFilt.flushed : SarFilt := { codes := [], since := 0 }

/-- One sinc3 decimator (R117): integrators, combs, and windows ended since the flush. -/
structure Sinc where
  i1 : Word
  i2 : Word
  i3 : Word
  c1 : Word
  c2 : Word
  c3 : Word
  wins : Nat
  deriving DecidableEq, Repr

def Sinc.flushed : Sinc := { i1 := 0, i2 := 0, i3 := 0, c1 := 0, c2 := 0, c3 := 0, wins := 0 }

/-- The latest output of a preset of a channel (R110). -/
structure Output where
  value : Int
  /-- Valid but for the open-wire and stale marks: settled when it was produced. -/
  settled : Bool
  clip : Bool
  deriving DecidableEq, Repr

def Output.none : Output := { value := 0, settled := false, clip := false }

/-- A threshold comparator beside its state bit (R122, R123). -/
structure Cmp where
  count : Nat
  /-- The count-th output has come: the assertion is due. -/
  due : Bool
  /-- Asserted by an invalid output: release needs `count` outputs. -/
  invHold : Bool
  release : Nat
  deriving DecidableEq, Repr

def Cmp.idle : Cmp := { count := 0, due := false, invHold := false, release := 0 }

/-- A conversion group beside its registers (R81 to R96). -/
structure Group where
  /-- The next trigger changes the grid phase (R85). -/
  phaseDue : Bool
  /-- Analogue channels whose conversion of the latest trigger is in progress. -/
  await : List Nat
  /-- The latest trigger is recorded and its sample is not complete: time word and seq. -/
  sample : Option (Word × Nat)
  /-- Triggers since the last recorded one (R93). -/
  divCount : Nat
  /-- Delivery queue: record bytes and seq, oldest first (R95). -/
  queue : List (List Byte × Nat)
  /-- Samples dropped since the last written one and the seq of the first (R96). -/
  dropped : Nat
  firstDropped : Nat
  /-- A run of consecutive drops is under way. -/
  dropRun : Bool
  deriving DecidableEq, Repr

def Group.idle : Group :=
  { phaseDue := true, await := [], sample := none, divCount := 0, queue := [], dropped := 0, firstDropped := 0,
    dropRun := false }

/-- The spare slice's rotation (R97 to R100). -/
structure Spare where
  input : Nat
  comparing : Bool
  /-- The reference check failed once. -/
  checkFailed : Bool
  /-- The comparison failed once. -/
  compareFailed : Bool
  /-- Slice attached to each input; input c starts with slice c. -/
  attached : List (Nat × Nat)
  deriving DecidableEq, Repr

def Spare.start : Spare := { input := 0, comparing := false, checkFailed := false, compareFailed := false, attached := [] }

/-- CONV and FILT. -/
structure ConvSt where
  ain : List (Nat × AinSt)
  sar : List (Nat × SarFilt)
  /-- Decimators by 4·m + preset. -/
  sinc : List (Nat × Sinc)
  /-- Latest outputs by 4·channel + preset. -/
  outs : List (Nat × Output)
  /-- Presets that have settled since the flush, by 4·channel + preset. -/
  settled : List (Nat × Bool)
  /-- Channels in a run of saturated outputs of the selected preset (R118). -/
  satRun : List (Nat × Bool)
  /-- Conversion staging, by channel. -/
  staged : List (Nat × ChanResult)
  /-- Channels whose staging row is out of service (R361). -/
  rowLost : List (Nat × Bool)
  /-- Channels whose staging row has failed and is replaced at their next trigger (R361). -/
  rowDue : List Nat
  cmps : List (Nat × Cmp)
  groups : List (Nat × Group)
  spare : Spare
  deriving DecidableEq, Repr

def ConvSt.reset : ConvSt :=
  { ain := [], sar := [], sinc := [], outs := [], settled := [], satRun := [], staged := [], rowLost := [], rowDue := [],
    cmps := [], groups := [], spare := Spare.start }

/-! ### PWM and GATE -/

/-- A channel command (R239). -/
inductive Cmd where
  | on | off | released
  deriving DecidableEq, Repr

/-- A gate channel's command as the selector delivers it, with the undelayed result of its unit and the CLK_PWM cycle
in which that result last rose (R237). -/
structure ChanCmd where
  cmd : Cmd
  raw : Bool
  rise : Nat
  deriving DecidableEq, Repr

def ChanCmd.idle : ChanCmd := { cmd := .released, raw := false, rise := 0 }

/-- A compare unit of one generator beside its registers: the active values at the zero and mid points (R234); the cycle
from which these and the unit's settings have held, its result in that cycle, and its latest edge up to then (R244). -/
structure UnitSt where
  cz : Nat
  cm : Nat
  since : Nat
  level : Bool
  edge : Option Nat
  deriving DecidableEq, Repr

def UnitSt.idle : UnitSt := { cz := 0, cm := 0, since := 0, level := false, edge := none }

/-- A lane change under way (R216, R217, R221): its update point, the lane that takes the token, whether the old lane has
failed, whether the standby was in step (R217) or not (R221), what has happened of the sequence, and the commands the
selector still holds latched, by channel. -/
structure LaneHold where
  start : Nat
  heir : Nat
  forced : Bool
  inStep : Bool
  token : Bool
  offs : Bool
  latched : List (Nat × Cmd)
  deriving DecidableEq, Repr

/-- The PWM generators beside their registers; both count in the same cycles (log entry 4, DESIGN CHOICE). -/
structure PwmSt where
  /-- CLK_PWM cycles since the epoch. -/
  now : Nat
  /-- gen_en has been fixed and the epoch has not come (R232). -/
  epochDue : Bool
  /-- Compare units by 48·lane + unit. -/
  units : List (Nat × UnitSt)
  chans : List (Nat × ChanCmd)
  /-- Pairs in a run of incomplete update points, by 24·lane + pair (R238). -/
  incRun : List (Nat × Bool)
  /-- Timebases disabled by FIX that stop at their next zero point (R232). -/
  stopping : List (Nat × Bool)
  /-- The lane change under way, if one is (R216). -/
  hold : Option LaneHold
  /-- Units of a stage that a transition has released, which enter RELEASED at their next update point (R185). -/
  relDue : List (Nat × Bool)
  /-- Neither lane drives the channels: every channel RELEASED (R221). -/
  noLane : Bool
  deriving DecidableEq, Repr

def PwmSt.reset : PwmSt :=
  { now := 0, epochDue := false, units := [], chans := [], incRun := [], stopping := [], hold := none, relDue := [], noLane := false }

/-- A gate channel beside its registers (R256 to R279). -/
structure GateCh where
  /-- Phase of the running profile: 0 pre-charge or pre-discharge, 1 weak slope. -/
  phase : Nat
  /-- A fault is to follow the soft turn-off, with its tries exhausted or not (R275, R278). -/
  faultDue : Bool
  lockDue : Bool
  /-- Retry ticks to the end of the wait; none while no wait runs (R276). -/
  wait : Option Nat
  /-- A run of held ON cycles is under way (R263). -/
  held : Bool
  /-- Occurrences: kind and retry tick (R277). -/
  history : List (Nat × Nat)
  deriving DecidableEq, Repr

def GateCh.idle : GateCh :=
  { phase := 0, faultDue := false, lockDue := false, wait := none, held := false, history := [] }

/-- The refresh guard of a pair (R267 to R269). -/
structure Refresh where
  /-- Consecutive periods without a natural refresh. -/
  count : Nat
  /-- A first refresh is due after RELEASED. -/
  first : Bool
  /-- 0 none, 1 lower switch commanded ON, 2 lower switch commanded OFF again. -/
  stage : Nat
  /-- The cycle in which the forced ON was accepted: the refresh window runs from it (R268). -/
  accepted : Option Nat
  /-- The cycle in which channel 2k+1 entered ON; none while it is in another state (R267). -/
  onAt : Option Nat
  /-- The present period has given a natural refresh; the cycle at which it began (R267). -/
  natural : Bool
  start : Nat
  deriving DecidableEq, Repr

def Refresh.idle : Refresh :=
  { count := 0, first := true, stage := 0, accepted := none, onAt := none, natural := false, start := 0 }

/-- GATE beside its registers. -/
structure GateSt where
  chans : List (Nat × GateCh)
  refresh : List (Nat × Refresh)
  /-- Occupied members by 48·group + channel (R262). -/
  occupied : List (Nat × Bool)
  deriving DecidableEq, Repr

def GateSt.reset : GateSt := { chans := [], refresh := [], occupied := [] }

/-! ### PERF, MEM and SAFE -/

/-- PERF beside its registers. -/
structure PerfSt where
  /-- Counters that passed 0xFFFF_FFFF and have not been handled (R565). -/
  overflowed : List (Nat × Bool)
  /-- Transients of each block in the running 1 s window, the blocks whose TRANSIENT_RATE it has raised, and the tick from
  which windows are counted (R569). -/
  window : List (Nat × Nat)
  rated : List Nat
  epoch : Nat
  /-- Beats of each bandwidth window in progress, and the tick at which it began (R570). -/
  beats : List (Nat × Nat)
  since : List (Nat × Nat)
  /-- A comparator's contact sheet is due (R568). -/
  sheet : Bool
  deriving DecidableEq, Repr

def PerfSt.reset : PerfSt :=
  { overflowed := [], window := [], rated := [], epoch := 0, beats := [], since := [], sheet := false }

/-- A mapping of a context: context addresses onto device addresses (R371, R373). -/
structure Mapping where
  ctx : Nat
  vaddr : Nat
  daddr : Nat
  size : Nat
  write : Bool
  deriving DecidableEq, Repr

/-- A transfer of a DMA chain (R378). -/
structure DmaXfer where
  src : Nat
  dst : Nat
  len : Nat
  /-- A completion report is requested. -/
  report : Bool
  deriving DecidableEq, Repr

/-- A DMA channel beside its registers: the chain's transfers not yet complete, the bytes moved of the first of them,
its place in the chain, and the DMA_START command that the reports answer (R380). -/
structure DmaCh where
  xfers : List DmaXfer
  moved : Nat
  index : Nat
  packet : Option Packet
  deriving DecidableEq, Repr

def DmaCh.idle : DmaCh := { xfers := [], moved := 0, index := 0, packet := none }

/-- A burst of a DMA transfer: the bytes moved before it, and what host memory gives for it (R379). -/
structure Burst where
  xfer : DmaXfer
  moved : Nat
  host : List Byte
  deriving DecidableEq, Repr

/-- An access that has failed and whose retry is under way (R31): fields as in MEM_FAULT_INFO; whether a lasting fault
marks the page of its address (R33); and the burst that a successful retry carries out (R32). -/
structure Retry where
  region : Nat
  addr : Nat
  ctx : Nat
  dma : Bool
  channel : Nat
  marks : Bool
  burst : Option Burst
  deriving DecidableEq, Repr

/-- MEM beside its registers and the shared SRAM. -/
structure MemSt where
  /-- Mappings of the session and core contexts beside the identity mappings of R22. -/
  maps : List Mapping
  /-- DMA channels by 32·e + n. -/
  dma : List (Nat × DmaCh)
  /-- By engine, 1 more than the channel whose burst was last (R379). -/
  turns : List (Nat × Nat)
  /-- Retries under way, oldest first. -/
  retries : List Retry
  /-- Age levels by 64·bank + 16·class + index (R366). -/
  ages : List (Nat × Nat)
  /-- Pages being rewritten with zeros before their mark clears (R363). -/
  clearing : List Nat
  /-- A run of writes to marked pages is under way (R362). -/
  markRun : Bool
  /-- Fault records in writing and waiting, oldest first (R368). -/
  records : List (List Word)
  /-- A run of POOL_EMPTY refusals is under way (R388). -/
  poolRun : Bool
  /-- The block the scrubber reads next (R360). -/
  scrub : Nat
  /-- A frame slot has been retired (R361). -/
  retired : Bool
  deriving DecidableEq, Repr

def MemSt.reset : MemSt :=
  { maps := [], dma := [], turns := [], retries := [], ages := [], clearing := [], markRun := false, records := [],
    poolRun := false, scrub := 0, retired := false }

/-! ### SEC -/

/-- An entry of the audit log (R552). -/
structure AuditEntry where
  seq : Nat
  timeSec : Nat
  timeNs : Nat
  session : Nat
  role : Nat
  code : Nat
  detail : Nat
  /-- First 8 bytes of SHA-256 over the previous entry, as a little-endian number. -/
  chain : Nat
  deriving DecidableEq, Repr

/-- A credential of the flash table (R545). -/
structure Cred where
  key : List Byte
  role : Nat
  name : List Byte
  enabled : Bool
  deriving DecidableEq, Repr

def Cred.empty : Cred := { key := [], role := 0, name := [], enabled := false }

/-- An owner key slot of the vault (R536). -/
structure Owner where
  key : List Byte
  revoked : Bool
  /-- The revocation is in force on verification: from the next start-up on (R546). -/
  barred : Bool
  deriving DecidableEq, Repr

/-- An open image transfer (R541 to R544). -/
structure Transfer where
  session : Nat
  kind : Nat
  length : Nat
  /-- End of the previous chunk. -/
  next : Nat
  /-- The inactive slot is being erased; the container is being verified. -/
  erasing : Bool
  verifying : Bool
  /-- The command whose final reply waits. -/
  packet : Packet
  deriving DecidableEq, Repr

/-- The flash slots of images and their marks (R537, R540, R543). -/
structure ImageSt where
  /-- Contents by 2·type + slot, slot A being 0. -/
  slots : List (Nat × List Byte)
  /-- Active slot by type. -/
  active : List (Nat × Nat)
  /-- 1 more than the pending slot, by type; 0 none. -/
  pending : List (Nat × Nat)
  transfer : Option Transfer
  /-- Types whose object is in use (R540). -/
  used : List Nat
  deriving DecidableEq, Repr

def ImageSt.reset : ImageSt := { slots := [], active := [], pending := [], transfer := none, used := [] }

/-- SEC beside its registers. -/
structure SecSt where
  /-- Audit entries in retained SRAM and in flash, oldest first (R552, R553). -/
  waiting : List AuditEntry
  flash : List AuditEntry
  auditNext : Nat
  /-- The latest entry's bytes. -/
  previous : List Byte
  creds : List (Nat × Cred)
  owners : List (Nat × Owner)
  /-- CERT_MODE steps used, and a leave waiting for the next module reset (R549). -/
  certSteps : Nat
  image : ImageSt
  /-- Tamper records waiting for STARTUP_DONE (R550). -/
  tampers : List Nat
  deriving DecidableEq, Repr

def SecSt.reset : SecSt :=
  { waiting := [], flash := [], auditNext := 0, previous := [], creds := [], owners := [], certSteps := 0,
    image := ImageSt.reset, tampers := [] }

/-! ### CYCLE -/

/-- An entry of the block call table (R320). -/
structure Call where
  type : Nat
  task : Nat
  convoy : Option Nat
  instance_ : Nat
  length : Nat
  deriving DecidableEq, Repr

/-- A checked program image (R319). -/
structure Program where
  tableId : Word
  crc : Word
  first : Nat
  size : Nat
  tasks : List Word
  calls : List Call
  params : List (Nat × Word)
  deriving DecidableEq, Repr

/-- A call granted to a core (R328): the values its inputs had at the grant, the word at which its outputs begin, and its
results once it has completed and is not released (R329). -/
structure CallRun where
  index : Nat
  core : Nat
  inputs : List Word
  outAt : Nat
  effect : Option BlockEffect
  deriving DecidableEq, Repr

/-- A task, 8 being the error task: its cycle in progress (R324), its input latch, and the outputs its calls have set
for the output phase. -/
structure TaskSt where
  running : Bool
  /-- Module tick of the cycle's start point. -/
  start : Nat
  /-- Consecutive overrunning cycles (R341); the cycle in progress has overrun. -/
  overs : Nat
  overran : Bool
  /-- 1 more than the tick of the latest start point dealt with, and the figure of CYCLE_WD_CFG latched there: K, or the
  budget of the error task in ms (R341, R356). -/
  point : Nat
  limit : Nat
  /-- Calls released in this cycle: the next to be released is the task's call of this place. -/
  released : Nat
  dioIn : Word
  key : Nat
  /-- The other words of the input image: remote I/O and CAN values. -/
  image : List (Nat × Word)
  dio : List (Nat × Bool)
  eif : List (Nat × Word)
  pubs : List (Nat × List Byte)
  deriving DecidableEq, Repr

def TaskSt.idle : TaskSt :=
  { running := false, start := 0, overs := 0, overran := false, point := 0, limit := 0, released := 0, dioIn := 0, key := 0,
    image := [], dio := [], eif := [], pubs := [] }

/-- A held force (R352). -/
structure Force where
  kind : Nat
  index : Nat
  value : Word
  deriving DecidableEq, Repr

/-- A measurement of SHUT_ARM (R412): the call, what it asks for, the record's sequence number, the executions done, and
MDONE. -/
structure Measuring where
  call : Nat
  asks : Measure
  seq : Nat
  runs : Nat
  done : Bool
  deriving DecidableEq, Repr

/-- CYCLE beside its registers. -/
structure CycleSt where
  /-- The bytes of a load under way (R336), the program loaded, and the program last brought into force. -/
  image : List Byte
  loaded : Option Program
  prog : Option Program
  tasks : List (Nat × TaskSt)
  calls : List CallRun
  /-- First program tick after the start (R337). -/
  startTick : Nat
  /-- Causes queued, oldest first: code and index (R343); the cause of the error task's run. -/
  causes : List (Nat × Nat)
  cause : Nat × Nat
  dropRun : Bool
  /-- The PRG_STOP that waits for its final reply. -/
  stop : Option Packet
  forces : List Force
  /-- Module tick of the latest command that keeps the host link alive (R350). -/
  hostTick : Nat
  /-- Stations lost (R346). -/
  stations : List (Nat × Bool)
  /-- The target that the program's MODE block has requested last (R334). -/
  modeSent : Option Nat
  /-- Measurements of SHUT_ARM blocks under way or complete (R412). -/
  meas : List Measuring
  deriving DecidableEq, Repr

def CycleSt.reset : CycleSt :=
  { image := [], loaded := none, prog := none, tasks := [], calls := [], startTick := 0, causes := [], cause := (0, 0),
    dropRun := false, stop := none, forces := [], hostTick := 0, stations := [], modeSent := none, meas := [] }

/-! ### FAB -/

/-- What an entry word of a timetable copy is before anything writes it, by 2·slot + word (R487, R508). -/
def slotReset (k : Nat) : Word := if k = 0 then 0x15A00000 else if k = 1 then 0xC9000000 else 0

/-- A frame a port has sent (R476): its link tag, whether it was closed with an abort, and that it is itself a resent copy. -/
structure Kept where
  tag : Nat
  frame : FabFrame
  aborted : Bool
  copy : Bool
  deriving DecidableEq, Repr

/-- A fabric port beside its registers: frames sent, the last 16 of them (newest first), the link tag of the latest NAK
sent, the neighbour's unique ID, the tick of the latest HELLO, the ticks of its marks, the hold of R478, and the tick from
which its link may come up (R472). -/
structure FabPort where
  count : Nat
  kept : List Kept
  nak : Option Nat
  uid : Nat
  hello : Option Nat
  marks : List Nat
  held : Bool
  again : Nat
  deriving DecidableEq, Repr

def FabPort.idle : FabPort :=
  { count := 0, kept := [], nak := none, uid := 0, hello := none, marks := [], held := false, again := 0 }

/-- The survey (R479 to R485): the best key known and the second-lowest seen, the tick at which the best changed; a
report is due; and, at the surveyor, reports, assigned IDs by unique ID, planes and nodes that have confirmed, and that
confirmations are awaited; FAB_SURVEY commands under way; the remembered ID in flash. -/
structure SurveySt where
  best : Option Nat
  second : Option Nat
  bestTick : Nat
  reportDue : Bool
  reports : List NodeReport
  ids : List (Nat × Nat)
  confirmed : List (Nat × Nat)
  waits : Bool
  cmds : List Packet
  remembered : Nat
  deriving DecidableEq, Repr

def SurveySt.reset : SurveySt :=
  { best := none, second := none, bestTick := 0, reportDue := false, reports := [], ids := [], confirmed := [], waits := false,
    cmds := [], remembered := 0 }

/-- A shadow FIX being distributed from this node (R493): nodes that have confirmed, and the tick of its start. -/
structure TtDist where
  packet : Packet
  confirmed : List Nat
  start : Nat
  deriving DecidableEq, Repr

/-- A direct write under way (R495): boundary D, 0 while this node waits for the surveyor; its entries; whether the
deferred ones alone are left; and the command at the node that fixed it. -/
structure TtDirect where
  boundary : Nat
  entries : List (Nat × Word)
  late : Bool
  packet : Option Packet
  deriving DecidableEq, Repr

/-- The timetable's changes under way: S of an accepted swap (0 while this node waits for the surveyor) and its command;
shadow entries to be sent again to nodes that have not confirmed. -/
structure TtSt where
  dist : Option TtDist
  direct : Option TtDirect
  swap : Option Nat
  swapCmd : Option Packet
  again : List Nat
  deriving DecidableEq, Repr

def TtSt.reset : TtSt := { dist := none, direct := none, swap := none, swapCmd := none, again := [] }

/-- The fabric cycle: this cycle's valid cycle frame on each plane with its source, consecutive cycles without one, and
the stop of scheduled transmission after CYCLE_LOST (R500) and on each plane (R485). -/
structure FabCycSt where
  x : Option (Nat × CycleInfo)
  y : Option (Nat × CycleInfo)
  missed : Nat
  lost : Bool
  stopX : Bool
  stopY : Bool
  deriving DecidableEq, Repr

def FabCycSt.reset : FabCycSt := { x := none, y := none, missed := 0, lost := false, stopX := false, stopY := false }

/-- A RIO or USER subscription (R501, R502): its value, the last valid seq of the cycles before, this cycle's valid copy
on plane X or at all, and consecutive cycles without and with one. -/
structure FabSub where
  value : List Byte
  ref : Option Nat
  gotX : Bool
  got : Bool
  missed : Nat
  run : Nat
  deriving DecidableEq, Repr

def FabSub.idle : FabSub := { value := [], ref := none, gotX := false, got := false, missed := 0, run := 0 }

/-- A publication: its buffer as completed, and its sequence count. -/
structure FabPub where
  value : List Byte
  seq : Nat
  deriving DecidableEq, Repr

def FabPub.idle : FabPub := { value := [], seq := 0 }

/-- A SECONDARY report of a node: section, S_r, ω_bf, q_f and the target of output 0 (R504). -/
structure SecReport where
  node : Nat
  sect : Nat
  rating : Word
  omega : Word
  q : Word
  target : Word
  deriving DecidableEq, Repr

/-- The surveyor's part of secondary control and black start (R504, R505): reports of this period, off_z by section, c_i
by node, requests of this fabric cycle as (section, node), standing grants as (section, node), and the module tick of
the latest computation. -/
structure FabSecond where
  reports : List SecReport
  off : List (Nat × Word)
  corr : List (Nat × Word)
  requests : List (Nat × Nat)
  grants : List (Nat × Nat)
  since : Nat
  deriving DecidableEq, Repr

def FabSecond.reset : FabSecond := { reports := [], off := [], corr := [], requests := [], grants := [], since := 0 }

/-- A node read under way (R507): its tag, far node, tick of its start and the port it left by. -/
structure NodeRead where
  packet : Packet
  tag : Nat
  node : Nat
  start : Nat
  port : Nat
  deriving DecidableEq, Repr

/-- FAB beside its registers. -/
structure FabSt where
  /-- The active and the shadow timetable: entry words by 2·slot + word, 0 being A. -/
  active : List (Nat × Word)
  shadow : List (Nat × Word)
  ports : List (Nat × FabPort)
  /-- The node's own sequence count. -/
  seq : Nat
  survey : SurveySt
  /-- Route lists in force, by plane. -/
  routes : List RouteList
  tt : TtSt
  cyc : FabCycSt
  subs : List (Nat × FabSub)
  pubs : List (Nat × FabPub)
  second : FabSecond
  reads : List NodeRead
  deriving DecidableEq, Repr

def FabSt.reset : FabSt :=
  { active := [], shadow := [], ports := [], seq := 0, survey := SurveySt.reset, routes := [], tt := TtSt.reset,
    cyc := FabCycSt.reset, subs := [], pubs := [], second := FabSecond.reset, reads := [] }

/-! ### SAFE -/

/-- A safety input pair: its discrepancy timer (R295), a fault raised in the present run of discrepancy, the hold in
demand, and both channels having shown demand together since the fault (R296). -/
structure SafeIn where
  disc : Nat
  faulted : Bool
  held : Bool
  shown : Bool
  deriving DecidableEq, Repr

def SafeIn.idle : SafeIn := { disc := 0, faulted := false, held := false, shown := false }

/-- A safe frame's content: its seq and data (R303). -/
structure SafeCopy where
  seq : Nat
  data : Word
  deriving DecidableEq, Repr

/-- One plane of a safe-data subscription: the last valid seq, whether it was taken as a new reference in the present
cycle, consecutive missing cycles, and this cycle's valid copy (R304). -/
structure SafePlane where
  ref : Option Nat
  newRef : Bool
  missing : Nat
  copy : Option SafeCopy
  deriving DecidableEq, Repr

def SafePlane.idle : SafePlane := { ref := none, newRef := false, missing := 0, copy := none }

/-- A safe-data subscription (R304 to R307). -/
structure SafeSub where
  x : SafePlane
  y : SafePlane
  /-- Copies of the fabric cycles that have ended since the last tick, in cycle order. -/
  ended : List (Option SafeCopy × Option SafeCopy)
  value : Word
  /-- Consecutive cycles with both copies valid and equal, at the safe value. -/
  good : Nat
  /-- Ticks of the degraded window. -/
  window : Nat
  deriving DecidableEq, Repr

def SafeSub.idle : SafeSub :=
  { x := SafePlane.idle, y := SafePlane.idle, ended := [], value := 0, good := 0, window := 0 }

/-- The local reset (R312): each channel sampled low since the latch or the last refusal, the hold count, the ticks for
which A, B has been high alone, and that it is ignored. -/
structure LocalReset where
  lowA : Bool
  lowB : Bool
  hold : Nat
  aloneA : Nat
  aloneB : Nat
  ignored : Bool
  deriving DecidableEq, Repr

def LocalReset.idle : LocalReset := { lowA := false, lowB := false, hold := 0, aloneA := 0, aloneB := 0, ignored := false }

/-- A remote arm (R313). -/
structure Arm where
  session : Nat
  challenge : Word
  /-- The safety tick at which it expires. -/
  expiry : Nat
  expired : Bool
  deriving DecidableEq, Repr

/-- The lattice and the processor's diagnostics. -/
structure SafeDiag where
  /-- Inputs at which the lattice sees demand, as bits (R287). -/
  demand : Nat
  /-- Consecutive ticks with lattice demand and every lattice-marked input in run. -/
  odd : Nat
  /-- The start-up release of R290 has been sent. -/
  released : Bool
  /-- Ticks since the last lattice test; LATTICE_TEST_DUE has been raised since. -/
  testTick : Nat
  testDue : Bool
  /-- Consecutive ticks with the gate-enable bus low; with the heartbeat toggled. -/
  busLow : Nat
  beats : Nat
  /-- The restart of R293 is under way; the processor has started again since the latest mismatch. -/
  restarting : Bool
  restarted : Bool
  /-- A lasting safety-memory fault since reset (R308). -/
  memLasting : Bool
  deriving DecidableEq, Repr

def SafeDiag.reset : SafeDiag :=
  { demand := 0, odd := 0, released := false, testTick := 0, testDue := false, busLow := 0, beats := 0,
    restarting := false, restarted := true, memLasting := false }

/-- The test pulses of a safe output that is on: ticks since the latest pulse, or since it came on, and whether switch B
is next (R301). -/
structure OutTest where
  age : Nat
  nextB : Bool
  deriving DecidableEq, Repr

def OutTest.idle : OutTest := { age := 0, nextB := false }

/-- A safety tick after its first two steps, which waits for the rows of its discrepancy faults and expired windows: the
readbacks and voltages of its safe outputs, and what a release would find (R291). -/
structure TickRest where
  closedA : Nat
  closedB : Nat
  voltage : Nat
  testOk : Bool
  persist : List Nat
  deriving DecidableEq, Repr

/-- SAFE beside its registers, which hold what SAFE works with now. -/
structure SafeSt where
  /-- The words 0x0000 to 0x0034 as the mirror shows them, by address: those of the latest tick (R291, R318). -/
  mirror : List (Nat × Word)
  /-- The rest of the tick under way. -/
  rest : Option TickRest
  /-- Causes latched in step 3 of the latest tick, which no release of that tick finds cleared (R315). -/
  latched : List (Nat × Nat)
  /-- Test pulses, by output. -/
  outs : List (Nat × OutTest)
  /-- Causes of the lattice's latch that the processor has not recorded (R289). -/
  latticeCauses : List (Nat × Nat)
  /-- Recorded LOCKOUT causes, code and index, earliest first; held in the vault (R310). -/
  causes : List (Nat × Nat)
  inputs : List (Nat × SafeIn)
  /-- Functions in demand at the latest tick, as bits. -/
  demand : Nat
  subs : List (Nat × SafeSub)
  rst : LocalReset
  arm : Option Arm
  /-- LOCKOUT_CONFIRM commands waiting for their tick (R314). -/
  confirms : List Packet
  diag : SafeDiag
  deriving DecidableEq, Repr

def SafeSt.reset : SafeSt :=
  { mirror := [], rest := none, latched := [], outs := [], latticeCauses := [], causes := [], inputs := [], demand := 0, subs := [], rst := LocalReset.idle, arm := none,
    confirms := [], diag := SafeDiag.reset }

/-- A coefficient word waiting in the queue (R158). -/
structure CoefWord where
  law : Nat
  index : Nat
  value : Word
  deriving DecidableEq, Repr

/-- A law beside its registers. -/
structure LawSt where
  /-- An accepted hold begins at the law's next sample, for this many samples (R162). -/
  holdDue : Option Nat
  /-- The hold has expired and HOLD_EXPIRED is due (R165). -/
  expired : Bool
  /-- Consecutive due samples with an invalid measurement or set-point (R137). -/
  invalid : Nat
  /-- MEAS_INVALID_LIMIT has been raised for the run. -/
  limitDone : Bool
  /-- The coefficient CRC has been formed since the words last changed (R170). -/
  crcFormed : Bool
  /-- Last valid value of each set-point (R137). -/
  setp : List (Nat × Word)
  deriving DecidableEq, Repr

def LawSt.idle : LawSt := { holdDue := none, expired := false, invalid := 0, limitDone := false, crcFormed := false, setp := [] }

/-- A profile output in binary64 codes: position, velocity, acceleration (R175, R176). -/
structure PgSt where
  p : Nat
  v : Nat
  a : Nat
  deriving DecidableEq, Repr

/-- A transform quantity or input triple: dq value and validity. -/
structure Dq where
  d : Word
  q : Word
  valid : Bool
  deriving DecidableEq, Repr

def Dq.none : Dq := { d := 0, q := 0, valid := false }

/-- The control engine, transform stage and profile generator of the lanes, which compute alike (R130). -/
structure LaneSt where
  laws : List (Nat × LawSt)
  /-- Coefficient words by 2048·law + index (R132). -/
  coef : List (Nat × Word)
  queue : List CoefWord
  /-- Head index of the queue: words that have left it, modulo its 256 entries (R158, R208). -/
  head : Nat
  /-- Last dq values of the four input triples, valid or not (R146, R153). -/
  dq : List (Nat × Dq)
  /-- Transform quantities 80 to 95 of the latest vmo_law sample, by index − 80: value and validity. -/
  quant : List (Nat × (Word × Bool))
  phiPrev : Word
  phiOk : Bool
  omegaBf : Word
  vmag : Word
  /-- |i_u| exceeds I_lim in the latest sample: limit_reached (R150). -/
  limitReached : Bool
  /-- Consecutive samples with |i_n| within the exit fraction (R63). -/
  exitCount : Nat
  /-- Rotor clamp: 0 none, 1 at 0.90, 2 at 1.10 (R48). -/
  rotor : Nat
  dphiPrev : Option Word
  /-- Profile outputs that have moved. -/
  pg : List (Nat × PgSt)
  /-- Spill records buffered, by lane, oldest first (R171). -/
  spill : List (Nat × List (List Word))
  /-- Beats written of the oldest of them (R40). -/
  spillPos : List (Nat × Nat)
  spillRun : List (Nat × Bool)
  deriving DecidableEq, Repr

def LaneSt.reset : LaneSt :=
  { laws := [], coef := [], queue := [], head := 0, dq := [], quant := [], phiPrev := 0, phiOk := false, omegaBf := 0x3F800000,
    vmag := 0, limitReached := false, exitCount := 0, rotor := 0, dphiPrev := none, pg := [], spill := [], spillPos := [],
    spillRun := [] }

/-- A redundancy part of a lane beside its registers. -/
structure RedSt where
  /-- The built-in self-test of start-up failed: FAILED until module reset (R206). -/
  bootFailed : Bool
  /-- Samples of the coefficient copy still to come (R223). -/
  coefLeft : Nat
  /-- The lane has failed and its recovery wait runs (R225). -/
  waiting : Bool
  /-- Diagnosed faulty; it becomes FAILED at the end of the sample (R214). -/
  faulty : Bool
  /-- A copy has completed and LANE_RESYNC_DONE is to come (R224). -/
  syncing : Bool
  deriving DecidableEq, Repr

def RedSt.idle : RedSt := { bootFailed := false, coefLeft := 0, waiting := false, faulty := false, syncing := false }

/-- Switching of the stages and the gate-enable request (R185). -/
structure StageSt where
  /-- The gate-enable request, and its fall 4 µs after a release. -/
  gateReq : Bool
  gateFall : Bool
  acReleased : Bool
  dcReleased : Bool
  /-- The stage starts switching with the next staged compares. -/
  acStart : Bool
  dcStart : Bool
  deriving DecidableEq, Repr

def StageSt.reset : StageSt :=
  { gateReq := false, gateFall := false, acReleased := true, dcReleased := true, acStart := false, dcStart := false }

/-- Elapsed times of the mode machine, in ns. -/
structure WaitSt where
  /-- Time in the present mode. -/
  inMode : Nat
  /-- v_dc has stayed inside, outside pc_band (R193, R194): 0 not, else 1 more than the time. -/
  band : Nat
  out : Nat
  /-- PRECHARGE has been charging since entry (R193). -/
  charging : Option Nat
  /-- A route has waited for v_dc, for a dead or live decision, or for a grant (R189, R196); the bus has met the dead,
  the live test (R196): 0 not, else 1 more than the time. -/
  route : Nat
  dead : Nat
  live : Nat
  /-- t_fc since the entry into RIDE_THROUGH (R64). -/
  tfc : Option Nat
  /-- Elapsed black-start ramp (R200). -/
  ramp : Nat
  deriving DecidableEq, Repr

def WaitSt.reset : WaitSt :=
  { inMode := 0, band := 0, out := 0, charging := none, route := 0, dead := 0, live := 0, tfc := none, ramp := 0 }

/-- The breaker in the present sequence (R198 to R203). -/
structure BrkSt where
  /-- BRK_CLOSE has been issued; BRK_FB has confirmed it. -/
  issued : Bool
  closed : Bool
  /-- Times for which BRK_CLOSE and BRK_OPEN have been high (R198). -/
  closeTime : Nat
  openTime : Nat
  /-- PRECHARGE follows once BRK_FB shows open (R200, R202, R203). -/
  back : Bool
  /-- Another source has energised the bus (R200). -/
  aborted : Bool
  /-- BRK_FB has first been stable after reset (R198). -/
  fbKnown : Bool
  /-- A level of BRK_FB (closed or not) that the next decision point handles, and whether it counts as a change (R184, R198). -/
  event : Option (Bool × Bool)
  deriving DecidableEq, Repr

def BrkSt.reset : BrkSt :=
  { issued := false, closed := false, closeTime := 0, openTime := 0, back := false, aborted := false, fbKnown := false, event := none }

/-- The controlled stop (R203). -/
structure StopSt where
  time : Nat
  /-- Consecutive samples within unload_band. -/
  count : Nat
  /-- unload_timeout has expired. -/
  expired : Bool
  /-- Its BRK_OPEN has been issued. -/
  opened : Bool
  deriving DecidableEq, Repr

def StopSt.reset : StopSt := { time := 0, count := 0, expired := false, opened := false }

/-- Secondary values received over the fabric (R55 to R58). -/
structure SecondarySt where
  offset : Word
  corr : Word
  /-- Secondary periods in a row without a value; one has come in the present period; the module tick at which it began. -/
  missed : Nat
  got : Bool
  since : Nat
  lost : Bool
  deriving DecidableEq, Repr

def SecondarySt.reset : SecondarySt := { offset := 0, corr := 0, missed := 0, got := false, since := 0, lost := false }

/-- The mode machine beside its registers. -/
structure ModeSt where
  stage : StageSt
  wait : WaitSt
  brk : BrkSt
  stop : StopSt
  second : SecondarySt
  /-- A transition has been taken at the present decision point (R184). -/
  decided : Bool
  /-- SAFELIGHT causes that have arisen and wait for the decision (R191). -/
  causes : List Nat
  /-- Causes of SAFELIGHT whose rows were due at the decision point of entry and still have to raise their events (R191). -/
  late : List Nat
  /-- The bus was confirmed dead with the fabric links of both planes down (R197). -/
  alone : Bool
  /-- SAFE's permission at the last decision (R298). -/
  permission : Bool
  /-- Machine's targets of owned outputs, binary32 (R182). -/
  owned : List (Nat × Word)
  /-- v_dc of the latest base sample, and its validity. -/
  vdc : Word
  vdcValid : Bool
  /-- θ[k] of the latest sample of vmo_law (R186). -/
  thetaK : Word
  /-- A lane change is commanded for the next update point (R226). -/
  changeDue : Bool
  deriving DecidableEq, Repr

def ModeSt.reset : ModeSt :=
  { stage := StageSt.reset, wait := WaitSt.reset, brk := BrkSt.reset, stop := StopSt.reset, second := SecondarySt.reset,
    decided := false, causes := [], late := [], alone := false, permission := false, owned := [], vdc := 0, vdcValid := false, thetaK := 0, changeDue := false }
/-! ### SHUT -/

/-- A command or a block's order that acts at the shutter's next sample (R405). -/
inductive ShutOrder where
  | arm (single : Bool)
  | trigger
  | stop
  deriving DecidableEq, Repr

/-- The trigger of a record: kind and frac of the header, the time at sample k, the lead-in samples, and the samples
written from k on. -/
structure ShutTrig where
  kind : Nat
  frac : Nat
  time : Nat
  lead : Nat
  post : Nat
  deriving DecidableEq, Repr

/-- Crossing detection on the trigger channel (R399): the previous sample; whether the signal has passed the hysteresis
since the previous rising, falling crossing of level and of level2; the sample count; and what is open: a pulse with
its direction and start in 1/256 sample, a level2 crossing within it, slews up and down, samples without a crossing. -/
structure ShutTrack where
  prev : Option Int
  low : Bool
  high : Bool
  low2 : Bool
  high2 : Bool
  count : Nat
  pulse : Option (Bool × Nat)
  crossed2 : Bool
  up : Option Nat
  down : Option Nat
  quiet : Nat
  deriving DecidableEq, Repr

def ShutTrack.start : ShutTrack :=
  { prev := none, low := false, high := false, low2 := false, high2 := false, count := 0, pulse := none,
    crossed2 := false, up := none, down := none, quiet := 0 }

/-- How a record closed: status and mask zone of the header, and the mask index. -/
structure ShutEnd where
  status : Nat
  zone : Nat
  mask : Word
  deriving DecidableEq, Repr

/-- A shutter beside its registers. -/
structure Shut where
  /-- Pacing outputs since its latest sample. -/
  pace : Nat
  orders : List ShutOrder
  /-- It arms again at its next sample (R406). -/
  rearm : Bool
  /-- A pattern trigger waits for sample k: its frac. -/
  pattern : Option Nat
  /-- Samples of the present record written, and the data-area index of the next. -/
  written : Nat
  next : Nat
  /-- Time and invalid words of the record's samples, newest first. -/
  samples : List (Nat × Nat)
  trig : Option ShutTrig
  closing : Option ShutEnd
  /-- A write of the record met a marked page. -/
  marked : Bool
  track : ShutTrack
  deriving DecidableEq, Repr

def Shut.idle : Shut :=
  { pace := 0, orders := [], rearm := false, pattern := none, written := 0, next := 0, samples := [], trig := none,
    closing := none, marked := false, track := ShutTrack.start }

/-- A film word on its way to shared SRAM. -/
structure FilmWord where
  shutter : Nat
  addr : Nat
  value : Word
  deriving DecidableEq, Repr

/-- SHUT beside its registers: the shutters, and the film words the film writer still holds, oldest first. -/
structure ShutSt where
  runs : List (Nat × Shut)
  film : List FilmWord
  deriving DecidableEq, Repr

def ShutSt.reset : ShutSt := { runs := [], film := [] }

/-! ### NET and the transports of HOST -/

/-- A frame waiting in the bridge (R446): its receive timestamp in ns, and whether the transparent clock was on then
(R463). -/
structure BridgeFrame where
  kind : EthKind
  key : Nat
  rx : Nat
  tc : Bool
  bytes : List Byte
  deriving DecidableEq, Repr

/-- MODEL: a frame that has left a port, with what was added to its correctionField (log entry 9, DESIGN CHOICE). -/
structure NetOut where
  port : Nat
  corr : Nat
  bytes : List Byte
  deriving DecidableEq, Repr

/-- MODEL: a completion delivered to the producer of a transmit ring (R448): status code and the words of the timestamp
(log entry 9, DESIGN CHOICE). -/
structure Completion where
  ring : Nat
  seq : Nat
  status : Nat
  stamp : List Word
  deriving DecidableEq, Repr

/-- A CAN controller beside its registers: its frame on the bus is to be aborted, and bus-off recovery runs. -/
structure CanSt where
  aborting : Bool
  recovering : Bool
  deriving DecidableEq, Repr

def CanSt.idle : CanSt := { aborting := false, recovering := false }

/-- The transaction on the SPI host port (R421): none while HSPI_CS is high; receiving a frame; a frame received whole;
sending, with whether all bytes have been clocked out; or ignored until HSPI_CS rises. -/
inductive SpiSt where
  | idle
  | writing
  | written
  | reading (whole : Bool)
  | ignored
  deriving DecidableEq, Repr

/-- NET beside its registers, and the reassemblies and transactions of HOST's transports. -/
structure NetSt where
  /-- The lower 16 bits of the counter's fraction (R450). -/
  fracLow : Nat
  /-- Consecutive synchronisations within lock_thr. -/
  good : Nat
  /-- What is left to slew, in 2^-32 ns. -/
  slew : Int
  /-- Module tick at which HOLDOVER began. -/
  holdTick : Nat
  /-- Module tick of the latest Sync of the source in use; tick and interval in ms of the latest Announce (R461). -/
  syncTick : Nat
  announced : Option (Nat × Nat)
  /-- The counter has been stepped or set since the latest module tick. -/
  moved : Bool
  /-- STANDBY has been reached since reset (R462). -/
  seenStandby : Bool
  bridge : List (Nat × List BridgeFrame)
  /-- Residences held for Follow_Up: key and ns (R463). -/
  held : List (Nat × Nat)
  can : List (Nat × CanSt)
  /-- Module tick since which each Ethernet port's link is down. -/
  downTick : List (Nat × Nat)
  /-- Reassemblies: port, identification, and module tick of the first fragment (R420). -/
  reasm : List (Nat × Nat × Nat)
  spi : SpiSt
  out : List NetOut
  done : List Completion
  /-- MODEL: MSI-X vectors sent, newest first (R419). -/
  msix : List Nat
  deriving DecidableEq, Repr

def NetSt.reset : NetSt :=
  { fracLow := 0, good := 0, slew := 0, holdTick := 0, syncTick := 0, announced := none, moved := false, seenStandby := false, bridge := [], held := [], can := [],
    downTick := [], reasm := [], spi := .idle, out := [], done := [], msix := [] }

/-! ### SYS -/

/-- SYS beside its registers. -/
structure SysSt where
  /-- Cause of a reset entry that is due (R519 to R521, R550), and of the one under way: gate enable is low (R520). -/
  due : Option Nat
  low : Option Nat
  /-- The hold-up has ended (R523). -/
  ended : Bool
  /-- Reset is held: 1 until power good (R523), 2 until REFCLK is present (R519); 0 released. -/
  hold : Nat
  /-- Tick at which a reset was requested (R529). -/
  request : Option Nat
  /-- A relock follows a loss of lock at the next alignment point (R515); the acquisition under way: 1 the first, 2 its
  retry (R518). -/
  relock : Bool
  acquiring : Nat
  /-- Module tick at which that acquisition began (R518). -/
  acquireTick : Nat
  /-- VSYS_HIGH has been raised and VSYS has not come down since (R521). -/
  high : Bool
  /-- RB_GATE is driven (R522). -/
  gate : Bool
  /-- The vault's brown-out latch (R532). -/
  brownOut : Bool
  /-- Start-up has stopped at step 4 for a tamper latch (R550). -/
  tamperStop : Bool
  /-- A tamper response waits for start-up step 3 (R550). -/
  tamperDue : Bool
  /-- Tick of the latest VBAT measurement (R531). -/
  vbatTick : Option Nat
  /-- Thousandths of an RTC tick (R533). -/
  rtcRest : Nat
  deriving DecidableEq, Repr

def SysSt.reset : SysSt :=
  { due := none, low := none, ended := false, hold := 0, request := none, relock := false, acquiring := 0,
    acquireTick := 0, high := false, gate := false,
    brownOut := false, tamperStop := false, tamperDue := false, vbatTick := none, rtcRest := 0 }

/-- The state of the module. -/
structure State where
  /-- Every register of the register maps, and the PCI Express ring windows: those that differ from their reset value. -/
  regs : List (Nat × Word)
  /-- Shared SRAM: the bytes that are not zero. -/
  mem : List Host.Cell
  /-- Commands waiting, first in, first out. -/
  pending : List Instr
  /-- MODEL: how many free values have been used (log entry 5, DESIGN CHOICE). -/
  fresh : Nat
  /-- Module ticks since reset (R593). -/
  tick : Nat
  rings : List (Nat × RingQ)
  /-- Events in the merger, oldest first (R560). -/
  evq : List EventRec
  /-- Events lost at the merger and not yet added to the rings' lost counts. -/
  evLost : Nat
  /-- The resource ledger, in ascending kind and granule (R23 to R29). -/
  ledger : List Claim
  /-- Staged registers with their values, in the order in which they were first staged (R431). -/
  staging : List (Nat × Word)
  /-- Accepted FIX sets that have not applied everywhere, oldest first (R434). -/
  fixes : List Fix
  sessions : List (Nat × Session)
  /-- Durations of the leases by table entry, in ms (R439). -/
  leaseDur : List (Nat × Nat)
  /-- The next lease handle is one above this (R437). -/
  leaseLast : Nat
  /-- Commands that have consumed their seq and have no final reply, oldest first (R441). -/
  inflight : List InFlight
  /-- Replies and notices waiting in each channel's reply ring, oldest first (R418). -/
  replies : List (Nat × List Reply)
  conv : ConvSt
  pwm : PwmSt
  gate : GateSt
  perf : PerfSt
  memx : MemSt
  safe : SafeSt
  modes : ModeSt
  lane : LaneSt
  /-- Redundancy state by lane. -/
  red : List (Nat × RedSt)
  sec : SecSt
  cyc : CycleSt
  fab : FabSt
  shut : ShutSt
  net : NetSt
  sys : SysSt
  /-- MODEL: replies and notices that have left the module, newest first (log entry 9, DESIGN CHOICE). -/
  sent : List Reply
  /-- MODEL: writes into host memory that have left the module, newest first: channel, offset in the host window, and
  bytes (log entry 9, DESIGN CHOICE). -/
  busOut : List (Nat × Nat × List Byte)
  deriving DecidableEq, Repr

/-- The module right after reset (log entry 2, DESIGN CHOICE). -/
def State.reset : State :=
  { regs := [], mem := [], pending := [], fresh := 0, tick := 0, rings := [], evq := [], evLost := 0, ledger := [],
    staging := [], fixes := [], sessions := [], leaseDur := [], leaseLast := 0, inflight := [], replies := [],
    conv := ConvSt.reset, pwm := PwmSt.reset, gate := GateSt.reset, perf := PerfSt.reset, memx := MemSt.reset,
    safe := SafeSt.reset, modes := ModeSt.reset, lane := LaneSt.reset, red := [], sec := SecSt.reset, cyc := CycleSt.reset,
    fab := FabSt.reset, shut := ShutSt.reset, net := NetSt.reset, sys := SysSt.reset, sent := [], busOut := [] }

end Sys2Proof.Machine
end

