-- ==== Sys2Proof/Machine/Ops.lean ====
section
/-! DEFINITION. The named operations every subsystem uses: reading and writing registers and their fields, the shared
SRAM, free values, raising an event (R555 to R563), rings and the descriptor pool (R383 to R388), and the resource
ledger (R23 to R29). -/

namespace Sys2Proof.Machine

/-! ### Registers -/

/-- The value of the register at device address `a`. -/
def State.rd (s : State) (a : Nat) : Word := sparseGet resetValue s.regs a

/-- `s` with the register at `a` holding `v`. -/
def State.wr (s : State) (a : Nat) (v : Word) : State := { s with regs := sparseSet resetValue s.regs a v }

/-- The field of `n` bits at bit `lo` of the register at `a`. -/
def State.fld (s : State) (a lo n : Nat) : Nat := field (s.rd a) lo n

/-- `s` with that field holding `v`. -/
def State.put (s : State) (a lo n v : Nat) : State := s.wr a (putFld (s.rd a) lo n v)

/-- Bit `i` of the register at `a`. -/
def State.bit (s : State) (a i : Nat) : Bool := s.fld a i 1 == 1

/-- `s` with bit `i` of the register at `a` made `b`. -/
def State.setBit (s : State) (a i : Nat) (b : Bool) : State := s.put a i 1 (bitNat b)

/-- A field counting up by `k` and stopping at its largest value. -/
def State.countUp (s : State) (a lo n k : Nat) : State := s.put a lo n (satAdd (2 ^ n - 1) (s.fld a lo n) k)

/-- A field counting up by `k` modulo 2^n. -/
def State.countWrap (s : State) (a lo n k : Nat) : State := s.put a lo n (s.fld a lo n + k)

/-- Both lanes' copies of a register of lane-indexed address `f`. -/
def State.wrBoth (s : State) (f : Nat → Nat) (v : Word) : State := (s.wr (f 0) v).wr (f 1) v

/-- `s` with the writable fields of the RW register at `a` taken from `v`, its other bits kept (R9). -/
def State.wrRw (s : State) (a : Nat) (v : Word) : State :=
  let m := word (match regRow a with | some r => r.mask | none => 0)
  s.wr a ((s.rd a &&& ~~~m) ||| (v &&& m))

/-- Bit `i` of a bank of 32-bit registers at `a`, `a` + 4, … -/
def State.bankBit (s : State) (a i : Nat) : Bool := s.bit (a + i / 32 * 4) (i % 32)

/-- `s` with bit `i` of the bank made `b`. -/
def State.setBankBit (s : State) (a i : Nat) (b : Bool) : State := s.setBit (a + i / 32 * 4) (i % 32) b

/-! ### Shared SRAM -/

/-- What an unlisted byte of shared SRAM reads as: the self-test leaves every byte zero (R358) (log entry 92, DESIGN
CHOICE). -/
def memDefault (_ : Nat) : Byte := 0

/-- The size of shared SRAM, 16 banks of 1 MiB (R18). -/
def memSize : Nat := 0x1000000

/-- The byte of shared SRAM at address `a` (log entry 92, DESIGN CHOICE). -/
def State.rdByte (s : State) (a : Nat) : Byte := sparseGet memDefault s.mem a

/-- `s` with byte `b` at address `a`. -/
def State.wrByte (s : State) (a : Nat) (b : Byte) : State := { s with mem := sparseSet memDefault s.mem a b }

/-- The canonical form of the shared SRAM: addresses strictly rising, no listed zero. -/
def Memory.wf (m : List Host.Cell) : Bool := sparseWf memDefault m

/-- `n` bytes from address `a`. -/
def State.rdBytes (s : State) (a : Nat) : Nat → List Byte
  | 0 => []
  | n + 1 => s.rdByte a :: s.rdBytes (a + 1) n

/-- `s` with the bytes `bs` stored from address `a` on. -/
def State.wrBytes (s : State) (a : Nat) : List Byte → State
  | [] => s
  | b :: bs => (s.wrByte a b).wrBytes (a + 1) bs

/-! ### Free values -/

/-- A free word, and the state in which the next one is another (log entry 5, DESIGN CHOICE). -/
def State.freshWord (s : State) : Word × State := (Config.freeWord s.fresh, { s with fresh := s.fresh + 1 })

/-- A free 128-bit value, and the state in which the next one is another (log entry 5, DESIGN CHOICE). -/
def State.freshKey (s : State) : BitVec 128 × State := (Config.freeKey s.fresh, { s with fresh := s.fresh + 1 })

/-! ### The lane that holds the ACTIVE token -/

/-- Lane A when it holds the ACTIVE token, lane B when that one does, lane A when none does (R557). -/
def State.activeLane (s : State) : Nat :=
  if s.bit (Reg.laneRedStatus 0) 0 then 0 else if s.bit (Reg.laneRedStatus 1) 0 then 1 else 0

/-! ### The roles of the lanes -/

/-- Whether lane `l` is ACTIVE, STANDBY, FAILED, RECOVERING (R205). -/
def State.isActive (s : State) (l : Nat) : Bool := s.bit (Reg.laneRedStatus l) 0
def State.isStandby (s : State) (l : Nat) : Bool := s.bit (Reg.laneRedStatus l) 1
def State.isFailed (s : State) (l : Nat) : Bool := s.bit (Reg.laneRedStatus l) 8
def State.isRecovering (s : State) (l : Nat) : Bool := s.bit (Reg.laneRedStatus l) 9

/-- Whether the standby lane `l` is in step (R210). -/
def State.inStep (s : State) (l : Nat) : Bool := s.bit (Reg.laneRedStatus l) 2

/-- Whether lane `l` computes: it is ACTIVE or STANDBY. -/
def State.computes (s : State) (l : Nat) : Bool := s.isActive l || s.isStandby l

/-- Whether some lane computes. -/
def State.someLane (s : State) : Bool := s.computes 0 || s.computes 1

/-- Whether lane `l`'s registers take the common results: it computes, and no copy to it is pending (R223). -/
def State.holdsResults (s : State) (l : Nat) : Bool := s.computes l && !s.bit (Reg.laneRedStatus l) 10

/-- The lane whose registers are read: the ACTIVE one, else a standby, else lane A. -/
def State.lead (s : State) : Nat :=
  if s.isActive 0 then 0 else if s.isActive 1 then 1 else if s.computes 0 then 0 else if s.computes 1 then 1 else 0

/-! ### Events -/

/-- The device address of the block with number `b` of R555. -/
def blockBase (b : Nat) : Nat := 0x10000000 + (b - 1) * 0x10000

/-- The register bits an event code sets (R556): (register, bit), in both lanes for the events of R557. -/
def eventBits (code : Nat) : List (Nat × Nat) :=
  let b := code / 256
  let i := code % 256
  if i = 0xF0 then (if b = 0x0B then [(Reg.memEvent, 0)] else [])
  else if i = 0xF1 then (if b = 0x0B then [(Reg.memEvent, 1)] else [])
  else if b = 0x09 ∨ 0x60 ≤ i then []
  else if b = 4 ∨ b = 5 then
    if i < 0x20 then [(Reg.laneEvent 0, i), (Reg.laneEvent 1, i)]
    else if i < 0x40 then [(Reg.laneModeEvent 0, i - 0x20), (Reg.laneModeEvent 1, i - 0x20)]
    else [(Reg.laneRedEvent (b - 4), i - 0x40)]
  else if b = 6 ∨ b = 7 then [(Reg.pwmEvent 0, i), (Reg.pwmEvent 1, i)]
  else [(blockBase b + 4, i)]

/-- Setting a list of (register, bit). -/
def State.setBits (s : State) (l : List (Nat × Nat)) : State := l.foldl (fun s e => s.setBit e.1 e.2 true) s

/-- Counter `k` counts the overflows of its predecessor (R565). -/
def State.chained (s : State) (k : Nat) : Bool := decide (k < 32) && s.bit (Reg.perfCntCfg k) 16 && s.bit (Reg.perfCntCfg k) 17

/-- Counter `k` of PERF counts `n` occurrences (R564, R565): past 0xFFFF_FFFF it passes its overflows on to a chained
successor, or starts again from its reload value and its overflow waits. The fuel is the number of counters. -/
def State.bumpCounter (s : State) (k n : Nat) : Nat → State
  | 0 => s
  | fuel + 1 =>
    let v := (s.rd (Reg.perfCntVal k)).toNat + n
    if v < 2 ^ 32 then s.wr (Reg.perfCntVal k) (word v)
    else if s.chained (k + 1) then (s.wr (Reg.perfCntVal k) (word v)).bumpCounter (k + 1) (v / 2 ^ 32) fuel
    else
      let r := (s.rd (Reg.perfCntReload k)).toNat
      let s := s.wr (Reg.perfCntVal k) (word (r + (v - 2 ^ 32) % (2 ^ 32 - r)))
      { s with perf := { s.perf with overflowed := sparseSet (fun _ => false) s.perf.overflowed k true } }

/-- Every enabled, unchained counter whose source is `src` counts `n` occurrences (R564). -/
def State.countSource (s : State) (src n : Nat) : State :=
  (List.range 32).foldl (fun s k =>
    let c := s.rd (Reg.perfCntCfg k)
    if field c 0 16 = src ∧ field c 16 1 = 1 ∧ field c 17 1 = 0 then s.bumpCounter k n 32 else s) s

/-- `n` beats of a requester, by class and index in it, are granted on bank `b` after `wait` CLK_CTL cycles: its sources
and the bandwidth windows that watch it (R564, R570). -/
def State.countBeats (s : State) (b cls idx n wait : Nat) : State :=
  (List.range 16).foldl (fun s w =>
    let c := s.rd (Reg.perfWinCfg w)
    if field c 22 1 = 1 ∧ (field c 4 1 = 1 ∨ field c 0 4 = b) ∧ field c 5 2 = cls ∧ (field c 11 1 = 1 ∨ field c 7 4 = idx) then
      let s : State := { s with perf := { s.perf with
        beats := sparseSet (fun _ => 0) s.perf.beats w (sparseGet (fun _ => 0) s.perf.beats w + n) } }
      s.wr (Reg.perfWinWait w) (word (max (s.rd (Reg.perfWinWait w)).toNat (min wait (2 ^ 32 - 1))))
    else s) (s.countSource (0x8100 + 4 * b + cls) n)

/-- TRANSIENT and FAULT_LASTING are counted per block (R569), transients also in the running 1 s window. -/
def State.countFault (s : State) (code : Nat) : State :=
  let b := code / 256
  if code % 256 = 0xF0 then
    let s := s.countUp (Reg.perfFstat b) 0 16 1
    { s with perf := { s.perf with window := sparseSet (fun _ => 0) s.perf.window b (sparseGet (fun _ => 0) s.perf.window b + 1) } }
  else if code % 256 = 0xF1 then s.countUp (Reg.perfFstat b) 16 16 1
  else s

/-- The linear nanosecond count of the time counter, 48 bits (R450). -/
def State.linearNs (s : State) : Nat :=
  (s.rd Reg.netTcLinLo).toNat + (s.rd Reg.netTcLinHi).toNat % 2 ^ 16 * 2 ^ 32

/-- The counter in units of 2^-32 ns (R450). -/
def State.timeTotal (s : State) : Nat :=
  ((s.rd Reg.netTcSecLo).toNat + s.fld Reg.netTcSecHi 0 16 * 2 ^ 32) * (1000000000 * 2 ^ 32)
    + (s.rd Reg.netTcNs).toNat * 2 ^ 32 + s.fld Reg.netTcFrac 0 16 * 2 ^ 16 + s.net.fracLow

/-- The derived outputs of the PLL run: since start-up step 2, and not while the domains are on the detour clock (R515,
R516, R525). -/
def State.outputsRun (s : State) : Bool :=
  !s.bit Reg.sysClkStat 3 && (s.bit Reg.sysClkStat 2 || decide (2 < s.fld Reg.sysBoot 0 4))

/-- CLK_ETH and CLK_FAB run (R511, R516, R523). -/
def State.ethClock (s : State) : Bool := s.outputsRun && !s.bit Reg.sysClkCfg 2 && !s.bit Reg.sysStatus 4
def State.fabClock (s : State) : Bool := s.outputsRun && !s.bit Reg.sysClkCfg 3 && !s.bit Reg.sysStatus 4

/-- The increment of a CLK_PER tick (R450). -/
def State.timeInc (s : State) : Nat := s.fld Reg.netTcIncNs 0 4 * 2 ^ 32 + (s.rd Reg.netTcIncFrac).toNat

/-- The counter `dt` CLK_PER ticks after the latest module tick. -/
def State.timeAt (s : State) (dt : Nat) : Nat := s.timeTotal + dt * s.timeInc

/-- The linear count at that time (log entry 122, DESIGN CHOICE). -/
def State.linearAt (s : State) (dt : Nat) : Nat := s.timeAt dt / 2 ^ 32 % 2 ^ 48

/-- The words of a fault record for event `code` (R563), without its CRC (log entry 122, DESIGN CHOICE). -/
def State.faultWords (s : State) (code : Nat) (details : List Word) : List Word :=
  let l := s.activeLane
  let seq := s.fld Reg.perfFrStat 16 16
  [word (0xFA17 + seq * 0x10000), word code, s.rd Reg.netTcLinLo, s.rd Reg.netTcLinHi]
  ++ (details ++ [0, 0, 0, 0]).take 4
  ++ [s.rd (Reg.laneSample l), s.rd (Reg.laneMode l), s.rd (Reg.laneRedStatus 0), s.rd (Reg.laneRedStatus 1),
      s.rd (Reg.laneStatus 0), s.rd (Reg.laneStatus 1), s.rd (Reg.laneXfOmega l), s.rd (Reg.laneXfE l),
      s.rd (Reg.laneXfImag l), s.rd (Reg.pwmTripLatch0 l), s.rd (Reg.pwmTripLatch1 l), s.rd (Reg.pwmTripLatch2 l),
      s.rd (Reg.pwmStatus l)]
  ++ [s.rd Reg.gateFault0, s.rd Reg.gateFault1, s.rd Reg.gateLock0, s.rd Reg.gateLock1, s.rd Reg.gateStatus,
      s.rd Reg.gateFirst, s.rd Reg.safeStatus, s.rd Reg.safeCause, s.rd Reg.safeInLogic, s.rd Reg.safeSfState,
      s.rd Reg.cycleStatus, s.rd Reg.cycleKey, s.rd Reg.memStatus, s.rd Reg.memFaultInfo, s.rd Reg.memFaultAddr]
  ++ [s.rd Reg.sysStatus, s.rd Reg.sysVsys, s.rd Reg.sysTemp, s.rd Reg.fabStatus, s.rd Reg.netStatus,
      s.rd Reg.hostStatus, s.rd Reg.shutStatus, s.rd Reg.convBsStatus, s.rd Reg.convOwStatus0,
      s.rd Reg.convOwStatus1, s.rd Reg.filtThrState0, s.rd Reg.filtThrState1]
  ++ List.replicate 15 0

/-- The fault-record writer takes a record (R563): one record may be in writing and 8 more wait; one that finds the
buffer full is dropped and counted (R368) (log entry 43, DEDUCED). -/
def State.takeRecord (s : State) (code : Nat) (details : List Word) : State :=
  if s.memx.records.length < 9 then
    let w := s.faultWords code details
    let s := s.countWrap Reg.perfFrStat 16 16 1
    { s with memx := { s.memx with records := s.memx.records ++ [w ++ [crc32c (wordsBytes w)]] } }
  else s.countUp Reg.memFrDrop 0 16 1

/-- The event codes that take a fault record by themselves (R563); TRIP_LATCHED and MODE_CHANGE do so only on a
condition, which their raisers judge. -/
def recordCode (code : Nat) : Bool :=
  let i := code % 256
  let b := code / 256
  i == 0xF1 || ((b == 4 || b == 5) && (i == 0x41 || i == 0x42 || i == 0x43)) || code == 0x0803 || code == 0x0806
    || code == 0x0A01 || code == 0x0900 || code == 0x0100 || code == 0x01E0

/-- An event matches one of a ring's filter entries (R561). -/
def matchesFilter (l : List (Nat × Nat)) (code : Nat) : Bool := l.any (fun f => (code &&& f.2) == (f.1 &&& f.2))

/-- The event rings, 32 to 38, whose filter lists match an event raised now (R561). -/
def State.matchedRings (s : State) (code : Nat) : List Nat :=
  [32, 33, 34, 35, 36, 37, 38].filter (fun r => matchesFilter (sparseGet (fun _ => RingQ.empty) s.rings r).filters code)

/-- A raised event enters the merger, judged on the filter lists in force (R561); one that finds 256 entries is lost, counted, and added to the lost count of every
event ring (R560). -/
def State.enqueueEvent (s : State) (code : Nat) (details : List Word) : State :=
  if s.evq.length < 256 then
    let e : EventRec :=
      { code := code
        timeSec := (s.rd Reg.netTcSecLo).toNat + (s.rd Reg.netTcSecHi).toNat % 2 ^ 16 * 2 ^ 32
        timeNs := (s.rd Reg.netTcNs).toNat
        timeFrac := (s.rd Reg.netTcFrac).toNat
        details := details
        rings := s.matchedRings code }
    let s := { s with evq := s.evq ++ [e] }
    s.put Reg.perfStatus 0 9 s.evq.length
  else { s.countUp Reg.perfEvtLost 0 16 1 with evLost := s.evLost + 1 }

/-- Raising the event `code` with its named details: its register bits are set, it is counted, it enters the merger and
takes a fault record where R563 says so (R559) (log entry 11, DEDUCED). -/
def State.raise (s : State) (code : Nat) (details : List Word) : State :=
  let s := (s.setBits (eventBits code)).countSource code 1
  let s := (s.countFault code).enqueueEvent code details
  if recordCode code then s.takeRecord code details else s

/-- An event of LANE_EVENT (index `n`), of LANE_MODE_EVENT (0x20 + n): raised once, under the active lane (R557). -/
def State.raiseLane (s : State) (n : Nat) (details : List Word) : State :=
  s.raise ((4 + s.activeLane) * 256 + n) details

/-- An event of PWM_EVENT, raised once, under the active lane's generator (R557). -/
def State.raisePwm (s : State) (n : Nat) (details : List Word) : State :=
  s.raise ((6 + s.activeLane) * 256 + n) details

/-- TRANSIENT in block `b` at `addr`, with the fields of MEM_FAULT_INFO (R32, R558). -/
def State.raiseTransient (s : State) (b : Nat) (addr info : Word) : State := s.raise (b * 256 + 0xF0) [addr, info]

/-- FAULT_LASTING in block `b` (R33, R558). -/
def State.raiseLasting (s : State) (b : Nat) (addr info : Word) : State := s.raise (b * 256 + 0xF1) [addr, info]

/-! ### Rings and the descriptor pool -/

/-- Ring `r`'s queue. -/
def State.ring (s : State) (r : Nat) : RingQ := sparseGet (fun _ => RingQ.empty) s.rings r

/-- `s` with ring `r`'s queue. -/
def State.setRing (s : State) (r : Nat) (q : RingQ) : State :=
  { s with rings := sparseSet (fun _ => RingQ.empty) s.rings r q }

/-- Descriptors in ring `r`. -/
def State.ringFill (s : State) (r : Nat) : Nat := s.fld (Reg.memRingStat r) 0 13

/-- Rings that never draw on the shared remainder (R386). -/
def reserveOnly (r : Nat) : Bool := decide (r < 16) || (decide (32 ≤ r) && decide (r < 40))

/-- The fill at which ring `r` is full (R386). -/
def State.ringLimit (s : State) (r : Nat) : Nat :=
  let cap := 2 ^ s.fld (Reg.memRingCfg r) 0 4
  if reserveOnly r then min cap (s.fld (Reg.memRingCfg r) 4 13) else cap

/-- The shared remainder of the pool (R386). -/
def State.sharedFree (s : State) : Nat := s.fld Reg.memPool 0 13

/-- Descriptors of the shared remainder that ring `r` would draw to grow from its fill by `n`. -/
def State.sharedNeed (s : State) (r n : Nat) : Nat :=
  let res := s.fld (Reg.memRingCfg r) 4 13
  (s.ringFill r + n - res) - (s.ringFill r - res)

/-- Ring `r`'s fill becomes `f`, with its full flag and the shared remainder of R386. -/
def State.setFill (s : State) (r f : Nat) : State :=
  let res := s.fld (Reg.memRingCfg r) 4 13
  let shared := s.sharedFree + (s.ringFill r - res) - (f - res)
  let s := (s.put (Reg.memRingStat r) 0 13 f).put Reg.memPool 0 13 shared
  s.setBit (Reg.memRingStat r) 13 (decide (s.ringLimit r ≤ f))

/-- The outcome of asking ring `r` for `n` descriptors (R386, R387). -/
inductive Room where
  | granted | full | poolEmpty
  deriving DecidableEq, Repr

/-- Whether ring `r` can take a unit of `n` descriptors now (R386, R387). -/
def State.room (s : State) (r n : Nat) : Room :=
  if s.ringLimit r < s.ringFill r + n then .full
  else if ¬ reserveOnly r ∧ s.sharedFree < s.sharedNeed r n then .poolEmpty
  else .granted

/-- A unit of `n` descriptors is appended at the tail of ring `r` (R383, R384) (log entry 121, DEDUCED). -/
def State.append (s : State) (r n : Nat) (bytes : List Byte) : State :=
  let q := s.ring r
  let u : RingUnit := { descs := n, seq := s.fld (Reg.memRingStat r) 16 16, bytes := bytes }
  let s := s.setRing r { q with units := q.units ++ [u], dropRun := false }
  let run := s.memx.poolRun && s.sharedNeed r n == 0
  let s := (s.setFill r (s.ringFill r + n)).countWrap (Reg.memRingStat r) 16 16 n
  let s := { s with memx := { s.memx with poolRun := run } }
  s.countSource 0x8230 n

/-- A unit dropped at ring `r` is counted, and RING_DROP is raised once per run, POOL_EMPTY once per run (R388). -/
def State.dropUnit (s : State) (r : Nat) (why : Room) : State :=
  let s := match why with
    | .poolEmpty =>
      let s := (s.countUp (Reg.memRingDrop r) 16 16 1).countSource 0x8231 1
      if s.memx.poolRun then s else { s.raise 0x0B03 [word r] with memx := { s.memx with poolRun := true } }
    | _ => s.countUp (Reg.memRingDrop r) 0 16 1
  let q := s.ring r
  if q.dropRun then s else (s.raise 0x0B04 [word r]).setRing r { q with dropRun := true }

/-- Whether ring `r` is in use. -/
def State.ringEnabled (s : State) (r : Nat) : Bool := s.bit (Reg.memRingCfg r) 25

/-- Descriptors a unit of `n` bytes takes inline, up to 56 bytes in each (R384). -/
def inlineDescs (n : Nat) : Nat := max 1 ((n + 55) / 56)

/-- Offering a unit to ring `r`: appended where there is room, dropped and counted otherwise. -/
def State.offer (s : State) (r n : Nat) (bytes : List Byte) : State :=
  match s.room r n with
  | .granted => s.append r n bytes
  | why => s.dropUnit r why

/-! ### The resource ledger -/

/-- The claim on granule `g` of kind `k`, if it has an owner. -/
def State.claimOf (s : State) (k g : Nat) : Option Claim := s.ledger.find? (fun c => c.kind == k && c.granule == g)

/-- A claim enters the ledger, which stays in ascending kind and granule order (R430). -/
def insertClaim (c : Claim) : List Claim → List Claim
  | [] => [c]
  | d :: r =>
    if c.kind < d.kind ∨ (c.kind = d.kind ∧ c.granule < d.granule) then c :: d :: r
    else if c.kind = d.kind ∧ c.granule = d.granule then c :: r
    else d :: insertClaim c r

/-- `s` with the claim recorded. -/
def State.addClaim (s : State) (c : Claim) : State := { s with ledger := insertClaim c s.ledger }

/-- `s` with the claim released. -/
def State.dropClaim (s : State) (c : Claim) : State := { s with ledger := s.ledger.filter (fun d => d ≠ c) }

/-- Whether a bank of shared SRAM holds film: a shutter claims one of its granules (R367). -/
def State.bankHoldsFilm (s : State) (b : Nat) : Bool :=
  s.ledger.any (fun c => c.kind == 4 && c.ownerKind == 6 && c.granule / 16 == b)

/-- Whether the page that holds shared SRAM address `a` is marked bad (R361). -/
def State.pageMarked (s : State) (a : Nat) : Bool := s.bankBit (Reg.memBadpage 0) (a / 0x1000)

end Sys2Proof.Machine
end

