-- ==== Sys2Proof/Machine/Audit.lean ====
section
/-! DEFINITION. The audit log (R552, R553) and the error queue of the cycle program (R343), which many rows feed. -/

namespace Sys2Proof.Machine

/-- The kinds of audit entries of R552. -/
inductive AuditKind where
  | sessionOpen | sessionAuth | sessionFault | sessionClose | opcode | force | leaseEnd | modeChange | laneChange
  | lockoutLatch | lockoutRelease | configRefused | tamper
  deriving DecidableEq, Repr

/-- A kind's number: the argument of the free coding of log entry 15, DESIGN CHOICE. -/
def AuditKind.num : AuditKind → Nat
  | .sessionOpen => 0 | .sessionAuth => 1 | .sessionFault => 2 | .sessionClose => 3 | .opcode => 4 | .force => 5
  | .leaseEnd => 6 | .modeChange => 7 | .laneChange => 8 | .lockoutLatch => 9 | .lockoutRelease => 10
  | .configRefused => 11 | .tamper => 12

/-- The 32 bytes of an entry (R552). -/
def AuditEntry.bytes (e : AuditEntry) : List Byte :=
  wordsBytes [word e.seq, word e.timeSec, word e.timeNs, word (e.session + e.role * 2 ^ 8 + e.code * 2 ^ 16),
    word e.detail, word (e.detail / 2 ^ 32), 0] ++ wordsBytes [word e.chain, word (e.chain / 2 ^ 32)]

/-- The most audit entries retained SRAM holds (R553). -/
def auditBuffer : Nat := 112

/-- An entry is recorded: it waits in retained SRAM, or finds the buffer full and is dropped, counted in SEC_AUDIT, and
raises AUDIT_DROP (R552, R553). -/
def State.audit (s : State) (session role : Nat) (kind : AuditKind) (a b : Nat) : State :=
  if s.sec.waiting.length < auditBuffer then
    let e : AuditEntry :=
      { seq := s.sec.auditNext, timeSec := (s.rd Reg.netTcSecLo).toNat, timeNs := (s.rd Reg.netTcNs).toNat,
        session := session, role := role, code := (Config.auditCode kind.num a).toNat,
        detail := (Config.auditDetail kind.num a b).toNat, chain := bytesNat ((sha256 s.sec.previous).take 8) }
    let s := { s with sec := { s.sec with waiting := s.sec.waiting ++ [e], auditNext := (s.sec.auditNext + 1) % 2 ^ 32,
                                          previous := e.bytes } }
    s.put Reg.secAudit 0 16 s.sec.auditNext
  else (s.countUp Reg.secAudit 16 16 1).raise 0x1006 []

/-! ### The error queue and the host link -/

/-- CYCLE_ERR shows the latest cause and the fill. -/
def State.showCauses (s : State) (code index : Nat) : State :=
  s.wr Reg.cycleErr (word (code + index % 2 ^ 16 * 2 ^ 8 + s.cyc.causes.length * 2 ^ 24))

/-- A cause is queued for the error task, or dropped, counted, and ERROR_QUEUE_OVERFLOW raised once per run (R343). -/
def State.queueCause (s : State) (code index : Nat) : State :=
  if s.cyc.causes.length < 64 then
    ({ s with cyc := { s.cyc with causes := s.cyc.causes ++ [(code, index)], dropRun := false } }).showCauses code index
  else
    let s := s.countUp Reg.cycleErrDrop 0 16 1
    if s.cyc.dropRun then s else { s.raise 0x0A0B [] with cyc := { s.cyc with dropRun := true } }

/-- Whether the host link is alive (R350). -/
def State.hostAlive (s : State) : Bool := s.bit Reg.cycleKey 4

/-- The mode-target source of R349 in CYCLE_KEY: 0 host, 1 program, 2 neither. -/
def State.keySource (s : State) : Nat :=
  match s.fld Reg.cycleKey 0 2 with
  | 0 => if s.hostAlive then 0 else 1
  | 1 => 1
  | _ => 2

def State.showSource (s : State) : State := s.put Reg.cycleKey 5 2 s.keySource

/-- A valid command of an authenticated session of role OPERATOR or above keeps the host link alive, and restores a lost
one (R350). -/
def State.keepLink (s : State) : State :=
  let s := { s with cyc := { s.cyc with hostTick := s.tick } }
  if s.hostAlive then s
  else (((s.setBit Reg.cycleKey 4 true).showSource).raise 0x0A08 []).queueCause 0x08 0

end Sys2Proof.Machine
end

