-- ==== Sys2Proof/Machine/FabCore.lean ====
section
/-! DEFINITION. The fabric's ports, sending a frame of the node's own, and what the converter's modes tell the fabric
(R471 to R478, R505). Frames leave at once: the ports' spacing and queueing are timing (log entry 20, DESIGN CHOICE). -/

namespace Sys2Proof.Machine

def State.setFab (s : State) (v : FabSt) : State := { s with fab := v }

/-! ### Ports -/

def State.port (s : State) (p : Nat) : FabPort := sparseGet (fun _ => FabPort.idle) s.fab.ports p
def State.setPort (s : State) (p : Nat) (v : FabPort) : State :=
  s.setFab { s.fab with ports := sparseSet (fun _ => FabPort.idle) s.fab.ports p v }

/-- FAB_PORTp_STAT state: 0 down, 1 training, 2 up, 3 marked down. -/
def State.portState (s : State) (p : Nat) : Nat := s.fld (Reg.fabPortStat p) 0 2
def State.portUp (s : State) (p : Nat) : Bool := decide (p < 4) && s.portState p == 2

/-- Port `p` sends a frame with its frame count as the link tag, and keeps its last 16 frames (R473, R476) (log entry
20, DESIGN CHOICE). -/
def State.sendOn (s : State) (f : FabFrame) (aborted copy : Bool) (p : Nat) : State :=
  if s.portUp p then
    let v := s.port p
    let k : Kept := { tag := v.count % 256, frame := f, aborted := aborted, copy := copy }
    s.setPort p { v with count := v.count + 1, kept := k :: v.kept.take 15 }
  else s

/-! ### The node -/

def State.nodeId (s : State) : Nat := s.fld Reg.fabNode 0 12
def State.surveyorId (s : State) : Nat := s.fld Reg.fabNode 12 12
def State.isSurveyor (s : State) : Bool := s.bit Reg.fabStatus 1

/-- The node's unique ID, and its survey key (R479). -/
def State.uid (s : State) : Nat := (s.rd Reg.fabUidLo).toNat + (s.rd Reg.fabUidHi).toNat * 2 ^ 32
def State.ownKey (s : State) : Nat := s.fld Reg.fabCfg 8 8 * 2 ^ 64 + s.uid

/-- A survey frame (R475). -/
def isSurvey : FabBody → Bool
  | .hello .. | .claim .. | .start .. | .again | .assign .. | .done | .route .. | .report .. | .confirm .. => true
  | _ => false

/-- The node holds a route list (R475). -/
def State.hasRoutes (s : State) : Bool := decide (s.fab.routes ≠ [])

/-- Ports of plane `pl` that the waymark table gives for `dst` (R475, R482). -/
def State.wayPorts (s : State) (dst pl : Nat) : List Nat :=
  (if s.fld (Reg.fabWay dst) (2 * pl) 1 = 1 then [2 * pl] else [])
    ++ (if s.fld (Reg.fabWay dst) (2 * pl + 1) 1 = 1 then [2 * pl + 1] else [])

/-- Links to `dst` on plane `pl`. -/
def State.wayHops (s : State) (dst pl : Nat) : Nat := s.fld (Reg.fabWay dst) (if pl = 0 then 4 else 16) 12

def broadcast : Nat := 0xFFF

/-- A frame of the node's own leaves on the given ports. -/
def State.originate (s : State) (dst stream : Nat) (sched : Bool) (hops : Nat) (body : FabBody) (ports : List Nat) : State :=
  let f : FabFrame :=
    { dst := dst, src := s.nodeId, sched := sched, stream := stream, hops := hops, seq := s.fab.seq, body := body }
  (ports.foldl (fun s p => s.sendOn f false false p) s).setFab
    { (ports.foldl (fun s p => s.sendOn f false false p) s).fab with seq := (s.fab.seq + 1) % 2 ^ 16 }

/-- An asynchronous frame of the node's own (R475, R481): survey frames flood every port that is up until route lists are
known; other types need an ID and a route, a broadcast leaving on both planes and a frame to one node on plane X where
that has a path (log entry 20, DESIGN CHOICE). -/
def State.sendFab (s : State) (dst : Nat) (body : FabBody) : State :=
  if ¬ s.bit Reg.fabCfg 0 then s
  else
    let x := s.wayPorts dst 0
    let y := s.wayPorts dst 1
    if s.hasRoutes ∧ (x ≠ [] ∨ y ≠ []) ∧ (s.nodeId ≠ 0 ∨ isSurvey body) then
      if dst = broadcast ∨ isSurvey body then
        s.originate dst 0 false (max (s.wayHops dst 0) (s.wayHops dst 1)) body (x ++ y)
      else if x ≠ [] then s.originate dst 0 false (s.wayHops dst 0) body x
      else s.originate dst 0 false (s.wayHops dst 1) body y
    else if isSurvey body then s.originate dst 0 false 4095 body [0, 1, 2, 3]
    else s

/-! ### Black start -/

/-- The module's bus section. -/
def State.section (s : State) : Nat := s.fld Reg.fabSecCfg 1 8

/-- A request for a black-start grant enters the surveyor's list of this fabric cycle (R505). -/
def State.takeRequest (s : State) (sect node : Nat) : State :=
  let v := s.fab.second
  if v.requests.contains (sect, node) then s
  else s.setFab { s.fab with second := { v with requests := v.requests ++ [(sect, node)] } }

/-- The grants that satisfy `p` end (R505). -/
def State.endGrants (s : State) (p : Nat × Nat → Bool) : State :=
  let v := s.fab.second
  s.setFab { s.fab with second := { v with grants := v.grants.filter (fun g => !p g),
                                           requests := v.requests.filter (fun g => !p g) } }

/-- The module's section is confirmed dead: a GRANT request (R197, R505). -/
def State.tellDead (s : State) : State :=
  if s.isSurveyor then s.takeRequest s.section s.nodeId else s.sendFab s.surveyorId (.grantRequest s.section)

/-- The grant held by this module, in LANE_MODE and FAB_SEC_STAT. -/
def State.setGrant (s : State) (b : Bool) : State :=
  ((s.setBit (Reg.laneMode 0) 19 b).setBit (Reg.laneMode 1) 19 b).setBit Reg.fabSecStat 8 b

/-- The module's section is reported live (R505). -/
def State.tellLive (s : State) : State :=
  let sect := s.section
  let s := if s.isSurveyor then s.endGrants (fun g => g.1 == sect) else s.sendFab s.surveyorId (.sectionLive sect)
  s.setGrant false

/-- The module leaves BLACK_START and PRECHARGE (R505). -/
def State.tellLeft (s : State) : State :=
  if s.bit Reg.fabSecStat 8 then
    let me := s.nodeId
    (if s.isSurveyor then s.endGrants (fun g => g.2 == me) else s.sendFab s.surveyorId .grantLeft).setGrant false
  else s

end Sys2Proof.Machine
end

