-- ==== Sys2Proof/Machine/Float.lean ====
section
/-! DEFINITION. Floating point by integer arithmetic: binary32 with fused multiply-add and flushed subnormals (R128),
binary64 for the profile generator (R175), and correctly rounded division, square root, sine, cosine and
two-argument arctangent. -/

namespace Sys2Proof.Machine

/-- A binary format: significand bits, exponent bits, and whether subnormals count as zero (R128). -/
structure Fmt where
  p : Nat
  w : Nat
  flush : Bool
  deriving DecidableEq, Repr

/-- binary32 of the engine and transform stage. -/
def fmt32 : Fmt := { p := 24, w := 8, flush := true }

/-- binary64 of the profile generator. -/
def fmt64 : Fmt := { p := 53, w := 11, flush := false }

/-- A floating-point datum; a finite one is ±m·2^e. -/
inductive Fp where
  | nan
  | inf (neg : Bool)
  | fin (neg : Bool) (m : Nat) (e : Int)
  deriving DecidableEq, Repr

/-- The exponent of the smallest normal number. -/
def Fmt.emin (f : Fmt) : Int := 2 - 2 ^ (f.w - 1)

/-- The datum with code `c`. -/
def Fmt.decode (f : Fmt) (c : Nat) : Fp :=
  let neg := decide (c / 2 ^ (f.p - 1 + f.w) % 2 = 1)
  let ex := c / 2 ^ (f.p - 1) % 2 ^ f.w
  let fr := c % 2 ^ (f.p - 1)
  if ex = 2 ^ f.w - 1 then (if fr = 0 then .inf neg else .nan)
  else if ex = 0 then .fin neg (if f.flush then 0 else fr) (f.emin - (f.p - 1 : Nat))
  else .fin neg (2 ^ (f.p - 1) + fr) (f.emin - (f.p - 1 : Nat) + (ex : Int) - 1)

/-- The sign bit's weight. -/
def Fmt.signBit (f : Fmt) (neg : Bool) : Nat := bitNat neg * 2 ^ (f.p - 1 + f.w)

/-- The code of an infinity. -/
def Fmt.infCode (f : Fmt) (neg : Bool) : Nat := f.signBit neg + (2 ^ f.w - 1) * 2 ^ (f.p - 1)

/-- The code of a quiet NaN; its sign and payload are free (log entry 7, DESIGN CHOICE). -/
def Fmt.nanCode (f : Fmt) : Nat :=
  f.infCode false + 2 ^ (f.p - 2) + (Config.nanBits f.p).toNat % 2 ^ (f.p - 2)

/-- `m`·2^`e`, a little more when `sticky`, rounded to the nearest multiple of 2^`q`, ties to even. -/
def roundAt (m : Nat) (e q : Int) (sticky : Bool) : Nat :=
  if q ≤ e then m * 2 ^ (e - q).toNat
  else
    let k := (q - e).toNat
    let hi := m / 2 ^ k
    let lo := m % 2 ^ k
    let half := 2 ^ (k - 1)
    if half < lo ∨ (lo = half ∧ (sticky ∨ hi % 2 = 1)) then hi + 1 else hi

/-- The code of ±`m`·2^`e`, a little more when `sticky`, rounded to nearest, ties to even; a subnormal result is zero in
a format that flushes them. -/
def Fmt.encode (f : Fmt) (neg : Bool) (m : Nat) (e : Int) (sticky : Bool) : Nat :=
  if m = 0 then f.signBit neg
  else
    let q := max (e + (Nat.log2 m : Int)) f.emin - (f.p - 1 : Nat)
    let n := roundAt m e q sticky
    let q' := if n = 2 ^ f.p then q + 1 else q
    let n' := if n = 2 ^ f.p then 2 ^ (f.p - 1) else n
    if n' < 2 ^ (f.p - 1) then f.signBit neg + (if f.flush then 0 else n')
    else
      let ex := (q' - (f.emin - (f.p - 1 : Nat)) + 1).toNat
      if 2 ^ f.w - 1 ≤ ex then f.infCode neg
      else f.signBit neg + ex * 2 ^ (f.p - 1) + (n' - 2 ^ (f.p - 1))

/-- The code of a signed integer times 2^`e`; an exact zero takes sign `zneg`. -/
def Fmt.encodeInt (f : Fmt) (z : Int) (e : Int) (zneg : Bool) : Nat :=
  if z = 0 then f.signBit zneg else f.encode (decide (z < 0)) z.natAbs e false

/-- The signed significand of a finite datum. -/
def sig (neg : Bool) (m : Nat) : Int := if neg then -(m : Int) else m

/-- Two finite data as integers over one exponent. -/
def aligned (x : Int) (ex : Int) (y : Int) (ey : Int) : Int × Int × Int :=
  let e := min ex ey
  (x * 2 ^ (ex - e).toNat, y * 2 ^ (ey - e).toNat, e)

/-- a·b + c with one rounding (R128). -/
def Fmt.fma (f : Fmt) (a b c : Nat) : Nat :=
  match f.decode a, f.decode b, f.decode c with
  | .fin sa ma ea, .fin sb mb eb, .fin sc mc ec =>
    let sp := sa != sb
    let (x, y, e) := aligned (sig sp (ma * mb)) (ea + eb) (sig sc mc) ec
    f.encodeInt (x + y) e (sp && sc)
  | .fin _ _ _, .fin _ _ _, .inf sc => f.infCode sc
  | .inf sa, .fin sb mb _, c =>
    if mb = 0 then f.nanCode else match c with
      | .nan => f.nanCode
      | .inf sc => if sc = (sa != sb) then f.infCode sc else f.nanCode
      | .fin _ _ _ => f.infCode (sa != sb)
  | .fin sa ma _, .inf sb, c =>
    if ma = 0 then f.nanCode else match c with
      | .nan => f.nanCode
      | .inf sc => if sc = (sa != sb) then f.infCode sc else f.nanCode
      | .fin _ _ _ => f.infCode (sa != sb)
  | .inf sa, .inf sb, c => match c with
      | .nan => f.nanCode
      | .inf sc => if sc = (sa != sb) then f.infCode sc else f.nanCode
      | .fin _ _ _ => f.infCode (sa != sb)
  | _, _, _ => f.nanCode

/-- The code of 1. -/
def Fmt.one (f : Fmt) : Nat := (2 ^ (f.w - 1) - 1) * 2 ^ (f.p - 1)

/-- −x. -/
def Fmt.neg (f : Fmt) (a : Nat) : Nat :=
  let s := 2 ^ (f.p - 1 + f.w)
  if a / s % 2 = 1 then a - s else a + s

/-- |x|. -/
def Fmt.abs (f : Fmt) (a : Nat) : Nat := a % 2 ^ (f.p - 1 + f.w)

/-- a + b. -/
def Fmt.add (f : Fmt) (a b : Nat) : Nat := f.fma a f.one b

/-- a − b. -/
def Fmt.sub (f : Fmt) (a b : Nat) : Nat := f.add a (f.neg b)

/-- a·b. -/
def Fmt.mul (f : Fmt) (a b : Nat) : Nat :=
  match f.decode a, f.decode b with
  | .fin sa ma ea, .fin sb mb eb => f.encode (sa != sb) (ma * mb) (ea + eb) false
  | _, _ => f.fma a b 0

/-- The code of ±n/d rounded to nearest. -/
def Fmt.ofRat (f : Fmt) (neg : Bool) (n d : Nat) : Nat :=
  let k := 2 * f.p + Nat.log2 d + 2
  let m := n * 2 ^ k / d
  f.encode neg m (-(k : Int)) (decide (n * 2 ^ k % d ≠ 0))

/-- a / b, correctly rounded. -/
def Fmt.div (f : Fmt) (a b : Nat) : Nat :=
  match f.decode a, f.decode b with
  | .fin sa ma ea, .fin sb mb eb =>
    if mb = 0 then (if ma = 0 then f.nanCode else f.infCode (sa != sb))
    else
      let k := 2 * f.p + 2
      f.encode (sa != sb) (ma * 2 ^ k / mb) (ea - eb - (k : Int)) (decide (ma * 2 ^ k % mb ≠ 0))
  | .inf sa, .fin sb _ _ => f.infCode (sa != sb)
  | .fin sa _ _, .inf sb => f.signBit (sa != sb)
  | _, _ => f.nanCode

/-- The square root, correctly rounded. -/
def Fmt.sqrt (f : Fmt) (a : Nat) : Nat :=
  match f.decode a with
  | .fin s m e =>
    if m = 0 then f.signBit s
    else if s then f.nanCode
    else
      let k := 2 * f.p + 2 + (e % 2).toNat
      let x := m * 2 ^ k
      let r := Nat.sqrt x
      f.encode false r ((e - (k : Int)) / 2) (decide (r * r ≠ x))
  | .inf false => f.infCode false
  | _ => f.nanCode

/-- Whether a is a number below b; false when either is a NaN. -/
def Fmt.lt (f : Fmt) (a b : Nat) : Bool :=
  match f.decode a, f.decode b with
  | .nan, _ => false
  | _, .nan => false
  | .inf s, .inf t => s && !t
  | .inf s, .fin _ _ _ => s
  | .fin _ _ _, .inf t => !t
  | .fin sa ma ea, .fin sb mb eb =>
    let (x, y, _) := aligned (sig sa ma) ea (sig sb mb) eb
    decide (x < y)

/-- Whether a is at most b. -/
def Fmt.le (f : Fmt) (a b : Nat) : Bool :=
  match f.decode a, f.decode b with
  | .nan, _ => false
  | _, .nan => false
  | _, _ => !f.lt b a

/-- Whether a equals b as numbers. -/
def Fmt.eq (f : Fmt) (a b : Nat) : Bool := f.le a b && f.le b a

/-- Whether a datum is a subnormal number. -/
def Fmt.subnormal (f : Fmt) (a : Nat) : Bool :=
  a / 2 ^ (f.p - 1) % 2 ^ f.w == 0 && a % 2 ^ (f.p - 1) != 0

/-- A datum as a result: a subnormal one is zero of the same sign in a format that flushes them (R128). -/
def Fmt.delivered (f : Fmt) (a : Nat) : Nat := if f.flush && f.subnormal a then a - a % 2 ^ (f.p - 1) else a

/-- max(a, b) and min(a, b); a when they are equal. -/
def Fmt.max (f : Fmt) (a b : Nat) : Nat := f.delivered (if f.lt a b then b else a)
def Fmt.min (f : Fmt) (a b : Nat) : Nat := f.delivered (if f.lt b a then b else a)

/-- Whether a datum is a finite number. -/
def Fmt.finite (f : Fmt) (a : Nat) : Bool :=
  match f.decode a with
  | .fin _ _ _ => true
  | _ => false

/-- The nearest integer, ties to even; 0 for what is not a number. -/
def Fmt.round (f : Fmt) (a : Nat) : Int :=
  match f.decode a with
  | .fin s m e => sig s (roundAt m e 0 false)
  | _ => 0

/-! ### binary32 on words -/

namespace F32

def fma (a b c : Word) : Word := word (fmt32.fma a.toNat b.toNat c.toNat)
def add (a b : Word) : Word := word (fmt32.add a.toNat b.toNat)
def sub (a b : Word) : Word := word (fmt32.sub a.toNat b.toNat)
def mul (a b : Word) : Word := word (fmt32.mul a.toNat b.toNat)
def div (a b : Word) : Word := word (fmt32.div a.toNat b.toNat)
def sqrt (a : Word) : Word := word (fmt32.sqrt a.toNat)
def neg (a : Word) : Word := word (fmt32.neg a.toNat)
def abs (a : Word) : Word := word (fmt32.abs a.toNat)
def lt (a b : Word) : Bool := fmt32.lt a.toNat b.toNat
def le (a b : Word) : Bool := fmt32.le a.toNat b.toNat
def eq (a b : Word) : Bool := fmt32.eq a.toNat b.toNat

/-- Comparisons of the binary32 values themselves, subnormals included. -/
def exactLt (a b : Word) : Bool := ({ fmt32 with flush := false } : Fmt).lt a.toNat b.toNat
def exactLe (a b : Word) : Bool := ({ fmt32 with flush := false } : Fmt).le a.toNat b.toNat
def max (a b : Word) : Word := word (fmt32.max a.toNat b.toNat)
def min (a b : Word) : Word := word (fmt32.min a.toNat b.toNat)
def finite (a : Word) : Bool := fmt32.finite a.toNat
def round (a : Word) : Int := fmt32.round a.toNat

/-- The nearest binary32 of n/d. -/
def rat (n d : Nat) : Word := word (fmt32.ofRat false n d)

/-- The nearest binary32 of an integer. -/
def ofInt (z : Int) : Word := word (fmt32.ofRat (decide (z < 0)) z.natAbs 1)

/-- The nearest binary32 of the square root of n/d. -/
def sqrtRat (n d : Nat) : Word :=
  let x := n * 2 ^ 120 / d
  word (fmt32.encode false (Nat.sqrt x) (-60) true)

/-- min(max(x, lo), hi). -/
def clamp (x lo hi : Word) : Word := min (max x lo) hi

/-- The constants 0, 1 and 2^32. -/
def zero : Word := 0
def one : Word := 0x3F800000
def two32 : Word := 0x4F800000

end F32

/-! ### Elementary functions in fixed point -/

/-- π · 2^400, truncated. -/
def piFix : Nat := 0x3243f6a8885a308d313198a2e03707344a4093822299f31d0082efa98ec4e6c89452821e638d01377be5466cf34e90c6cc0ac

/-- π · 2^320, truncated: the fixed-point scale of the elementary functions. -/
def piK : Nat := piFix / 2 ^ 80

/-- t₀ − t₁ + t₂ − …, where each term is the one before times x²/((n+1)(n+2)). -/
def altSum (x2 : Nat) : Nat → Nat → Nat → Int
  | 0, _, _ => 0
  | fuel + 1, n, t => (t : Int) - altSum x2 fuel (n + 2) (t * x2 / 2 ^ 320 / ((n + 1) * (n + 2)))

/-- sin x and cos x for x between 0 and π/4, all in units of 2^−320. -/
def sinFix (x : Nat) : Nat := (altSum (x * x / 2 ^ 320) 60 1 x).toNat
def cosFix (x : Nat) : Nat := (altSum (x * x / 2 ^ 320) 60 0 (2 ^ 320)).toNat

/-- One eighth turn or less of a turn fraction: its octant, and 2π times its distance from the nearest multiple of a
quarter turn. -/
def octant (theta : Nat) : Nat × Nat :=
  let t := theta % 2 ^ 32
  let o := t / 2 ^ 29
  let r := t % 2 ^ 29
  (o, (if o % 2 = 0 then r else 2 ^ 29 - r) * piK / 2 ^ 31)

/-- The correctly rounded binary32 of a fixed-point value, with a sign; exact when it is 0 or 1. -/
def fixWord (neg : Bool) (v : Nat) : Word :=
  word (if v = 0 then 0 else fmt32.encode neg v (-320) (decide (v ≠ 2 ^ 320)))

/-- The sine of 2π·θ/2^32, correctly rounded (R128). -/
def sinTurn (theta : Nat) : Word :=
  let (o, x) := octant theta
  fixWord (decide (4 ≤ o)) (if o = 0 ∨ o = 3 ∨ o = 4 ∨ o = 7 then sinFix x else cosFix x)

/-- The cosine of 2π·θ/2^32, correctly rounded (R128). -/
def cosTurn (theta : Nat) : Word :=
  let (o, x) := octant theta
  fixWord (decide (2 ≤ o ∧ o ≤ 5)) (if o = 0 ∨ o = 3 ∨ o = 4 ∨ o = 7 then cosFix x else sinFix x)

/-- z − z³/3 + z⁵/5 − … from the power `pw` = z^n on, in units of 2^−320. -/
def atanSum (z2 : Nat) : Nat → Nat → Nat → Int
  | 0, _, _ => 0
  | fuel + 1, n, pw => ((pw / n : Nat) : Int) - atanSum z2 fuel (n + 2) (pw * z2 / 2 ^ 320)

/-- tan(φ/2) from z = tan φ, in units of 2^−320. -/
def halfTan (z : Nat) : Nat := z * 2 ^ 320 / (2 ^ 320 + Nat.sqrt (2 ^ 640 + z * z))

/-- The arctangent of y/x for 0 ≤ y ≤ x, 0 < x, in units of 2^−320. -/
def atanFix (y x : Nat) : Nat :=
  let z := halfTan (halfTan (halfTan (y * 2 ^ 320 / x)))
  (8 * atanSum (z * z / 2 ^ 320) 60 1 z).toNat

/-- The angle of the point (|x|, |y|), not both zero, in units of 2^−320. -/
def quadAngle (y x : Nat) : Nat := if y ≤ x then atanFix y x else piK / 2 - atanFix x y

/-- The two-argument arctangent, correctly rounded, with the IEEE 754 results at zeros and infinities (R128). -/
def F32.atan2 (y x : Word) : Word :=
  match fmt32.decode y.toNat, fmt32.decode x.toNat with
  | .fin sy my ey, .fin sx mx ex =>
    let out := fun (v : Nat) => word (fmt32.encode sy v (-320) true)
    if my = 0 then (if sx then out piK else word (fmt32.signBit sy))
    else
      let (a, b, _) := aligned my ey mx ex
      let q := quadAngle a.toNat b.toNat
      out (if sx then piK - q else q)
  | .inf sy, .fin _ _ _ => word (fmt32.encode sy piK (-321) true)
  | .fin sy _ _, .inf sx => if sx then word (fmt32.encode sy piK (-320) true) else word (fmt32.signBit sy)
  | .inf sy, .inf sx => word (fmt32.encode sy (if sx then 3 * piK else piK) (-322) true)
  | _, _ => word fmt32.nanCode

/-- The binary32 nearest to n·π/d. -/
def F32.piRat (n d : Nat) : Word := word (fmt32.encode false (n * piK / d) (-320) true)

/-- d wrapped into (−π, π] by a whole number of turns, in binary32 (R147, R195). -/
def F32.wrap (d : Word) : Word :=
  let pi := F32.piRat 1 1
  let turn := F32.piRat 2 1
  match fmt32.decode d.toNat, fmt32.decode pi.toNat with
  | .fin s m e, .fin _ mp ep =>
    let (x, p, _) := aligned (sig s m) e mp ep
    let k := -((p - x) / (2 * p))
    if k = 0 then d else F32.fma (F32.neg (F32.ofInt k)) turn d
  | _, _ => d

/-! ### binary64 -/

/-- The binary64 of a binary32, exact (R175). -/
def to64 (a : Word) : Nat :=
  match ({ fmt32 with flush := false } : Fmt).decode a.toNat with
  | .fin s m e => fmt64.encode s m e false
  | .inf s => fmt64.infCode s
  | .nan => fmt64.nanCode

/-- The nearest binary32 of a binary64 (R175). -/
def to32 (a : Nat) : Word :=
  match fmt64.decode a with
  | .fin s m e => word (({ fmt32 with flush := false } : Fmt).encode s m e false)
  | .inf s => word (fmt32.infCode s)
  | .nan => word fmt32.nanCode

end Sys2Proof.Machine
end

