-- ==== Sys2Proof/Machine/Objects.lean ====
section
/-! DEFINITION. Configured objects (R430, R431), and the accepted FIX sets whose registers wait for their boundary, with
the claims they release (R29, R434). -/

namespace Sys2Proof.Machine

/-- The index of register `a` in an array of `n` registers at `base`, `stride` apart, if it is one of them. -/
def idxOf (base stride n a : Nat) : Option Nat :=
  if base ≤ a ∧ (a - base) % stride = 0 ∧ (a - base) / stride < n then some ((a - base) / stride) else none

/-- Whether `a` is such a register. -/
def isIdx (base stride n a : Nat) : Bool := (idxOf base stride n a).isSome

/-- The shutter whose register lies at `a`. -/
def shutOfReg (a : Nat) : Option Nat :=
  if 0x100B0100 ≤ a ∧ a < 0x100B0500 then some ((a - 0x100B0100) / 0x80)
  else if 0x100B0800 ≤ a ∧ a < 0x100B1000 then some ((a - 0x100B0800) / 0x100)
  else none

/-- The word of the timetable that register `a` shows: 2·slot + word (R508). -/
def slotWord (a : Nat) : Option Nat :=
  if Reg.fabTtA 0 ≤ a ∧ a ≤ Reg.fabTtB 4095 then some ((a - Reg.fabTtA 0) / 4) else none

/-- The object that register `a` belongs to (R430, R431). -/
def objOf (a : Nat) : Obj :=
  if 0x10010100 ≤ a ∧ a < 0x10010300 then { kind := 1, index := (a - 0x10010100) / 0x20 }
  else match idxOf (Reg.convBsCfg 0) 4 16 a with
    | some m => { kind := 2, index := m }
    | none => match idxOf (Reg.pwmTripCfg 0 0) 4 80 a with
      | some i => { kind := 3, index := i }
      | none => match idxOf (Reg.pwmPwxCfg 0 0) 4 12 a with
        | some d => { kind := 4, index := d }
        | none => other a
where
  other (a : Nat) : Obj :=
    if a = Reg.laneSpillCfg 0 ∨ a = Reg.laneSpillAddr 0 then { kind := 5, index := 0 }
    else if a = Reg.laneSpillCfg 1 ∨ a = Reg.laneSpillAddr 1 then { kind := 5, index := 1 }
    else match shutOfReg a with
      | some q => { kind := 6, index := q }
      | none => match idxOf (Reg.memDmaChCfg 0 0) 0x10 128 a with
        | some x => { kind := 8, index := x }
        | none => match idxOf (Reg.memRingCfg 0) 0x10 64 a with
          | some r => { kind := 9, index := r }
          | none => match slotWord a with
            | some k => { kind := 0x200, index := k / 2 }
            | none => { kind := 0x100 + (a - 0x10000000) / 0x10000 + 1, index := 0 }

/-! ### Accepted FIX sets -/

/-- A register of the object that owns claim `c` still waits in `x`. -/
def Fix.holds (x : Fix) (c : Claim) : Bool :=
  x.items.any (fun e => objOf e.1 == (if c.ownerKind = 0 then { kind := 0x10B, index := 0 }
    else { kind := c.ownerKind, index := c.ownerIdx }))

/-- The claims that accepted sets drop go as a set has applied to the object that owned them (R29) (log entry 28,
DEDUCED). -/
def State.releaseClaims (s : State) : State :=
  let gone : List Claim := s.fixes.flatMap (fun x => x.releases.filter (fun c => !x.holds c))
  { s with ledger := s.ledger.filter (fun c => !gone.contains c),
           fixes := s.fixes.map (fun x => { x with releases := x.releases.filter x.holds }) }

/-- Taking from every accepted FIX set the registers that satisfy `p`, each given to `f`, oldest set first,
with the release of what is no longer used (R29, R434). -/
def State.takeItems (s : State) (p : Nat → Bool) (f : State → Nat → Word → State) : State :=
  let mine := s.fixes.flatMap (fun x => x.items.filter (fun e => p e.1))
  let s := { s with fixes := s.fixes.map (fun x => { x with items := x.items.filter (fun e => !p e.1) }) }
  (mine.foldl (fun s e => f s e.1 e.2) s).releaseClaims

/-- Whether an accepted FIX set still holds a register that satisfies `p`. -/
def State.hasItem (s : State) (p : Nat → Bool) : Bool := s.fixes.any (fun x => x.items.any (fun e => p e.1))

/-- The value register `a` has once every accepted set has applied. -/
def State.fixedValue (s : State) (a : Nat) : Word :=
  s.fixes.foldl (fun v x => x.items.foldl (fun v e => if e.1 = a then e.2 else v) v) (s.rd a)

end Sys2Proof.Machine
end

