-- ==== Sys2Proof/Machine/Gate.lean ====
section
/-! DEFINITION. GATE: gate-channel states (R252 to R261), the interlock matrix (R262 to R266), channel faults, retry
and escalation (R270 to R280), and the gate-enable bus (R254, R285). -/

namespace Sys2Proof.Machine

/-- Channel states by their code in GATE_CHc_STATUS (R256). -/
inductive ChanState where
  | disabled | unpowered | off | turnOn | on | turnOff | softOff | fault | locked
  deriving DecidableEq, Repr

/-- The code of a channel state. -/
def chanStateCode : ChanState → Nat
  | .disabled => 0 | .unpowered => 1 | .off => 2 | .turnOn => 3 | .on => 4 | .turnOff => 5 | .softOff => 6
  | .fault => 7 | .locked => 8

/-- The channel state with a code. -/
def chanStateOf : Nat → ChanState
  | 0 => .disabled | 1 => .unpowered | 2 => .off | 3 => .turnOn | 4 => .on | 5 => .turnOff | 6 => .softOff
  | 7 => .fault | _ => .locked

/-- The state of gate channel `c`. -/
def State.chanState (s : State) (c : Nat) : ChanState := chanStateOf (s.fld (Reg.gateChStatus c) 0 4)

/-- Channel `c`'s hidden part. -/
def State.gch (s : State) (c : Nat) : GateCh := sparseGet (fun _ => GateCh.idle) s.gate.chans c

def State.setGch (s : State) (c : Nat) (g : GateCh) : State :=
  { s with gate := { s.gate with chans := sparseSet (fun _ => GateCh.idle) s.gate.chans c g } }

/-- Whether some channel's bit of the two-register bank at `a` is set. -/
def State.anyChan (s : State) (a : Nat) : Bool := decide (s.rd a ≠ 0) || decide (s.rd (a + 4) ≠ 0)

/-- The channel whose CFG, ON, OFF or PROT register lies at `a`, if it is one (R282). -/
def chanOfReg (a : Nat) : Option Nat :=
  if 0x10070400 ≤ a ∧ a < 0x10070A00 ∧ a % 0x20 < 0x10 then some ((a - 0x10070400) / 0x20) else none

/-- The state field of channel `c` shows `st`, with its LOCK bit and the summary bits (R256). -/
def State.showState (s : State) (c : Nat) (st : ChanState) : State :=
  let s := s.put (Reg.gateChStatus c) 0 4 (chanStateCode st)
  let s := s.setBankBit Reg.gateLock0 c (decide (st = .locked))
  let s := s.setBit Reg.gateStatus 2 (s.anyChan Reg.gateLock0)
  s.setBit Reg.gateStatus 1 ((List.range 48).any (fun k => s.chanState k == .fault))

/-- A GATE register takes its fixed value (R282). A channel whose enable falls is DISABLED; one whose enable rises starts
in OFF, or in UNPOWERED while a supply condition stands (R256) (log entry 33, DEDUCED). -/
def State.applyGate (s : State) (a : Nat) (v : Word) : State :=
  let s := s.wr a v
  match chanOfReg a with
  | none => s
  | some c =>
    let on := s.bit (Reg.gateChCfg c) 0
    if on ∧ s.chanState c = .disabled then
      s.showState c (if (List.range 3).any (fun k => s.bit (Reg.gateChStatus c) (4 + k)) then .unpowered else .off)
    else if ¬ on ∧ s.chanState c ≠ .disabled then
      ((s.setGch c { s.gch c with wait := none, faultDue := false, lockDue := false }).setBankBit Reg.gateFault0 c false).showState
        c .disabled
    else s

/-- Fixed changes of channel `c` that waited for the end of its profile take effect (R282). -/
def State.applyWaiting (s : State) (c : Nat) : State := s.takeItems (fun a => chanOfReg a == some c) State.applyGate

/-- The unit that governs channel `c` (R236). -/
def State.chanUnit (s : State) (c : Nat) : Nat := if s.bit (Reg.pwmPairCfg 0 (c / 2)) 0 then c / 2 * 2 else c

/-- The command of channel `c` as the ACTIVE lane's generator gives it. -/
def State.chanCmd (s : State) (c : Nat) : ChanCmd := sparseGet (fun _ => ChanCmd.idle) s.pwm.chans c

def State.setChanCmd (s : State) (c : Nat) (v : ChanCmd) : State :=
  { s with pwm := { s.pwm with chans := sparseSet (fun _ => ChanCmd.idle) s.pwm.chans c v } }

/-- Whether the zone of channel `c`'s unit is tripped (R239). -/
def State.chanTripped (s : State) (c : Nat) : Bool :=
  s.bit (Reg.pwmStatus 0) (16 + s.fld (Reg.pwmCuCfg 0 (s.chanUnit c)) 5 3)

/-- The command of channel `c` as the selector delivers it: latched during a lane change, unless a trip releases it
(R216, R219). -/
def State.outCmd (s : State) (c : Nat) : Cmd :=
  match s.pwm.hold with
  | some h =>
    if s.chanTripped c then (s.chanCmd c).cmd
    else match h.latched.find? (fun e => e.1 == c) with
      | some e => e.2
      | none => (s.chanCmd c).cmd
  | none => (s.chanCmd c).cmd

/-- What pad PWXn carries (R241): the level of the command of the channel it names; none is high impedance. -/
def State.pwxPad (s : State) (n : Nat) : Option Bool :=
  let c := s.rd (Reg.pwmPwxCfg 0 n)
  if field c 0 1 = 0 then none
  else match s.outCmd (field c 1 6) with
    | .released => none
    | .on => some (field c 7 1 == 0)
    | .off => some (field c 7 1 == 1)

/-- The refresh guard of pair `p`. -/
def State.refresh (s : State) (p : Nat) : Refresh := sparseGet (fun _ => Refresh.idle) s.gate.refresh p

def State.setRefresh (s : State) (p : Nat) (r : Refresh) : State :=
  { s with gate := { s.gate with refresh := sparseSet (fun _ => Refresh.idle) s.gate.refresh p r } }

/-- The refresh window of pair `p` in ns (R267). -/
def State.refreshWindow (s : State) (p : Nat) : Nat := s.fld (Reg.gatePairCfg p) 2 10 * 2

/-- Whether channel 2p+1 has by now been ON in the present period for the refresh window (R267). -/
def State.refreshed (s : State) (p : Nat) : Bool :=
  let r := s.refresh p
  r.natural || (match r.onAt with
    | some t => decide (max t r.start + s.refreshWindow p ≤ s.pwm.now)
    | none => false)

/-- The lower channel `c` of a pair enters or leaves ON (R267). -/
def State.noteOn (s : State) (c : Nat) (st : ChanState) : State :=
  let p := c / 2
  if c % 2 = 0 then s
  else if st = .on then s.setRefresh p { s.refresh p with onAt := some s.pwm.now }
  else s.setRefresh p { s.refresh p with natural := s.refreshed p, onAt := none }

/-- Channel `c` enters state `st` (R256); its bit of GATE_FAULT0 and 1 is set in FAULT and clear in LOCKED (R275, R282);
a profile that has ended lets waiting changes act. -/
def State.enter (s : State) (c : Nat) (st : ChanState) : State :=
  let s := (s.noteOn c st).showState c st
  match st with
  | .on | .off => s.applyWaiting c
  | .fault => (s.setBankBit Reg.gateFault0 c true).applyWaiting c
  | .locked => (s.setBankBit Reg.gateFault0 c false).applyWaiting c
  | _ => s

/-! ### Drive -/

/-- What GSRC and GSNK do (R256, R258 to R260): strengths of the weak slopes in 0.25 A; `clamp` tells that CLMP connects
the gate to VEEH. -/
inductive Drive where
  | passive
  | sourceFull
  | source (strength : Nat)
  | sourceHold
  | sinkFull
  | sink (strength : Nat)
  | sinkHold (clamp : Bool)
  deriving DecidableEq, Repr

/-- The drive of channel `c`'s gate. -/
def State.drive (s : State) (c : Nat) : Drive :=
  let clamp := s.bit (Reg.gateChCfg c) 1
  let low := (List.range 3).any (fun k => s.bit (Reg.gateChStatus c) (4 + k))
  match s.chanState c with
  | .disabled | .unpowered => .passive
  | .off => .sinkHold clamp
  | .turnOn => if (s.gch c).phase = 0 then .sourceFull else .source (s.fld (Reg.gateChOn c) 18 5)
  | .on => .sourceHold
  | .turnOff => if (s.gch c).phase = 0 then .sinkFull else .sink (s.fld (Reg.gateChOff c) 18 5)
  | .softOff => .sink (s.fld (Reg.gateChCfg c) 3 5)
  | .fault | .locked => if low then .passive else .sinkHold clamp

/-! ### The interlock matrix -/

/-- The channel of member slot `i` of group `g`, if the slot is valid. -/
def State.member (s : State) (g i : Nat) : Option Nat :=
  let a := if i < 4 then Reg.gateIlgMem0 g else Reg.gateIlgMem1 g
  let p := i % 4 * 8
  if s.bit a (p + 7) then some (s.fld a p 6) else none

/-- The valid members of group `g`. -/
def State.members (s : State) (g : Nat) : List Nat := (List.range 6).filterMap (s.member g)

/-- The channels of forbidden set `j` of group `g`; empty while the set is not enabled. -/
def State.forbidden (s : State) (g j : Nat) : List Nat :=
  if s.bit (Reg.gateIlgSet g) (j * 8 + 7) then
    (List.range 6).filterMap (fun i => if s.bit (Reg.gateIlgSet g) (j * 8 + i) then s.member g i else none)
  else []

/-- The enabled forbidden sets: group with its channels. -/
def State.forbiddenSets (s : State) : List (Nat × List Nat) :=
  (List.range 16).flatMap (fun g =>
    (List.range 4).filterMap (fun j =>
      let m := s.forbidden g j
      if m.isEmpty then none else some (g, m)))

/-- Whether channel `c` is occupied in group `g` (R262). -/
def State.occupied (s : State) (g c : Nat) : Bool := sparseGet (fun _ => false) s.gate.occupied (g * 48 + c)

def State.setOccupied (s : State) (g c : Nat) (b : Bool) : State :=
  { s with gate := { s.gate with occupied := sparseSet (fun _ => false) s.gate.occupied (g * 48 + c) b } }

/-- Channel `c` becomes occupied in every group it is a member of. -/
def State.occupy (s : State) (c : Nat) : State :=
  (List.range 16).foldl (fun s g => if (s.members g).contains c then s.setOccupied g c true else s) s

/-- The groups whose forbidden sets refuse an ON of channel `c`: every other member of the set is occupied (R263). -/
def State.refusers (s : State) (c : Nat) : List Nat :=
  (s.forbiddenSets.filter (fun e => e.2.contains c && e.2.all (fun m => m == c || s.occupied e.1 m))).map Prod.fst

/-- The forbidden sets that accepting all of `cs` together would complete (R264). -/
def State.completed (s : State) (cs : List Nat) : List (Nat × List Nat) :=
  s.forbiddenSets.filter (fun e =>
    e.2.all (fun m => cs.contains m || s.occupied e.1 m) && decide (2 ≤ (e.2.filter cs.contains).length))

/-! ### Effective commands -/

/-- Effective commands before the interlock (R252). -/
inductive Eff where
  | forcedOff | soft | off | on
  deriving DecidableEq, Repr

/-- The command the interlock judges: the override of R268 replaces the selector's command, and a bootstrapped upper
switch stays OFF until its first refresh (R269). -/
def State.request (s : State) (c : Nat) : Cmd :=
  let v := s.outCmd c
  let r := s.refresh (c / 2)
  let st := r.stage
  if v = .released then v
  else if st = 0 then (if s.bit (Reg.gatePairCfg (c / 2)) 0 ∧ r.first ∧ c % 2 = 0 then .off else v)
  else if c % 2 = 0 then .off
  else if st = 1 then .on else .off

/-- The effective command of channel `c` before the interlock (R252). -/
def State.eff (s : State) (c : Nat) : Eff :=
  if ¬ s.bit Reg.gateStatus 0 ∨ ¬ s.bit (Reg.gateChCfg c) 0 then .forcedOff
  else if s.chanState c = .fault ∨ s.chanState c = .locked ∨ s.bit (Reg.gateChStatus c) 12 then .forcedOff
  else match s.request c with
    | .released => .soft
    | .off => .off
    | .on => .on

/-- The supply conditions present on channel `c`: kinds 0 BOOT_UV, 1 VCC_UV, 2 VEE_UV (R273). -/
def State.supplyLow (s : State) (c : Nat) : Option Nat :=
  (List.range 3).find? (fun k => s.bit (Reg.gateChStatus c) (4 + k))

/-! ### Channel faults -/

/-- Occurrences of `kind` on channel `c` in the ticks that R277 counts, at tick `t`. -/
def State.occurrences (s : State) (c kind t : Nat) : Nat :=
  let w := s.fld (Reg.gateRetry kind) 17 10
  ((s.gch c).history.filter (fun e => e.1 == kind && decide (t < e.2 + 1000 * w) && decide (e.2 ≤ t))).length

/-- The lattice latches LOCKOUT by itself for cause `code` with `index` (R288): its enable falls, and the processor
records the cause at its next tick (R289). -/
def State.latticeLatch (s : State) (code index : Nat) : State :=
  let s := (s.setBit Reg.safeStatus 6 true).setBit Reg.safeStatus 1 false
  let s := (s.setBit Reg.safeStatus 2 false).setBit Reg.safeStatus 4 true
  { s with safe := { s.safe with latticeCauses := s.safe.latticeCauses ++ [(code, index)] } }

/-- Tries exhausted (R278): RETRY_EXHAUSTED, GATE_FIRST, and the request of LOCKOUT. -/
def State.exhaust (s : State) (c kind : Nat) : State :=
  let s := s.raise 0x0806 [word c, word kind]
  let s := if s.bit Reg.gateFirst 9 then s else s.wr Reg.gateFirst (word (c + kind * 64 + 512))
  (s.setBit Reg.gateStatus 3 true).latticeLatch 4 c

/-- A fault of `kind` on channel `c` (R275 to R278). A channel that drives current turns off softly first (log entry 40,
DEDUCED; log entry 41, DEDUCED). -/
def State.chanFault (s : State) (c kind : Nat) : State :=
  let s := s.raise (0x0800 + kind) [word c]
  let s := (s.setBit (Reg.gateChStatus c) (4 + kind) true).put (Reg.gateChStatus c) 9 3 kind
  let s := if s.chanState c = .locked then s else s.setBankBit Reg.gateFault0 c true
  let s := s.countUp (Reg.gateChCount c) 0 16 1
  let g := s.gch c
  let s := s.setGch c { g with history := (kind, s.tick) :: g.history }
  let out := decide (s.fld (Reg.gateRetry kind) 14 3 < s.occurrences c kind s.tick)
  let s := if out then s.exhaust c kind else s
  let g := s.gch c
  let out := out || g.lockDue
  let s := s.setGch c { g with faultDue := true, lockDue := out,
                               wait := if out then none else some (s.fld (Reg.gateRetry kind) 0 14) }
  let s := match s.chanState c with
    | .turnOn | .on | .turnOff => (s.setGch c { s.gch c with phase := 0 }).enter c .softOff
    | .softOff => s
    | .locked => s.setGch c { s.gch c with faultDue := false, lockDue := false, wait := none }
    | _ => (s.setGch c { s.gch c with faultDue := false, lockDue := false }).enter c (if out then .locked else .fault)
  if s.bit (Reg.gatePairCfg (c / 2)) 1 then s else s.setBit (Reg.gateChStatus (c + 1 - c % 2 * 2)) 12 true

/-! ### Channels following their commands -/

/-- A channel's profile starts: its state and phase 0. -/
def State.startProfile (s : State) (c : Nat) (st : ChanState) : State :=
  (s.setGch c { s.gch c with phase := 0 }).enter c st

/-- The fault that stands on channel `c` while it is off (R274): OVERTEMP in every state, a supply condition while the
effective command is ON or OFF. -/
def State.standingFault (s : State) (c : Nat) : Option Nat :=
  let st := s.chanState c
  if st ≠ .off ∧ st ≠ .unpowered then none
  else if s.bit (Reg.gateChStatus c) 8 then some 4
  else if s.eff c = .on ∨ s.eff c = .off then s.supplyLow c else none

/-- Channel `c` follows an effective command other than ON (R256, R257, R274). -/
def State.follow (s : State) (c : Nat) : State :=
  let s := match s.standingFault c with | some k => s.chanFault c k | none => s
  let e := s.eff c
  let s := if s.request c = .on then s
           else (s.setBit (Reg.gateChStatus c) 13 false).setGch c { s.gch c with held := false }
  match s.chanState c, e with
  | .turnOn, .off => s.startProfile c .turnOff
  | .on, .off => s.startProfile c .turnOff
  | .turnOn, .soft => s.startProfile c .softOff
  | .on, .soft => s.startProfile c .softOff
  | .turnOn, .forcedOff => s.startProfile c .softOff
  | .on, .forcedOff => s.startProfile c .softOff
  | .off, .soft => if (s.supplyLow c).isSome then s.enter c .unpowered else s
  | .off, .forcedOff =>
    if (s.supplyLow c).isSome ∧ ¬ s.bit Reg.gateStatus 0 then s.enter c .unpowered else s
  | .unpowered, .off => s.enter c .off
  | .unpowered, .on => s.enter c .off
  | _, _ => s

/-- One held ON command of channel `c` is counted once per run (R263). -/
def State.countHeld (s : State) (c : Nat) (groups : List Nat) : State :=
  let g := s.gch c
  if g.held then s
  else
    let s := (s.setGch c { g with held := true }).countUp Reg.gateHold 0 16 1
    groups.foldl (fun s g => s.countUp (Reg.gateIlgCount g) 16 16 1) s

/-- An ON command of channel `c` is accepted: the channel is occupied and starts its turn-on (R262); the window of a
forced refresh runs from here (R268). -/
def State.acceptOn (s : State) (c : Nat) : State :=
  let r := s.refresh (c / 2)
  let s := if c % 2 = 1 ∧ r.stage = 1 ∧ r.accepted = none then s.setRefresh (c / 2) { r with accepted := some s.pwm.now } else s
  ((s.setGch c { s.gch c with held := false }).occupy c).startProfile c .turnOn

/-- Simultaneous ON commands that would complete forbidden sets are barred together (R264). -/
def State.bar (s : State) (sets : List (Nat × List Nat)) (cs : List Nat) : State :=
  if cs.isEmpty then s
  else
    let s := cs.foldl (fun s c => s.setBit (Reg.gateChStatus c) 13 true) s
    let s := s.raise 0x0807 [word (bitsOf 32 cs.contains), word (bitsOf 16 (fun i => cs.contains (32 + i)))]
    let s := s.countUp Reg.gateInterlock 0 16 1
    ((sets.map Prod.fst).dedup).foldl (fun s g => s.countUp (Reg.gateIlgCount g) 0 16 1) s

/-- The interlock judges the ON commands of one cycle (R263, R264). -/
def State.judgeOn (s : State) : State :=
  let want := indicesWhere 48 (fun c =>
    s.eff c == .on && s.chanState c == .off && !s.bit (Reg.gateChStatus c) 13)
  let could := want.filter (fun c => (s.refusers c).isEmpty)
  let sets := s.completed could
  let barred := could.filter (fun c => sets.any (fun e => e.2.contains c))
  let s := (want.filter (fun c => !(s.refusers c).isEmpty)).foldl (fun t c => t.countHeld c (s.refusers c)) s
  let s := s.bar sets barred
  (could.filter (fun c => !barred.contains c)).foldl State.acceptOn s

/-- Every channel follows its effective command in one CLK_PWM cycle (R252). -/
def State.gateCycle (s : State) : State := ((List.range 48).foldl State.follow s).judgeOn

/-! ### The gate-enable bus -/

/-- The gate-enable request of the lane that holds the ACTIVE token, unchanged while a lane change hands it on; low when
no lane holds it (R17, R220, R285). -/
def State.gateRequest (s : State) : Bool :=
  (s.isActive 0 || s.isActive 1 || s.pwm.hold.isSome) && s.modes.stage.gateReq

/-- What the gate-enable bus should be (R285). -/
def State.busLevel (s : State) : Bool :=
  s.bit Reg.safeStatus 0 && s.bit Reg.safeStatus 1 && s.gateRequest && s.sys.low.isNone

/-- The bus takes its level; on a change the channels soft-off or follow their commands (R254). -/
def State.busUpdate (s : State) : State :=
  let b := s.busLevel
  let s := s.setBit Reg.safeStatus 2 (s.bit Reg.safeStatus 0 && s.bit Reg.safeStatus 1)
  if b = s.bit Reg.gateStatus 0 then s
  else ((s.setBit Reg.safeStatus 3 b).setBit Reg.gateStatus 0 b).gateCycle

/-- The channels follow their commands, and the bus what that leaves of its signals (R252, R254, R278). -/
def State.gateSettle (s : State) : State := s.gateCycle.busUpdate

/-- Refresh windows that have passed by cycle `now` end: the lower switch is commanded OFF again (R268). -/
def State.endWindows (s : State) (now : Nat) : State :=
  (List.range 24).foldl (fun s p =>
    let r := s.refresh p
    match r.accepted with
    | some a => if r.stage = 1 ∧ a + s.refreshWindow p ≤ now then s.setRefresh p { r with stage := 2, accepted := none } else s
    | none => s) s

/-! ### Ends of profiles, gaps and waits -/

/-- `n` rounded up to the next even number: phases end on a 2 ns grid (R261). -/
def evenUp (n : Nat) : Nat := n + n % 2

/-- The profile register that times the running profile of channel `c`: ON for a turn-on, OFF otherwise. -/
def State.profileReg (s : State) (c : Nat) : Nat :=
  if s.chanState c = .turnOn then Reg.gateChOn c else Reg.gateChOff c

/-- Whether the gate-to-COMS voltage `volts`, in 0.1 V, has reached the v_exit of channel `c`'s running profile (R258 to
R260). -/
def State.vReached (s : State) (c : Nat) (volts : Int) : Bool :=
  let x : Int := s.fld (s.profileReg c) 23 8
  if s.chanState c = .turnOn then decide (x ≤ volts) else decide (volts ≤ x)

/-- Whether the running phase of channel `c` ends `elapsed` ns after it began, the gate standing at `volts` (R258 to
R261). -/
def State.phaseEnds (s : State) (c elapsed : Nat) (volts : Int) : Bool :=
  let vReached := s.vReached c volts
  let a := s.profileReg c
  let limit :=
    if s.chanState c = .softOff then s.fld (Reg.gateChCfg c) 8 8 * 20
    else if (s.gch c).phase = 0 then s.fld a 10 8
    else s.fld a 0 10 * 2
  let byLevel := vReached && (s.chanState c == .softOff || (s.gch c).phase == 1)
  decide (elapsed % 2 = 0) && (decide (elapsed = evenUp limit) || (byLevel && decide (elapsed ≤ evenUp limit)))

/-- The state a soft turn-off ends in (R275, R278). -/
def State.afterSoft (s : State) (c : Nat) : State :=
  let g := s.gch c
  let s := s.setGch c { g with faultDue := false, lockDue := false }
  s.enter c (if g.faultDue then (if g.lockDue then .locked else .fault) else .off)

/-- A phase of channel `c`'s profile ends: pre-charge into the slope, the slope into ON or OFF (R258 to R260). -/
def State.endPhase (s : State) (c : Nat) : State :=
  match s.chanState c with
  | .turnOn => if (s.gch c).phase = 0 then s.setGch c { s.gch c with phase := 1 } else s.enter c .on
  | .turnOff => if (s.gch c).phase = 0 then s.setGch c { s.gch c with phase := 1 } else s.enter c .off
  | .softOff => s.afterSoft c
  | _ => s

/-- Whether the gap of an occupied member may run: the channel is in OFF, FAULT or LOCKED (R262). -/
def ChanState.ended : ChanState → Bool
  | .disabled | .unpowered | .off | .fault | .locked => true
  | _ => false

/-- A refresh whose lower switch has turned off and whose gaps have passed ends its override (R268). -/
def State.endOverride (s : State) (p : Nat) : State :=
  let r := s.refresh p
  if r.stage = 2 ∧ (s.chanState (2 * p + 1)).ended
      ∧ (List.range 16).all (fun g => !s.occupied g (2 * p + 1)) then
    (s.setRefresh p { r with stage := 0 }).setBit (Reg.gateChStatus (2 * p)) 14 false
  else s

/-- A channel whose wait has ended recovers: OFF, CHANNEL_RECOVERED, peer_hold ends (R276). -/
def State.recover (s : State) (c : Nat) : State :=
  let kind := s.fld (Reg.gateChStatus c) 9 3
  let s := s.setGch c { s.gch c with wait := none }
  let s := ((s.setBit (Reg.gateChStatus c) 7 false).setBankBit Reg.gateFault0 c false).enter c .off
  let s := s.raise 0x0805 [word c, word kind]
  s.setBit (Reg.gateChStatus (c + 1 - c % 2 * 2)) 12 false

/-- A channel whose condition persists at the end of its wait: a new occurrence, handled like the first (R276). -/
def State.failAgain (s : State) (c : Nat) : State := s.chanFault c (s.fld (Reg.gateChStatus c) 9 3)

/-- The release of LOCKOUT at the gate channels (R279): the occurrence histories are cleared; LOCKED and FAULT channels
whose cause has cleared enter OFF, the others FAULT with a fresh wait. A cause persists while its condition is present;
`persist` lists the channels whose SNS stands at or above sc_thr (log entry 45, DEDUCED). -/
def State.gateRelease (s : State) (persist : List Nat) : State :=
  let s := (List.range 48).foldl (fun s c => s.setGch c { s.gch c with history := [] }) s
  let s := (List.range 48).foldl (fun s c =>
    if s.chanState c = .locked ∨ s.chanState c = .fault then
      let kind := s.fld (Reg.gateChStatus c) 9 3
      let s := if kind = 3 then s.setBit (Reg.gateChStatus c) 7 (persist.contains c) else s
      if s.bit (Reg.gateChStatus c) (4 + kind) then
        (s.setGch c { s.gch c with wait := some (s.fld (Reg.gateRetry kind) 0 14) }).enter c .fault
      else
        let s := (s.setGch c { s.gch c with wait := none }).setBit (Reg.gateChStatus c) 7 false
        let s := (s.setBankBit Reg.gateFault0 c false).enter c .off
        s.setBit (Reg.gateChStatus (c + 1 - c % 2 * 2)) 12 false
    else s) s
  (s.setBit Reg.gateStatus 3 false).wr Reg.gateFirst 0

end Sys2Proof.Machine
end

