-- ==== Sys2Proof/Machine/Pwm.lean ====
section
/-! DEFINITION. PWM: timebases and their positions (R229 to R232), compare values and edges (R233 to R235), pairs and
dead time (R236 to R238), channel commands (R239 to R241), and trips (R242 to R247). -/

namespace Sys2Proof.Machine

/-! ### Timebases -/

/-- The low four bits of `m` in reverse order (R229). -/
def rev4 (m : Nat) : Nat := m % 2 * 8 + m / 2 % 2 * 4 + m / 4 % 2 * 2 + m / 8 % 2

/-- p_int of timebase `t`. -/
def State.tbInt (s : State) (t : Nat) : Nat := s.fld (Reg.pwmTbPeriod 0 t) 4 20

/-- p_frac of timebase `t`. -/
def State.tbFrac (s : State) (t : Nat) : Nat := s.fld (Reg.pwmTbPeriod 0 t) 0 4

/-- The length of period `m` in CLK_PWM cycles (R229). -/
def periodLen (pInt pFrac m : Nat) : Nat := if rev4 m < pFrac then pInt + 1 else pInt

/-- The period and position `rest` cycles after the zero point of period `m`, within `fuel` periods. -/
def walkPeriods (pInt pFrac : Nat) : Nat → Nat → Nat → Nat × Nat
  | 0, m, rest => (m, rest)
  | n + 1, m, rest =>
    let l := periodLen pInt pFrac m
    if rest < l then (m, rest) else walkPeriods pInt pFrac n (m + 1) (rest - l)

/-- Period number and position of timebase `t` at CLK_PWM cycle `now` after the epoch (R229, R230, R232): 16 periods
from a multiple of 16 last exactly 16·p_int + p_frac cycles (log entry 4, DESIGN CHOICE). -/
def State.tbAt (s : State) (t now : Nat) : Nat × Nat :=
  let block := 16 * s.tbInt t + s.tbFrac t
  let y := now + s.fld (Reg.pwmTbPhase 0 t) 0 20
  walkPeriods (s.tbInt t) (s.tbFrac t) 16 (16 * (y / block)) (y % block)

/-- The mid point h_u of timebase `t` (R230). -/
def State.tbMid (s : State) (t : Nat) : Nat := (s.tbInt t + 1) / 2

/-- Whether timebase `t` runs. -/
def State.tbRuns (s : State) (t : Nat) : Bool := s.bit (Reg.pwmStatus 0) (4 + t)

/-- Whether cycle `now` is a programmed update point of timebase `t` (R231): a zero point or, in UPDOWN, a mid point. -/
def State.isUpdate (s : State) (t now : Nat) : Bool :=
  let x := (s.tbAt t now).2
  let upd := s.fld (Reg.pwmTbCfg 0 t) 2 2
  s.tbRuns t && ((decide (x = 0) && upd % 2 == 1) || (decide (x = s.tbMid t) && decide (2 ≤ upd)))

/-- The two lanes' status copies of a PWM register field. -/
def State.putBoth (s : State) (f : Nat → Nat) (lo n v : Nat) : State := (s.put (f 0) lo n v).put (f 1) lo n v

def State.setBitBoth (s : State) (f : Nat → Nat) (i : Nat) (b : Bool) : State := s.putBoth f i 1 (bitNat b)

/-- PWM_TBt_COUNT of timebase `t` at cycle `now` (R230). -/
def State.tbCount (s : State) (t now : Nat) : Word :=
  let x := (s.tbAt t now).2
  let h := s.tbMid t
  let updown := s.bit (Reg.pwmTbCfg 0 t) 1
  let c := if updown ∧ h ≤ x then h - (x - h) else x
  word (c + bitNat (updown && decide (h ≤ x)) * 2 ^ 20)

/-- The position registers of timebase `t` at cycle `now` (R229, R230). -/
def State.showTb (s : State) (t now : Nat) : State :=
  (s.wrBoth (fun l => Reg.pwmTbCount l t) (s.tbCount t now)).wrBoth (fun l => Reg.pwmTbPeriods l t)
    (word (s.tbAt t now).1)

/-- Cycle `now` has come: every running timebase shows its position. -/
def State.setNow (s : State) (now : Nat) : State :=
  let s : State := { s with pwm := { s.pwm with now := now } }
  (List.range 12).foldl (fun s t => if s.tbRuns t then s.showTb t now else s) s

/-! ### Compare units -/

/-- Compare unit `u` of lane `l`'s generator: its hidden part. -/
def State.unit (s : State) (l u : Nat) : UnitSt := sparseGet (fun _ => UnitSt.idle) s.pwm.units (48 * l + u)

def State.setUnit (s : State) (l u : Nat) (v : UnitSt) : State :=
  { s with pwm := { s.pwm with units := sparseSet (fun _ => UnitSt.idle) s.pwm.units (48 * l + u) v } }

/-- The lane whose generator feeds the selector: the ACTIVE one, the one that takes the token during a lane change. -/
def State.genLane (s : State) : Nat := match s.pwm.hold with | some h => h.heir | none => s.activeLane

/-- The timebase of unit `u`. -/
def State.unitTb (s : State) (u : Nat) : Nat := s.fld (Reg.pwmCuCfg 0 u) 0 4

/-- place(y) of R234 for y in sixteenths of a ns, in period `m`. -/
def place (y : Int) (m : Nat) : Int := if (rev4 m : Int) < y % 16 then y / 16 + 1 else y / 16

/-- The positions from and up to which unit `u` of lane `l` is on in period `m`, before invert (R234). -/
def State.unitSpan (s : State) (l u m : Nat) : Int × Int :=
  let t := s.unitTb u
  let v := s.unit l u
  if s.bit (Reg.pwmTbCfg 0 t) 1 then
    let h : Int := s.tbMid t * 16
    (place (h - ((v.cz / 2 : Nat) : Int)) m, place (h + (((v.cm + 1) / 2 : Nat) : Int)) m)
  else (0, place v.cz m)

/-- The result of unit `u` of lane `l` at cycle `now`, after invert and before dead time (R234). -/
def State.unitResult (s : State) (l u now : Nat) : Bool :=
  let (m, x) := s.tbAt (s.unitTb u) now
  let (r, f) := s.unitSpan l u m
  (decide (r ≤ (x : Int)) && decide ((x : Int) < f)) != s.bit (Reg.pwmCuCfg 0 u) 4

/-- The latest cycle in `since` < e ≤ `now` in which the result of unit `u` of lane `l` changes to `b`, or changes at all
where `b` is none, with the settings of that time: sought back from the period `m` that began at `zero`, over `fuel`
periods; the pattern of edges repeats after 16 (R229). -/
def State.seekEdge (s : State) (l u : Nat) (b : Option Bool) (since now : Nat) : Nat → Nat → Int → Option Nat
  | 0, _, _ => none
  | fuel + 1, m, zero =>
    let (r, f) := s.unitSpan l u m
    let isEdge := fun (e : Int) =>
      decide ((since : Int) < e) && decide (e ≤ now) && (s.unitResult l u e.toNat != s.unitResult l u (e.toNat - 1))
        && (b.isNone || b == some (s.unitResult l u e.toNat))
    match (([zero, zero + r, zero + f].filter isEdge).map Int.toNat).max? with
    | some e => some e
    | none =>
      if zero ≤ (since : Int) ∨ m = 0 then none
      else s.seekEdge l u b since now fuel (m - 1)
        (zero - (periodLen (s.tbInt (s.unitTb u)) (s.tbFrac (s.unitTb u)) (m - 1) : Nat))

/-- The latest edge of unit `u` of lane `l` up to cycle `now` since its settings last changed. -/
def State.freshEdge (s : State) (l u : Nat) (b : Option Bool) (now : Nat) : Option Nat :=
  let (m, x) := s.tbAt (s.unitTb u) now
  s.seekEdge l u b (s.unit l u).since now 17 m ((now : Int) - x)

/-- The latest edge of unit `u` of lane `l` up to cycle `now` (R244). -/
def State.lastEdge (s : State) (l u now : Nat) : Option Nat := (s.freshEdge l u none now).orElse (fun _ => (s.unit l u).edge)

/-- Whether the inverse of its unit's result drives channel `c`: the lower switch of a complementary pair (R236). -/
def State.chanInverse (s : State) (c : Nat) : Bool := s.bit (Reg.pwmPairCfg 0 (c / 2)) 0 && c % 2 == 1

/-- The undelayed result of channel `c` in the generator that feeds the selector (R236). -/
def State.chanResult (s : State) (c now : Nat) : Bool :=
  s.unitResult s.genLane (s.chanUnit c) now != s.chanInverse c

/-- The dead time of channel `c` (R237). -/
def State.deadTime (s : State) (c : Nat) : Nat :=
  if c % 2 = 0 then s.fld (Reg.pwmPairCfg 0 (c / 2)) 2 12 else s.fld (Reg.pwmPairCfg 0 (c / 2)) 14 12

/-- Whether an output of law `l` drives compare unit `u` (R140). -/
def State.lawDrives (s : State) (l u : Nat) : Bool :=
  s.bit (Reg.laneLawCfg 0 l) 0 &&
  (List.range (s.fld (Reg.laneLawCfg 0 l) 11 4)).any (fun j =>
    s.fld (Reg.laneLawOut 0 l j) 0 2 == 1 && s.fld (Reg.laneLawOut 0 l j) 8 6 == u)

/-- Whether unit `u` belongs to the AC stage: a phase of LANE_XF_OUT while the transform stage is enabled (R183). -/
def State.inAc (s : State) (u : Nat) : Bool :=
  s.bit (Reg.laneXfCfg 0) 0 &&
  (s.fld (Reg.laneXfOut 0) 0 6 == u || s.fld (Reg.laneXfOut 0) 8 6 == u || s.fld (Reg.laneXfOut 0) 16 6 == u)

/-- Whether unit `u` belongs to the DC stage: an output of dc_law (R183). -/
def State.inDc (s : State) (u : Nat) : Bool := s.lawDrives (s.fld (Reg.laneModeCfg 0) 0 2) u

/-- Whether unit `u` is driven (R239). -/
def State.driven (s : State) (u : Nat) : Bool := s.inAc u || (List.range 4).any (fun l => s.lawDrives l u)

/-- Whether unit `u` waits for the update point at which its stage's release takes effect (R185). -/
def State.relDue (s : State) (u : Nat) : Bool := sparseGet (fun _ => false) s.pwm.relDue u

def State.setRelDue (s : State) (u : Nat) (b : Bool) : State :=
  { s with pwm := { s.pwm with relDue := sparseSet (fun _ => false) s.pwm.relDue u b } }

/-- Whether a condition of R239 holds channel `c` in RELEASED. -/
def State.mustRelease (s : State) (c : Nat) : Bool :=
  let u := s.chanUnit c
  s.pwm.noLane || !s.bit (Reg.pwmStatus 0) 0 || !s.tbRuns (s.unitTb u)
    || s.bit (Reg.pwmStatus 0) (16 + s.fld (Reg.pwmCuCfg 0 u) 5 3)
    || (!s.relDue u && ((s.inAc u && s.modes.stage.acReleased) || (s.inDc u && s.modes.stage.dcReleased)))
    || (!s.inAc u && !s.inDc u && !s.modes.stage.gateReq) || !s.driven u

/-- The generator's command of channel `c` at cycle `now` (R237, R239, R240): a channel in RELEASED stays there until a
zero point takes it out; the dead time runs from the on-edge of the undelayed result, whether or not a command came at
it. -/
def State.nextCmd (s : State) (c now : Nat) : ChanCmd :=
  let v := s.chanCmd c
  if s.mustRelease c then { cmd := .released, raw := false, rise := now }
  else if v.cmd = .released then v
  else
    let raw := s.chanResult c now
    let rise :=
      if !raw then v.rise
      else match s.freshEdge s.genLane (s.chanUnit c) (some (!s.chanInverse c)) now with
        | some e => max e v.rise
        | none => if v.raw then v.rise else now
    { cmd := if raw && decide (rise + s.deadTime c ≤ now) then .on else .off, raw := raw, rise := rise }

/-- The units of timebase `t`. -/
def State.unitsOf (s : State) (t : Nat) : List Nat := (List.range 48).filter (fun u => s.unitTb u == t)

/-- The settings of units `us` are about to change in cycle `now`: the edges they gave up to the cycle before are kept
(R244). -/
def State.openUnits (s : State) (us : List Nat) (now : Nat) : State :=
  [0, 1].foldl (fun s l => us.foldl (fun s u =>
    let v := s.unit l u
    if v.since < now then
      s.setUnit l u { v with edge := s.lastEdge l u (now - 1), level := s.unitResult l u (now - 1), since := now }
    else s) s) s

/-- The settings of units `us` have changed in cycle `now`: a result that differs from that before is an edge. -/
def State.closeUnits (s : State) (us : List Nat) (now : Nat) : State :=
  [0, 1].foldl (fun s l => us.foldl (fun s u =>
    let v := s.unit l u
    let b := s.unitResult l u now
    if b = v.level then s.setUnit l u { v with since := now }
    else s.setUnit l u { v with since := now, level := b, edge := some now }) s) s

/-- A pair either of whose channels is RELEASED needs a first refresh when it leaves RELEASED (R269). -/
def State.noteReleased (s : State) (p : Nat) : State :=
  if s.outCmd (2 * p) = .released ∨ s.outCmd (2 * p + 1) = .released then
    (s.setRefresh p { s.refresh p with count := 0, first := true, stage := 0, accepted := none }).setBit
      (Reg.gateChStatus (2 * p)) 14 false
  else s

/-- The generator's commands at cycle `now`, and the gate channels following them (R239, R252) (log entry 46, DEDUCED).
-/
def State.pwmCycle (s : State) (now : Nat) : State :=
  let s := (s.setNow now).endWindows now
  let s := (List.range 48).foldl (fun s c => s.setChanCmd c (s.nextCmd c now)) s
  ((List.range 24).foldl State.noteReleased s).gateSettle

/-- Commands and channels judged again in the current cycle, after something that can release a channel. -/
def State.rejudge (s : State) : State := s.pwmCycle s.pwm.now

/-- Channels of timebase `t` leave RELEASED at its zero point once nothing holds them (R240): they start as OFF. -/
def State.leaveReleased (s : State) (t now : Nat) : State :=
  (List.range 48).foldl (fun s c =>
    if (s.chanCmd c).cmd = .released ∧ ¬ s.mustRelease c ∧ s.unitTb (s.chanUnit c) = t then
      s.setChanCmd c { cmd := .off, raw := s.chanResult c now, rise := now }
    else s) s

/-- The units of timebase `t` whose stage has been released enter RELEASED at its update point `now` (R185). -/
def State.releaseUnits (s : State) (t now : Nat) : State :=
  (List.range 48).foldl (fun s u =>
    if s.relDue u ∧ s.unitTb u = t then
      ((List.range 48).filter (fun c => s.chanUnit c == u)).foldl
        (fun s c => s.setChanCmd c { cmd := .released, raw := false, rise := now }) (s.setRelDue u false)
    else s) s

/-! ### Lane change -/

/-- Lane `l`'s step count, with its in-step mark (R210, R227). -/
def State.stepCount (s : State) (l : Nat) : Nat := s.fld (Reg.laneRedStatus l) 3 5

def State.setStepCount (s : State) (l n : Nat) : State :=
  (s.put (Reg.laneRedStatus l) 3 5 n).setBit (Reg.laneRedStatus l) 2 (decide (16 ≤ n))

/-- An event of LANE_RED_EVENT raised by lane `l` (R557). -/
def State.raiseRed (s : State) (l i : Nat) (details : List Word) : State := s.raise ((4 + l) * 256 + 0x40 + i) details

/-- Lane `l` takes the ACTIVE token; a copy to it that was under way has lost its source (R217, R221). -/
def State.takeToken (s : State) (l : Nat) : State :=
  let a := Reg.laneRedStatus l
  (((s.setBit a 0 true).setBit a 1 false).setBit a 10 false).setBit a 11 false

/-- Cycle 16 of a lane change: the token passes. Where no standby was in step the new lane starts with every channel
released, and the change is over (R217, R221). -/
def State.passToken (s : State) (h : LaneHold) : State :=
  let s := s.takeToken h.heir
  if h.inStep then
    let s := if h.forced then s.setStepCount h.heir 0 else s
    { s with pwm := { s.pwm with hold := some { h with token := true } } }
  else State.busUpdate { s with pwm := { s.pwm with hold := none, noLane := false } }

/-- Cycle 24: channels latched on whose new command is off or RELEASED follow the new lane (R217). -/
def State.passOffs (s : State) (h : LaneHold) : State :=
  let s := s.pwmCycle (h.start + 24)
  let keep := h.latched.filter (fun e => !(e.2 == .on && (s.chanCmd e.1).cmd != .on))
  State.gateSettle { s with pwm := { s.pwm with hold := some { h with token := true, offs := true, latched := keep } } }

/-- Cycle 32: every remaining channel follows the new lane; the hold ends, and LANE_CHANGE is raised (R217). -/
def State.passEnd (s : State) (h : LaneHold) : State :=
  let s : State := { s with pwm := { s.pwm with hold := none } }
  let s := (s.countUp (Reg.laneRedChanges 0) 0 16 1).countUp (Reg.laneRedChanges 1) 0 16 1
  (s.pwmCycle (h.start + 32)).raiseRed h.heir 0 []

/-- The sequence of R217 goes on up to cycle `now`. -/
def State.passHold (s : State) (now : Nat) : State :=
  let step := fun (s : State) (at' : Nat) (go : LaneHold → Bool) (f : State → LaneHold → State) =>
    match s.pwm.hold with
    | some h => if go h ∧ h.start + at' ≤ now then f s h else s
    | none => s
  let s := step s 16 (fun h => !h.token) State.passToken
  let s := step s 24 (fun h => h.inStep && !h.offs) State.passOffs
  step s 32 (fun h => h.inStep) State.passEnd

/-- Cycle `now` is reached. -/
def State.reach (s : State) (now : Nat) : State := (s.passHold now).setNow now

/-- A lane change under way is over: the caller's moment lies past its 32 cycles (log entry 13, DEDUCED). -/
def State.finishHold (s : State) : State :=
  match s.pwm.hold with
  | some h => s.reach (max s.pwm.now (h.start + 32))
  | none => s

/-! ### Loading compares -/

/-- Unit `u`'s staged value becomes its active value in lane `l`'s generator (R233). -/
def State.loadUnit (s : State) (l u : Nat) : State :=
  let v := s.fld (Reg.pwmCuStaged l u) 0 24
  (s.setBit (Reg.pwmCuStaged l u) 31 false).wr (Reg.pwmCuActive l u) (word v)

/-- Whether unit `u` of lane `l` holds a staged value. -/
def State.stagedNow (s : State) (l u : Nat) : Bool := s.bit (Reg.pwmCuStaged l u) 31

/-- An incomplete update point of pair `p` in lane `l`'s generator (R238). -/
def State.pairIncomplete (s : State) (l p : Nat) : State :=
  let s := (s.setBit (Reg.pwmPairFlag l) p true).countUp (Reg.pwmPairInc l) 0 16 1
  if sparseGet (fun _ => false) s.pwm.incRun (24 * l + p) then s
  else
    let s := if l = s.genLane then s.raisePwm 1 [word p] else s
    { s with pwm := { s.pwm with incRun := sparseSet (fun _ => false) s.pwm.incRun (24 * l + p) true } }

/-- The locked pair `p` of lane `l` at an update point of timebase `t` (R238): both units together, or none. -/
def State.loadPair (s : State) (l p t : Nat) : State :=
  let u := 2 * p
  let w := 2 * p + 1
  if s.unitTb u ≠ t ∧ s.unitTb w ≠ t then s
  else if s.stagedNow l u ∧ s.stagedNow l w then
    let s := (s.loadUnit l u).loadUnit l w
    { s with pwm := { s.pwm with incRun := sparseErase s.pwm.incRun (24 * l + p) } }
  else if s.stagedNow l u ∨ s.stagedNow l w then s.pairIncomplete l p
  else { s with pwm := { s.pwm with incRun := sparseErase s.pwm.incRun (24 * l + p) } }

/-- Every staged value of timebase `t` in lane `l`'s generator transfers at its update point, subject to pair lock (R233,
R238). -/
def State.loadCompares (s : State) (l t : Nat) : State :=
  (List.range 24).foldl (fun s p =>
    if s.bit (Reg.pwmPairCfg 0 p) 1 ∧ ¬ s.bit (Reg.pwmPairCfg 0 p) 0 then s.loadPair l p t
    else
      let s := if s.unitTb (2 * p) = t ∧ s.stagedNow l (2 * p) then s.loadUnit l (2 * p) else s
      if s.unitTb (2 * p + 1) = t ∧ s.stagedNow l (2 * p + 1) then s.loadUnit l (2 * p + 1) else s) s

/-- The active values that govern the edges of lane `l`'s generator from here (R234): at a zero point both, at a mid point
the falling edge. -/
def State.latchEdges (s : State) (l t now : Nat) : State :=
  let x := (s.tbAt t now).2
  (s.unitsOf t).foldl (fun s u =>
    let v := s.unit l u
    let a := s.fld (Reg.pwmCuActive l u) 0 24
    if x = 0 then s.setUnit l u { v with cz := a, cm := a }
    else if x = s.tbMid t then s.setUnit l u { v with cm := a }
    else s) s

/-! ### Trips -/

/-- Whether window channel `w` is open at cycle `now` (R244). -/
def State.windowOpen (s : State) (w now : Nat) : Bool :=
  let t := w / 4
  let c := w % 4
  let a := s.rd (Reg.pwmTbWinA 0 t c)
  if ¬ s.tbRuns t then false
  else if field a 20 1 = 1 then
    match s.lastEdge s.genLane (field a 21 6) now with
    | some e => decide (now < e + field a 0 20)
    | none => false
  else
    let x := (s.tbAt t now).2
    let o := field a 0 20
    let k := s.fld (Reg.pwmTbWinB 0 t c) 0 20
    if o < k then decide (o ≤ x) && decide (x < k) else if k < o then decide (o ≤ x) || decide (x < k) else false

/-- Whether trip source `i` is asserted, on its filtered level or comparator state (R246). -/
def State.tripAsserted (s : State) (i : Nat) : Bool := s.bankBit (Reg.pwmTripSrc0 0) i

/-- Whether trip `i` is latched. -/
def State.tripLatched (s : State) (i : Nat) : Bool := s.bankBit (Reg.pwmTripLatch0 0) i

/-- The tripped zones: those that a latched trip names (R243). -/
def State.tripZones (s : State) : Nat :=
  bitsOf 8 (fun z => (List.range 80).any (fun i => s.tripLatched i && s.bit (Reg.pwmTripCfg 0 i) (1 + z)))

/-- The zone and trip summaries of PWM_STATUS in both generators. -/
def State.showZones (s : State) : State :=
  let z := s.tripZones
  let any := (List.range 80).any s.tripLatched
  let s := (s.putBoth Reg.pwmStatus 16 8 z).setBitBoth Reg.pwmStatus 1 (decide (z ≠ 0))
  if any then s else s.setBitBoth Reg.pwmTripFirst 7 false

/-- Trip `i` latches in both generators, and its zones trip in the same cycle (R243). -/
def State.latchTrip (s : State) (i : Nat) : State :=
  let first := !s.bit (Reg.pwmTripFirst 0) 7
  let s := (s.setBankBit (Reg.pwmTripLatch0 0) i true).setBankBit (Reg.pwmTripLatch0 1) i true
  let s := (s.countUp (Reg.pwmTripCount 0) 0 16 1).countUp (Reg.pwmTripCount 1) 0 16 1
  let s := if first then s.wrBoth Reg.pwmTripFirst (word (i + 128)) else s
  let s := s.showZones
  let d := [word i, word (s.fld (Reg.pwmTripCfg 0 i) 1 8), s.rd Reg.netTcSecLo, s.rd Reg.netTcNs]
  let s := s.raisePwm 0 d
  let s := if first then s.takeRecord ((6 + s.activeLane) * 256) d else s
  s.rejudge

/-- Trip `i` latches if it is enabled, asserted, unlatched and not blanked at cycle `now` (R243, R244). -/
def State.judgeTrip (s : State) (i now : Nat) : State :=
  let c := s.rd (Reg.pwmTripCfg 0 i)
  if field c 0 1 = 1 ∧ s.tripAsserted i ∧ ¬ s.tripLatched i
      ∧ ¬ (field c 9 1 = 1 ∧ s.windowOpen (field c 10 6) now) then s.latchTrip i
  else s

/-- Source `i` becomes asserted or released in both generators (R242). -/
def State.setSource (s : State) (i : Nat) (b : Bool) : State :=
  (s.setBankBit (Reg.pwmTripSrc0 0) i b).setBankBit (Reg.pwmTripSrc0 1) i b

/-- Why a clear of trip `i` is refused, if it is (R246): the status code (log entry 39, DEDUCED). -/
def State.clearRefused (s : State) (i : Nat) : Option Nat :=
  if 80 ≤ i then some 0x0304 else if s.tripAsserted i ∧ s.tripLatched i then some 0x0601 else none

/-- A latched trip `i` is cleared in both generators (R246); an unlatched one is unaffected (log entry 39, DEDUCED). -/
def State.clearTrip (s : State) (i : Nat) : State :=
  if s.tripLatched i then
    let s := (s.setBankBit (Reg.pwmTripLatch0 0) i false).setBankBit (Reg.pwmTripLatch0 1) i false
    (s.showZones).raisePwm 2 [word i]
  else s

/-- Whether a latched trip names a zone of a unit of the AC or DC stage (R187, R191, R247). -/
def State.stageTripped (s : State) : Bool :=
  (List.range 48).any (fun u =>
    (s.inAc u || s.inDc u) && s.bit (Reg.pwmStatus 0) (16 + s.fld (Reg.pwmCuCfg 0 u) 5 3))

end Sys2Proof.Machine
end

