-- ==== Sys2Proof/Machine/Filt.lean ====
section
/-! DEFINITION. FILT: the four presets of SAR and bitstream channels (R110 to R118), flushing and settling (R120), and
the threshold comparators (R122 to R126). -/

namespace Sys2Proof.Machine

/-! ### Presets -/

/-- Taps and decimation of a SAR preset (R111). -/
def sarTaps : Nat → Nat
  | 0 => 1 | 1 => 9 | 2 => 49 | _ => 499
def sarDecim : Nat → Nat
  | 0 => 1 | 1 => 5 | 2 => 25 | _ => 250

/-- Decimation of a bitstream preset in modulator periods (R114). -/
def sincDecim : Nat → Nat
  | 0 => 16 | 1 => 32 | 2 => 128 | _ => 512

/-- The centre coefficient of SAR preset `p` that gives its free values below the centre the sum 2^18. -/
def firCentre (p : Nat) : Int :=
  2 ^ 18 - 2 * ((List.range ((sarTaps p - 1) / 2)).foldl (fun a k => a + (Config.firTap p k).toInt) 0)

/-- The free values of SAR preset `p` give a centre of signed 20 bits (R116). -/
def firFits (p : Nat) : Bool := decide (-(2 ^ 19) ≤ firCentre p) && decide (firCentre p < 2 ^ 19)

/-- Coefficient `i` of SAR preset `p`: symmetric, of signed 20 bits, with the sum 2^18 of R116. The ROM's values below
the centre are not in the spec: they are free within that; values that no such ROM holds stand for the one whose centre
alone is not 0 (log entry 6, DESIGN CHOICE). -/
def firCoef (p i : Nat) : Int :=
  let h := (sarTaps p - 1) / 2
  if firFits p then (if i = h then firCentre p else (Config.firTap p (if i < h then i else 2 * h - i)).toInt)
  else if i = h then 2 ^ 18 else 0

/-- The sum of products of a preset over the newest codes. -/
def firSum (p : Nat) : Nat → List Int → Int
  | _, [] => 0
  | i, k :: r => firCoef p i * k + firSum p (i + 1) r

/-- A value held to 24 bits (R118). -/
def sat24 (z : Int) : Int := clampInt (-(2 ^ 23)) (2 ^ 23 - 1) z

/-- The unsaturated output of SAR preset `p` over the codes `ks`, newest first (R116). -/
def sarValue (p : Nat) (ks : List Int) : Int :=
  if p = 0 then ks.headD 0 * 256 else (firSum p 0 (ks.take (sarTaps p)) + 2 ^ 9) / 2 ^ 10

/-- One modulator bit through the integrators of a sinc3 decimator (R117). -/
def sincBit (z : Sinc) (b : Bool) : Sinc :=
  let i1 := z.i1 + (if b then 1 else 0)
  let i2 := z.i2 + i1
  { z with i1 := i1, i2 := i2, i3 := z.i3 + i2 }

/-- The end of a window: the combs give S and keep their new contents (R117). -/
def sincEnd (z : Sinc) : Word × Sinc :=
  let d1 := z.i3 - z.c1
  let d2 := d1 - z.c2
  let d3 := d2 - z.c3
  (d3, { z with c1 := z.i3, c2 := d1, c3 := d2, wins := z.wins + 1 })

/-- The scaled output of bitstream preset `p` from the comb output S, before saturation (R117). -/
def sincValue (p : Nat) (S : Word) : Int :=
  let M : Int := sincDecim p
  let y : Int := 2 * (S.toNat : Int) - M ^ 3
  match p with
  | 0 => y * 2 ^ 11 | 1 => y * 2 ^ 8 | 2 => y * 2 ^ 2 | _ => (y + 8) / 2 ^ 4

/-! ### Channels -/

/-- The selected preset of channel `c` (R110). -/
def State.preset (s : State) (c : Nat) : Nat := s.fld (Reg.filtChCfg c) 0 2

/-- The latest output of preset `p` of channel `c`. -/
def State.output (s : State) (c p : Nat) : Output := sparseGet (fun _ => Output.none) s.conv.outs (4 * c + p)

def State.setOutput (s : State) (c p : Nat) (o : Output) : State :=
  { s with conv := { s.conv with outs := sparseSet (fun _ => Output.none) s.conv.outs (4 * c + p) o } }

/-- Whether preset `p` of channel `c` has settled since its flush: SAR Snapshot needs no settling (R111). -/
def State.isSettled (s : State) (c p : Nat) : Bool :=
  (decide (c < 64) && p == 0) || sparseGet (fun _ => false) s.conv.settled (4 * c + p)

/-- Whether bitstream input `m` is enabled. -/
def State.bsEnabled (s : State) (m : Nat) : Bool := s.bit (Reg.convBsCfg m) 0

/-- Whether bitstream input `m` is STALE. -/
def State.bsStale (s : State) (m : Nat) : Bool := s.bit Reg.convBsStatus m

/-- The settling bit of channel `c` shows its selected preset (R120); a bitstream input that is not enabled shows none. -/
def State.showSettle (s : State) (c : Nat) : State :=
  s.setBankBit Reg.filtSettle0 c
    (!s.isSettled c (s.preset c) && (decide (c < 64) || s.bsEnabled (c - 64)))

/-- Preset `p` of channel `c` has settled. -/
def State.settle (s : State) (c p : Nat) : State :=
  State.showSettle { s with conv := { s.conv with settled := sparseSet (fun _ => false) s.conv.settled (4 * c + p) true } } c

/-- A flush of channel `c`: the state of all four presets is cleared and their grids start again (R120). -/
def State.flush (s : State) (c : Nat) : State :=
  let ks := [4 * c, 4 * c + 1, 4 * c + 2, 4 * c + 3]
  let v := s.conv
  let v := { v with settled := ks.foldl sparseErase v.settled, outs := ks.foldl sparseErase v.outs,
                    sar := sparseErase v.sar c,
                    sinc := if 64 ≤ c then [4 * (c - 64), 4 * (c - 64) + 1, 4 * (c - 64) + 2, 4 * (c - 64) + 3].foldl
                              sparseErase v.sinc else v.sinc }
  State.showSettle { s with conv := v } c

/-- Analogue input `c`'s hidden part. -/
def State.ain (s : State) (c : Nat) : AinSt := sparseGet (fun _ => AinSt.idle) s.conv.ain c

def State.setAin (s : State) (c : Nat) (a : AinSt) : State :=
  { s with conv := { s.conv with ain := sparseSet (fun _ => AinSt.idle) s.conv.ain c a } }

/-- Whether analogue input `c` is marked open-wire or a requested test runs on it, its 10 µs after the window included
(R92, R103). -/
def State.owFlag (s : State) (c : Nat) : Bool :=
  decide (c < 64) &&
  (s.bankBit Reg.convOwStatus0 c || (s.ain c).test.isSome || decide (0 < (s.ain c).tail))

/-- The result of channel `c` as its selected preset's latest output gives it (R92, R94). -/
def State.result (s : State) (c : Nat) : ChanResult :=
  let o := s.output c (s.preset c)
  let stale := decide (64 ≤ c) && s.bsStale (c - 64)
  let off := decide (64 ≤ c) && !s.bsEnabled (c - 64)
  let lost := sparseGet (fun _ => false) s.conv.rowLost c
  { value := o.value, valid := o.settled && !s.owFlag c && !stale && !off && !lost, ow := s.owFlag c, stale := stale,
    settling := !s.isSettled c (s.preset c), clip := o.clip }

/-- Conversion staging of channel `c`. -/
def State.staged (s : State) (c : Nat) : ChanResult := sparseGet (fun _ => ChanResult.none) s.conv.staged c

def State.setStaged (s : State) (c : Nat) (r : ChanResult) : State :=
  { s with conv := { s.conv with staged := sparseSet (fun _ => ChanResult.none) s.conv.staged c r } }

/-- Whether group `g` is enabled. -/
def State.groupOn (s : State) (g : Nat) : Bool := s.bit (Reg.convGrpCfg g) 0

/-- The channels of group `g`, ascending (R93). -/
def State.groupChans (s : State) (g : Nat) : List Nat := indicesWhere 80 (fun c => s.bankBit (Reg.convGrpMask0 g) c)

/-- Channel `c` belongs to an enabled group. -/
def State.inGroup (s : State) (c : Nat) : Bool := (List.range 16).any (fun g => s.groupOn g && (s.groupChans g).contains c)

/-! ### Comparators -/

/-- Comparator `k`'s hidden part. -/
def State.cmp (s : State) (k : Nat) : Cmp := sparseGet (fun _ => Cmp.idle) s.conv.cmps k

def State.setCmp (s : State) (k : Nat) (v : Cmp) : State :=
  { s with conv := { s.conv with cmps := sparseSet (fun _ => Cmp.idle) s.conv.cmps k v } }

/-- Whether comparator `k` is asserted. -/
def State.cmpAsserted (s : State) (k : Nat) : Bool := s.bankBit Reg.filtThrState0 k

/-- Comparator `k` asserts (R124, R125): state and latch bits, one event, and its trip source in both generators. -/
def State.cmpAssert (s : State) (k : Nat) : State :=
  let c := s.rd (Reg.filtThrCfg k)
  let s := (s.setBankBit Reg.filtThrState0 k true).setBankBit Reg.filtThrLatch0 k true
  let s := s.raise (0x0300 + field c 1 1) [word k, word (field c 12 7), s.rd Reg.netTcSecLo, s.rd Reg.netTcNs]
  (s.setSource (16 + k) true).judgeTrip (16 + k) s.pwm.now

/-- Comparator `k` releases. -/
def State.cmpRelease (s : State) (k : Nat) : State :=
  ((s.setBankBit Reg.filtThrState0 k false).setSource (16 + k) false).setCmp k Cmp.idle

/-- Whether value `v` passes the level of comparator `k` (R122). -/
def State.cmpPast (s : State) (k : Nat) (v : Int) : Bool :=
  let level := signedOf 24 (s.fld (Reg.filtThrLevel k) 0 24)
  if s.bit (Reg.filtThrCfg k) 1 then decide (v ≤ level) else decide (level ≤ v)

/-- Whether value `v` lies inside the release condition of comparator `k` (R122). -/
def State.cmpInside (s : State) (k : Nat) (v : Int) : Bool :=
  let level := signedOf 24 (s.fld (Reg.filtThrLevel k) 0 24)
  let hyst : Int := s.fld (Reg.filtThrLevel k) 24 8 * 4096
  if s.bit (Reg.filtThrCfg k) 1 then decide (level + hyst < v) else decide (v < level - hyst)

/-- Comparator `k` sees an invalid output (R123). With inv_act 0 an assertion whose count is complete still comes. -/
def State.cmpInvalid (s : State) (k : Nat) : State :=
  if s.bit (Reg.filtThrCfg k) 4 then
    let s := s.setCmp k { count := 0, due := false, invHold := true, release := 0 }
    if s.cmpAsserted k then s else s.cmpAssert k
  else s.setCmp k { s.cmp k with count := 0, release := 0 }

/-- Comparator `k` sees a valid output `v` (R122, R123): a release happens at once, an assertion falls due (log entry
103, DESIGN CHOICE). -/
def State.cmpValid (s : State) (k : Nat) (v : Int) : State :=
  let n := s.fld (Reg.filtThrCfg k) 8 4 + 1
  let m := s.cmp k
  if s.cmpAsserted k then
    if s.cmpInside k v then
      if ¬ m.invHold ∨ n ≤ m.release + 1 then s.cmpRelease k
      else s.setCmp k { m with release := m.release + 1 }
    else s.setCmp k { m with release := 0 }
  else if s.cmpPast k v then
    s.setCmp k { m with count := m.count + 1, due := m.due || decide (n ≤ m.count + 1) }
  else s.setCmp k { m with count := 0 }

/-- The enabled comparators of preset `p` of channel `c`. -/
def State.cmpsOf (s : State) (c p : Nat) : List Nat :=
  indicesWhere 64 (fun k =>
    let w := s.rd (Reg.filtThrCfg k)
    field w 0 1 == 1 && field w 12 7 == c && field w 2 2 == p)

/-- The comparator whose register lies at `a`, if it is one. -/
def thrOfReg (a : Nat) : Option Nat :=
  if 0x10020400 ≤ a ∧ a < 0x10020600 then some ((a - 0x10020400) / 8) else none

/-- Bitstream channel `c` is not enabled once the accepted sets have applied. -/
def State.inputOff (s : State) (c : Nat) : Bool :=
  decide (64 ≤ c) && field (s.fixedValue (Reg.convBsCfg (c - 64))) 0 1 == 0

/-- CFG `v` enables comparator `k`, or changes its channel, on a bitstream input that is not enabled (R123). -/
def State.blinded (s : State) (k : Nat) (v : Word) : Bool :=
  let old := s.rd (Reg.filtThrCfg k)
  field v 0 1 == 1 && s.inputOff (field v 12 7) && (field old 0 1 == 0 || field old 12 7 != field v 12 7)

/-- Enabled comparator `k` stays on a bitstream input that is not enabled or STALE: it keeps the state in which the
latest output left it until valid outputs come again (R123). -/
def State.staysBlind (s : State) (k : Nat) (v : Word) : Bool :=
  let old := s.rd (Reg.filtThrCfg k)
  let c := field v 12 7
  field old 0 1 == 1 && field v 0 1 == 1 && field old 12 7 == c && decide (64 ≤ c)
    && (!s.bsEnabled (c - 64) || s.bsStale (c - 64))

/-- A FILT register takes its fixed value. A comparator whose channel, source, direction or enable changes starts
released (R126), but for R123, which takes precedence. -/
def State.applyFilt (s : State) (a : Nat) (v : Word) : State :=
  match thrOfReg a with
  | some k =>
    let old := s.rd a
    let afresh : Bool := a = Reg.filtThrCfg k ∧ (field old 0 4 ≠ field v 0 4 ∨ field old 12 7 ≠ field v 12 7)
      ∧ ¬ s.staysBlind k v
    let blind : Bool := s.blinded k v
    let s := (if afresh then s.cmpRelease k else s).wr a v
    if afresh ∧ blind then s.cmpInvalid k else s
  | none => (s.wr a v).showSettle ((a - Reg.filtChCfg 0) / 4)

/-- The fixed changes of comparators whose source, once they have applied, is preset `p` of channel `c` (R126). -/
def State.takeThresholds (s : State) (c p : Nat) : State :=
  s.takeItems (fun a => match thrOfReg a with
    | some k => field (s.fixedValue (Reg.filtThrCfg k)) 12 7 == c && field (s.fixedValue (Reg.filtThrCfg k)) 2 2 == p
    | none => false) State.applyFilt

/-- Every comparator of preset `p` of channel `c` judges an output (R124). -/
def State.judgeOutput (s : State) (c p : Nat) (v : Int) (valid : Bool) : State :=
  let s := s.takeThresholds c p
  (s.cmpsOf c p).foldl (fun s k => if valid then s.cmpValid k v else s.cmpInvalid k) s

/-- Every enabled comparator of channel `c` counts one invalid output (R123). -/
def State.invalidAll (s : State) (c : Nat) : State :=
  ([0, 1, 2, 3].flatMap (s.cmpsOf c)).foldl State.cmpInvalid s

/-! ### Producing an output -/

/-- Saturated outputs of the selected preset are counted, and reported once per run (R118) (log entry 104, DESIGN
CHOICE). -/
def State.countSat (s : State) (c : Nat) (saturated : Bool) : State :=
  let run := sparseGet (fun _ => false) s.conv.satRun c
  let s := if saturated then s.countUp Reg.filtSatCount 0 16 1 else s
  let s := { s with conv := { s.conv with satRun := sparseSet (fun _ => false) s.conv.satRun c saturated } }
  if saturated && !run then s.raise 0x0302 [word c] else s

/-- Shutter `q` beside its registers. -/
def State.shutRun (s : State) (q : Nat) : Shut := sparseGet (fun _ => Shut.idle) s.shut.runs q

def State.setShutRun (s : State) (q : Nat) (v : Shut) : State :=
  { s with shut := { s.shut with runs := sparseSet (fun _ => Shut.idle) s.shut.runs q v } }

/-- An output of preset `p` of channel `c` paces the enabled shutters whose slot 0 it is (R392). -/
def State.paceShutters (s : State) (c p : Nat) : State :=
  (List.range 8).foldl (fun s q =>
    let cfg := s.rd (Reg.shutSCfg q)
    if field cfg 0 1 = 1 ∧ field cfg 2 2 = p ∧ s.fld (Reg.shutSCh q 0) 0 8 = 128 + c then
      s.setShutRun q { s.shutRun q with pace := (s.shutRun q).pace + 1 }
    else s) s

/-- A fixed change of channel `c` to preset `p` takes effect at an output of that preset, for a channel in no group
(R121). -/
def State.takePreset (s : State) (c p : Nat) : State :=
  if s.inGroup c ∨ field (s.fixedValue (Reg.filtChCfg c)) 0 2 ≠ p then s
  else s.takeItems (fun a => a == Reg.filtChCfg c) State.applyFilt

/-- Preset `p` of channel `c` produces the value `z` (R118, R120, R124). -/
def State.produce (s : State) (c p : Nat) (z : Int) (settled clip : Bool) : State :=
  let s := s.takePreset c p
  let v := sat24 z
  let s := s.setOutput c p { value := v, settled := settled, clip := clip }
  let s := if settled && !s.isSettled c p then s.settle c p else s
  let s := if p = s.preset c then s.countSat c (decide (v ≠ z)) else s
  (s.judgeOutput c p v (settled && !s.owFlag c)).paceShutters c p

/-- A conversion code reaches the four presets of SAR channel `c` (R110, R113): a preset's window ends on every D-th
conversion since the flush, and its output is valid from the first that is N − 1 conversions after it. -/
def State.sarFeed (s : State) (c : Nat) (code : Int) (clip : Bool) : State :=
  let f := sparseGet (fun _ => SarFilt.flushed) s.conv.sar c
  let ks := (code :: f.codes).take 499
  let s := { s with conv := { s.conv with sar := sparseSet (fun _ => SarFilt.flushed) s.conv.sar c
                                                  { codes := ks, since := f.since + 1 } } }
  [0, 1, 2, 3].foldl (fun s p =>
    if f.since % sarDecim p = 0 then s.produce c p (sarValue p ks) (decide (sarTaps p ≤ f.since + 1)) clip else s) s

/-- Whether the settling time of SAR preset `p` has passed: the conversions before the first valid output are in. -/
def State.sarSettled (s : State) (c p : Nat) : Bool :=
  let n := (sparseGet (fun _ => SarFilt.flushed) s.conv.sar c).since
  decide ((sarTaps p - 1 + sarDecim p - 1) / sarDecim p * sarDecim p ≤ n)

/-- The decimator of preset `p` of bitstream input `m`. -/
def State.sinc (s : State) (m p : Nat) : Sinc := sparseGet (fun _ => Sinc.flushed) s.conv.sinc (4 * m + p)

/-- A decimation window of preset `p` of bitstream input `m` ends with these modulator bits (R115, R117): the third
window after a flush gives the first valid output. -/
def State.sincFeed (s : State) (m p : Nat) (bits : List Bool) : State :=
  let (v, z) := sincEnd (bits.foldl sincBit (s.sinc m p))
  let s := { s with conv := { s.conv with sinc := sparseSet (fun _ => Sinc.flushed) s.conv.sinc (4 * m + p) z } }
  s.produce (64 + m) p (sincValue p v) (decide (3 ≤ z.wins)) false

/-! ### Rows -/

/-- BITSTREAM_WINDOW_END: a window of M modulator bits of an enabled input that is not STALE (R107, R115). -/
def execBitstreamWindowEnd (m p : Nat) (bits : List Bool) (s : State) : Host.Outcome State Fault Refusal :=
  .next (if m < 16 ∧ p < 4 ∧ s.outputsRun ∧ s.bsEnabled m ∧ ¬ s.bsStale m ∧ bits.length = sincDecim p then
    let s := s.sincFeed m p bits
    if s.bit Reg.convBsStatus (16 + m) ∧ s.isSettled (64 + m) (s.preset (64 + m)) then
      s.setBit Reg.convBsStatus (16 + m) false
    else s
  else s)

/-- SETTLING_END: the settling time of a preset has passed since the flush (R120). -/
def execSettlingEnd (c p : Nat) (s : State) : Host.Outcome State Fault Refusal :=
  .next (if p < 4 ∧ ¬ s.isSettled c p then
    if c < 64 then (if s.sarSettled c p then s.settle c p else s)
    else if c < 80 ∧ 3 ≤ (s.sinc (c - 64) p).wins then
      let s := s.settle c p
      if p = s.preset c then s.setBit Reg.convBsStatus (c - 48) false else s
    else s
  else s)

/-- THRESHOLD_ASSERT: the comparator whose count-th output has come asserts (R122, R124) (log entry 4, DESIGN CHOICE). -/
def execThresholdAssert (k now : Nat) (s : State) : Host.Outcome State Fault Refusal :=
  .next (if k < 64 ∧ (s.cmp k).due ∧ s.bit (Reg.filtThrCfg k) 0 then
    let s := { s with pwm := { s.pwm with now := max now s.pwm.now } }
    (s.setCmp k Cmp.idle).cmpAssert k
  else s)

end Sys2Proof.Machine
end

