-- ==== Sys2Proof/Machine/Conv.lean ====
section
/-! DEFINITION. CONV: conversions and groups (R78 to R96), the spare slice (R97 to R100), open-wire diagnosis (R101 to
R104) and bitstream inputs (R105 to R108). -/

namespace Sys2Proof.Machine

/-! ### Groups -/

/-- Group `g`'s hidden part. -/
def State.group (s : State) (g : Nat) : Group := sparseGet (fun _ => Group.idle) s.conv.groups g

def State.setGroup (s : State) (g : Nat) (v : Group) : State :=
  { s with conv := { s.conv with groups := sparseSet (fun _ => Group.idle) s.conv.groups g v } }

/-- The trigger timebase of group `g`. -/
def State.groupTb (s : State) (g : Nat) : Nat := s.fld (Reg.convGrpCfg g) 1 4

/-- The next trigger of each group on timebase `t` counts as a change of grid phase (R85, R87, R592) (log entry 44,
DEDUCED). -/
def State.phaseChange (s : State) (t : Nat) : State :=
  (List.range 16).foldl (fun s g =>
    if s.groupTb g = t then s.setGroup g { s.group g with phaseDue := true } else s) s

/-- Whether CLK_PWM cycle `now` carries a trigger of group `g`: 600 ns before a selected update point (R82). -/
def State.triggerAt (s : State) (g now : Nat) : Bool :=
  let t := s.groupTb g
  let x := (s.tbAt t (now + 600)).2
  let edge := s.fld (Reg.convGrpCfg g) 5 2
  s.groupOn g && s.isUpdate t (now + 600)
    && (edge == 0 || (edge == 1 && x == 0) || (edge == 2 && x == s.tbMid t))

/-- The group header record (R94). -/
def headerBytes (time : Word) (g seq : Nat) : List Byte :=
  wordsBytes [time, word (seq % 2 ^ 16 + g * 2 ^ 16 + 2 ^ 30)]

/-- The channel result record (R94). -/
def resultBytes (c g seq : Nat) (r : ChanResult) : List Byte :=
  wordsBytes [word (codeOf 24 r.value + c * 2 ^ 24 + bitNat r.valid * 2 ^ 31),
    word (seq % 2 ^ 16 + g * 2 ^ 16 + bitNat r.ow * 2 ^ 20 + bitNat r.stale * 2 ^ 21 + bitNat r.settling * 2 ^ 22
      + bitNat r.clip * 2 ^ 23)]

/-- The overflow marker record (R96). -/
def markerBytes (dropped g seq : Nat) : List Byte :=
  wordsBytes [word (min dropped 0xFFFF), word (seq % 2 ^ 16 + g * 2 ^ 16 + 2 ^ 31)]

/-- The bytes of group `g`'s sample: header, then one result for each channel in ascending ID (R93) (log entry 42,
DEDUCED). -/
def State.sampleBytes (s : State) (g : Nat) (time : Word) (seq : Nat) : List Byte :=
  headerBytes time g seq ++ (s.groupChans g).flatMap (fun c => resultBytes c g seq (s.staged c))

/-- A group sample is dropped whole: counted, reported once per run (R95) (log entry 42, DEDUCED). -/
def State.dropSample (s : State) (g seq : Nat) : State :=
  let v := s.group g
  let s := s.countUp (Reg.convGrpDrop g) 0 16 1
  let s := s.setGroup g { v with dropped := v.dropped + 1,
                                 firstDropped := if v.dropped = 0 then seq else v.firstDropped, dropRun := true }
  if v.dropRun then s else s.raise 0x0206 [word g]

/-- The spare slice beside its registers. -/
def State.setSpare (s : State) (v : Spare) : State := { s with conv := { s.conv with spare := v } }

/-- A CONV register takes its fixed value: a group's next trigger changes its grid phase (R85); an input that stops is
one invalid output of its source (R123), one that starts is flushed; the rotation starts again with cal_enable, and stops
without it unless a takeover is in progress (R100) (log entry 24, DEDUCED). -/
def State.applyConv (s : State) (a : Nat) (v : Word) : State :=
  let old := s.rd a
  let s := s.wr a v
  if 0x10010100 ≤ a ∧ a < 0x10010300 then
    let g := (a - 0x10010100) / 0x20
    s.setGroup g { s.group g with phaseDue := true }
  else if 0x10010600 ≤ a ∧ a < 0x10010640 then
    let c := 64 + (a - 0x10010600) / 4
    if field old 0 1 = field v 0 1 then s
    else if field v 0 1 = 1 then s.flush c
    else (s.showSettle c).invalidAll c
  else if a = Reg.convCal then
    if field v 0 1 = 1 then (if s.bit Reg.convStatus 9 then s else s.setBit Reg.convStatus 8 true)
    else if s.conv.spare.comparing ∨ s.conv.spare.compareFailed then s
    else (s.setSpare { s.conv.spare with checkFailed := false }).setBit Reg.convStatus 8 false
  else s

/-- A register of group `g`. -/
def groupItem (g a : Nat) : Bool := decide (0x10010100 + 0x20 * g ≤ a ∧ a < 0x10010120 + 0x20 * g)

/-- Group `g` and the presets of its channels with the fixed changes that a trigger brings into effect (R89, R121)
(log entry 42, DEDUCED). -/
def State.takeGroup (s : State) (g : Nat) : State :=
  let s := s.takeItems (groupItem g) State.applyConv
  s.takeItems (fun a => (s.groupChans g).any (fun c => a == Reg.filtChCfg c)) State.applyFilt

/-- Channel `c`'s staging row has failed: a spare row replaces it, and with none left its results stay invalid (R361). -/
def State.takeRow (s : State) (c : Nat) : State :=
  if s.conv.rowDue.contains c then
    let s : State := { s with conv := { s.conv with rowDue := s.conv.rowDue.filter (· != c) } }
    let n := s.fld Reg.memStatus 8 8
    if n = 0 then { s with conv := { s.conv with rowLost := sparseSet (fun _ => false) s.conv.rowLost c true } }
    else s.put Reg.memStatus 8 8 (n - 1)
  else s

/-- The apertures of group `g` close: a change of grid phase flushes its channels (R85, R120), SEQ counts, the
bitstream channels stage their latest result, and every (div + 1)-th sample is recorded (R81 to R92); the trigger comes
`dt` CLK_PER ticks after the latest module tick. -/
def State.groupTrigger (s : State) (g dt : Nat) : State :=
  let v := s.group g
  let ain := (s.groupChans g).filter (· < 64)
  let s := (s.groupChans g).foldl State.takeRow s
  let s := if v.phaseDue then (s.groupChans g).foldl State.flush s else s
  let s := s.countWrap (Reg.convGrpSeq g) 0 16 1
  let s := ((s.groupChans g).filter (64 ≤ ·)).foldl (fun s c => s.setStaged c (s.result c)) s
  let rec' := s.bit (Reg.convGrpCfg g) 20
  let div := s.fld (Reg.convGrpCfg g) 12 8
  let sample := if rec' && v.divCount == 0 then some (word (s.linearAt dt), s.fld (Reg.convGrpSeq g) 0 16) else none
  s.setGroup g { v with phaseDue := false, await := ain, sample := sample,
                        divCount := if div ≤ v.divCount then 0 else v.divCount + 1 }

/-- SAMPLING_TRIGGER: the apertures of group `g` close at CLK_PWM cycle `now`, which lies no earlier than the timebase
settings in force (R592). A trigger that the group has under its old or its new configuration brings fixed changes into
effect. -/
def execSamplingTrigger (g now dt : Nat) (s : State) : Host.Outcome State Fault Refusal :=
  .next (if g < 16 ∧ s.pwm.now ≤ now then
    let due := s.triggerAt g now || (s.takeGroup g).triggerAt g now
    let s := if due then s.takeGroup g else s
    if s.triggerAt g now then s.groupTrigger g dt else s
  else s)

/-- GROUP_SAMPLE_COMPLETE: the recorded sample whose last result is in joins the delivery queue, or is dropped (R95). -/
def execGroupSampleComplete (g : Nat) (s : State) : Host.Outcome State Fault Refusal :=
  .next (match (s.group g).sample with
    | some (time, seq) =>
      let v := s.group g
      if v.await.isEmpty then
        let b := s.sampleBytes g time seq
        let s := s.setGroup g { v with sample := none }
        if v.queue.length < 4 then s.setGroup g { s.group g with queue := v.queue ++ [(b, seq)] }
        else s.dropSample g seq
      else s
    | none => s)

/-- GROUP_SAMPLE_WRITTEN: the oldest queued sample is written whole to the group's ring, preceded by an overflow marker
after drops; where ring space or descriptors are missing it is dropped (R93, R95, R96) (log entry 8, DESIGN CHOICE; log
entry 102, DESIGN CHOICE). -/
def execGroupSampleWritten (g : Nat) (s : State) : Host.Outcome State Fault Refusal :=
  .next (match (s.group g).queue with
    | [] => s
    | (b, seq) :: rest =>
      let v := s.group g
      let r := 16 + s.fld (Reg.convGrpCfg g) 8 4
      let bytes := (if v.dropped = 0 then [] else markerBytes v.dropped g v.firstDropped) ++ b
      let n := inlineDescs bytes.length
      let s := s.setGroup g { v with queue := rest }
      match s.room r n with
      | .granted =>
        (s.append r n bytes).setGroup g { v with queue := rest, dropped := 0, firstDropped := 0, dropRun := false }
      | why => (s.dropUnit r why).dropSample g seq)

/-! ### Conversions -/

/-- Whether the open-wire current of input `c` flows (R101, R102). -/
def State.owCurrent (s : State) (c : Nat) : Bool :=
  s.fld (Reg.convAinCfg c) 0 2 == 1 || (s.fld (Reg.convAinCfg c) 0 2 == 2 && (s.ain c).test.isSome)

/-- The code's distance in the direction of the polarity (R102). -/
def State.owReading (s : State) (c : Nat) (code : Int) : Int := if s.bit (Reg.convAinCfg c) 3 then -code else code

/-- The open-wire tests of one conversion (R102): an input marked within the window of a requested test is tested for
clearing after it (R103). -/
def State.owJudge (s : State) (c : Nat) (code : Int) : State :=
  let a := s.ain c
  let thr : Int := s.fld (Reg.convAinCfg c) 8 8 * 128
  let x := s.owReading c code
  let marked := s.bankBit Reg.convOwStatus0 c
  let count := if s.owCurrent c && decide (thr ≤ x) then a.owCount + 1 else 0
  let clear := if marked && !(a.test.isSome && a.inTest) && decide (x < thr - 1024) then a.owClear + 1 else 0
  s.setAin c { a with owCount := count, owClear := clear, test := a.test.map (· + 1), tail := a.tail - 1 }

/-- A conversion beyond full scale sets the clip bit, and is reported once per run (R80). -/
def State.clipJudge (s : State) (c : Nat) (clip : Bool) : State :=
  let a := s.ain c
  let s := s.setAin c { a with clipped := clip }
  if clip then
    let s := s.setBankBit Reg.convClip0 c true
    if a.clipped then s else s.raise 0x0207 [word c]
  else s

/-- A conversion of a trigger in progress reaches conversion staging (R91, R94). -/
def State.stageResult (s : State) (c : Nat) : State :=
  (List.range 16).foldl (fun s g =>
    let v := s.group g
    if v.await.contains c then
      (s.setStaged c (s.result c)).setGroup g { v with await := v.await.filter (· ≠ c) }
    else s) s

/-- CONVERSION_COMPLETE: a SAR conversion of input `c` completes; `level` is the input at the aperture in LSB, which may
lie beyond full scale (R78, R80, R102, R110). -/
def execConversionComplete (c : Nat) (level : Int) (s : State) : Host.Outcome State Fault Refusal :=
  .next (if c < 64 ∧ s.outputsRun then
    let s := s.takeItems (fun a => a == Reg.convAinCfg c) State.applyConv
    let code := clampInt (-32768) 32767 level
    let clip := decide (code ≠ level)
    let s := s.clipJudge c clip
    let s := s.owJudge c code
    let s := s.sarFeed c code clip
    s.stageResult c
  else s)

/-! ### Open-wire diagnosis -/

/-- OPEN_WIRE: ow_count consecutive conversions lie at or beyond the threshold with the current flowing (R102). -/
def execOpenWire (c : Nat) (s : State) : Host.Outcome State Fault Refusal :=
  .next (if c < 64 ∧ ¬ s.bankBit Reg.convOwStatus0 c ∧ 0 < (s.ain c).owCount
      ∧ s.fld (Reg.convAinCfg c) 16 8 ≤ (s.ain c).owCount then
    let s := s.setBankBit Reg.convOwStatus0 c true
    (s.setAin c { s.ain c with owClear := 0, inTest := (s.ain c).test.isSome }).raise 0x0200 [word c]
  else s)

/-- OPEN_WIRE_CLEAR: ow_count consecutive conversions lie below the threshold less 1/32 of full scale (R102). -/
def execOpenWireClear (c : Nat) (s : State) : Host.Outcome State Fault Refusal :=
  .next (if c < 64 ∧ s.bankBit Reg.convOwStatus0 c ∧ s.fld (Reg.convAinCfg c) 16 8 ≤ (s.ain c).owClear
      ∧ 0 < (s.ain c).owClear then
    let s := s.setBankBit Reg.convOwStatus0 c false
    (s.setAin c { s.ain c with owCount := 0, owClear := 0 }).raise 0x0201 [word c]
  else s)

/-- Why a write of `v` to CONV_OW_TEST is refused, if it is (R104). -/
def State.owTestRefused (s : State) (v : Word) : Option Nat :=
  let mode := s.fld (Reg.laneMode s.activeLane) 0 4
  if (mode = 0 ∨ mode = 1 ∨ mode = 7 ∨ mode = 8) ∧ s.fld (Reg.convAinCfg (field v 0 6)) 0 2 = 2 then none
  else some 0x0305

/-- A requested test starts, or its window starts again (R103, R104). -/
def State.owTestStart (s : State) (v : Word) : State :=
  let c := field v 0 6
  s.setAin c { s.ain c with test := some 0, tail := 0 }

/-- OW_TEST_WINDOW_END: the window of ow_window × 4 µs, counted in conversions of 200 ns, has passed; the results stay
invalid for the 50 conversions of 10 µs, the 51st being the first beyond it (R101, R103). -/
def execOwTestWindowEnd (c : Nat) (s : State) : Host.Outcome State Fault Refusal :=
  .next (match (s.ain c).test with
    | some n =>
      if 20 * s.fld (Reg.convAinCfg c) 24 8 ≤ n then
        s.setAin c { s.ain c with test := none, tail := 51, owCount := 0 }
      else s
    | none => s)

/-! ### The spare slice -/

/-- Whether the rotation runs (R97). -/
def State.calRuns (s : State) : Bool := s.bit Reg.convStatus 8 && s.outputsRun

/-- The spare moves on to the next input; a wrap after input 63 completes a rotation (R97, R98). With cal_enable clear
the rotation stops here (R100) (log entry 24, DEDUCED; log entry 101, DESIGN CHOICE). -/
def State.nextInput (s : State) : State :=
  let v := s.conv.spare
  let s := s.setSpare { v with input := (v.input + 1) % 64, comparing := false, checkFailed := false, compareFailed := false }
  let s := if v.input = 63 then s.countWrap Reg.convStatus 16 16 1 else s
  if s.bit Reg.convCal 0 then s else s.setBit Reg.convStatus 8 false

/-- SPARE_CALIBRATION_DONE: the calibration and its reference check end; a second failed check halts the rotation
(R97, R100). -/
def execSpareCalibrationDone (checkOk : Bool) (s : State) : Host.Outcome State Fault Refusal :=
  .next (let v := s.conv.spare
    if s.calRuns ∧ ¬ v.comparing then
      if checkOk then s.setSpare { v with comparing := true, checkFailed := false }
      else if ¬ v.checkFailed then s.setSpare { v with checkFailed := true }
      else
        let slice := word (s.fld Reg.convStatus 0 7)
        let s := (s.setBit Reg.convStatus 8 false).setBit Reg.convStatus 9 true
        (s.raiseLasting 2 slice 0).raise 0x0205 [slice]
    else s)

/-- SPARE_COMPARISON_DONE: after 256 parallel conversions with differences summing to `sumDiff` LSB, the spare takes over
at a mean difference of 2 LSB or less; a failure is repeated once, then the incumbent is marked suspect (R97 to R99). -/
def execSpareComparisonDone (sumDiff : Int) (s : State) : Host.Outcome State Fault Refusal :=
  .next (let v := s.conv.spare
    if s.calRuns ∧ v.comparing then
      if sumDiff.natAbs ≤ 512 then
        let spare := s.fld Reg.convStatus 0 7
        let old := sparseGet id v.attached v.input
        let s := s.setSpare { v with attached := sparseSet id v.attached v.input spare }
        let s := (s.put Reg.convStatus 0 7 old).setBankBit Reg.convSuspect0 v.input false
        s.nextInput
      else
        let s := s.raise 0x0204 [word v.input]
        if v.compareFailed then (s.setBankBit Reg.convSuspect0 v.input true).nextInput
        else s.setSpare { v with comparing := false, compareFailed := true }
    else s)

/-! ### Bitstream inputs -/

/-- Enabled input `m` is marked STALE (R107). -/
def State.staleInput (s : State) (m : Nat) : State :=
  if m < 16 ∧ s.bsEnabled m ∧ ¬ s.bsStale m then
    let s := (s.setBit Reg.convBsStatus m true).setBit Reg.convBsStatus (16 + m) false
    let s := (s.flush (64 + m)).raise 0x0202 [word m]
    s.invalidAll (64 + m)
  else s

/-- BITSTREAM_STALE: no MCLK edge within the stop limit of an enabled input (R106, R107). -/
def execBitstreamStale (m : Nat) (s : State) : Host.Outcome State Fault Refusal := .next (s.staleInput m)

/-- BITSTREAM_RESUMED: 16 good clock periods of a STALE input (R108). -/
def execBitstreamResumed (m : Nat) (s : State) : Host.Outcome State Fault Refusal :=
  .next (if m < 16 ∧ s.outputsRun ∧ s.bsEnabled m ∧ s.bsStale m then
    let s := (s.setBit Reg.convBsStatus m false).setBit Reg.convBsStatus (16 + m) true
    (s.flush (64 + m)).raise 0x0203 [word m]
  else s)

end Sys2Proof.Machine
end

