-- ==== Sys2Proof/Machine/PwmRows.lean ====
section
/-! DEFINITION. Commands of the PWM generators and the gate channels: epoch, zero points, update points, trips and
blanking windows, gate commands, profiles, refreshes, faults and retries. -/

namespace Sys2Proof.Machine

/-! ### Fixed changes at their boundaries -/

/-- The timebase whose register lies at PWMA address `a`, if it is one. -/
def tbOfReg (a : Nat) : Option Nat :=
  if 0x10050100 ≤ a ∧ a < 0x10050400 then some ((a - 0x10050100) / 0x40) else none

/-- Timebase `t` starts or stops as its enable and the generator's say (R232): it starts at the position it would have
reached since the epoch; a stopped timebase reads position 0. -/
def State.runTb (s : State) (t : Nat) (on : Bool) : State :=
  let now := s.pwm.now
  let us := s.unitsOf t
  let s := if on then s else s.openUnits us now
  let s := (s.setBitBoth Reg.pwmStatus (4 + t) on).phaseChange t
  if on then
    ([0, 1].foldl (fun s l => us.foldl (fun s u =>
      s.setUnit l u { s.unit l u with since := now, level := s.unitResult l u now }) s) s).showTb t now
  else (s.wrBoth (fun l => Reg.pwmTbCount l t) 0).releaseUnits t now

/-- A PWM register takes its fixed value in both generators (R249), with what follows from it: the generator's enable
(R248), a timebase's start (R232), a trip that latches under its new configuration (R435). -/
def State.applyPwm (s : State) (a : Nat) (v : Word) : State :=
  let s := (s.wr a v).wr (a + 0x10000) v
  if a = Reg.pwmCtrl 0 then
    if field v 0 1 = 1 then
      if s.bit (Reg.pwmStatus 0) 0 then s else { s with pwm := { s.pwm with epochDue := true } }
    else
      let s := { s with pwm := { s.pwm with epochDue := false } }
      let s := (List.range 12).foldl (fun s t => s.runTb t false) (s.setBitBoth Reg.pwmStatus 0 false)
      s.rejudge
  else match tbOfReg a with
    | some t =>
      if a = Reg.pwmTbCfg 0 t then
        let on := field v 0 1 == 1 && s.bit (Reg.pwmStatus 0) 0
        if on = s.tbRuns t then s.phaseChange t else (s.runTb t on).rejudge
      else if (a - 0x10050100) % 0x40 < 0x0C then s.phaseChange t
      else s
    | none =>
      if 0x10050900 ≤ a then s.judgeTrip ((a - 0x10050900) / 4) s.pwm.now else s

/-- Every enabled timebase starts with its position equal to its phase (R232). -/
def State.startEpoch (s : State) : State :=
  let s := { s with pwm := { s.pwm with epochDue := false, now := 0, units := [], hold := none } }
  let s := s.setBitBoth Reg.pwmStatus 0 true
  (List.range 12).foldl (fun s t => if s.bit (Reg.pwmTbCfg 0 t) 0 then s.runTb t true else s) s

/-- GENERATOR_EPOCH: the epoch falls (R232). -/
def execGeneratorEpoch (s : State) : Host.Outcome State Fault Refusal :=
  .next (if s.pwm.epochDue then s.startEpoch else s)

/-- The unit whose timebase owns the lower command of pair `p` (R267). -/
def State.lowerUnit (s : State) (p : Nat) : Nat := if s.bit (Reg.pwmPairCfg 0 p) 0 then 2 * p else 2 * p + 1

/-- The refresh guard of pair `p` counts the period that ends at a zero point of the timebase that owns its lower command
(R267). -/
def State.countRefresh (s : State) (t p : Nat) : State :=
  if s.bit (Reg.gatePairCfg p) 0 ∧ s.unitTb (s.lowerUnit p) = t then
    let r := s.refresh p
    s.setRefresh p { r with count := if s.refreshed p then 0 else r.count + 1, natural := false, start := s.pwm.now }
  else s

/-- Fixed changes of timebase `t` and its windows take effect at cycle `now`, one of its zero points (R232, R249). -/
def State.changeTb (s : State) (t now : Nat) : State :=
  let us := s.unitsOf t
  let s := (s.openUnits us now).takeItems (fun a => tbOfReg a == some t) State.applyPwm
  if s.tbRuns t then s.closeUnits us now else s

/-- Timebase `t` reaches the end of a period at cycle `now`: fixed changes of its period, phase, mode and windows take
effect. Where the position it then takes is 0, this is a zero point: the refresh guards count the period that ended, and
channels leave RELEASED (R232, R240, R249, R267). -/
def State.zeroPoint (s : State) (t now : Nat) : State :=
  let s := (s.reach now).changeTb t now
  let s := if s.tbRuns t ∧ (s.tbAt t now).2 = 0 then
      let us := s.unitsOf t
      let s := (List.range 24).foldl (fun s p => s.countRefresh t p) s
      let s := [0, 1].foldl (fun s l => s.latchEdges l t now) (s.openUnits us now)
      (s.closeUnits us now).leaveReleased t now
    else s
  s.pwmCycle now

/-- TIMEBASE_ZERO_POINT (R232). -/
def execTimebaseZeroPoint (t now : Nat) (s : State) : Host.Outcome State Fault Refusal :=
  .next (if s.tbRuns t ∧ s.pwm.now ≤ now ∧ (s.tbAt t now).2 = 0 then s.zeroPoint t now else s)

/-- The registers of units and pairs that take a fixed value at an update point of timebase `t` (R249): a unit's own
timebase, a pair's unit 2k. -/
def State.unitItem (s : State) (t a : Nat) : Bool :=
  if 0x10050400 ≤ a ∧ a < 0x10050700 then s.unitTb ((a - 0x10050400) / 0x10) == t
  else if 0x10050800 ≤ a ∧ a < 0x10050860 then s.unitTb ((a - 0x10050800) / 4 * 2) == t
  else false

/-- An update point of timebase `t` at cycle `now`: unit and pair changes take effect, staged compares load in the
generators of lanes `ls`, subject to pair lock, and units of a released stage enter RELEASED (R185, R233, R238, R249). -/
def State.updatePoint (s : State) (t now : Nat) (ls : List Nat) : State :=
  let us := s.unitsOf t
  let s := (s.openUnits us now).takeItems (s.unitItem t) State.applyPwm
  let s := ls.foldl (fun s l => s.loadCompares l t) s
  let s := [0, 1].foldl (fun s l => s.latchEdges l t now) s
  ((s.closeUnits us now).releaseUnits t now).pwmCycle now

/-! ### Trips -/

/-- Whether the level `high` of external source `i`'s pad asserts it (R242). -/
def State.padAsserts (s : State) (i : Nat) (high : Bool) : Bool := high != s.bit (Reg.pwmTripCfg 0 i) 16

/-- TRIP_SOURCE_ASSERT: the synchronised pad of external source `i` has held its level (`high`) for `held` CLK_PWM cycles
at cycle `now`: after the filter time it counts as asserted or released in both generators, and an enabled unblanked trip
latches (R242, R243). -/
def execTripSourceAssert (i : Nat) (high : Bool) (held now : Nat) (s : State) : Host.Outcome State Fault Refusal :=
  .next (if i < 16 ∧ s.pwm.now ≤ now ∧ 4 * s.fld (Reg.pwmTripCfg 0 i) 17 8 ≤ held
      ∧ s.padAsserts i high ≠ s.tripAsserted i then
    ((s.reach now).setSource i (s.padAsserts i high)).judgeTrip i now
  else s)

/-- BLANKING_WINDOW_CLOSE: window channel `w` is closed at cycle `now`, so trips it blanked can latch (R243, R244). -/
def execBlankingWindowClose (w now : Nat) (s : State) : Host.Outcome State Fault Refusal :=
  .next (if w < 48 ∧ s.pwm.now ≤ now ∧ ¬ s.windowOpen w now then
    let s := s.reach now
    (List.range 80).foldl (fun s i =>
      if s.bit (Reg.pwmTripCfg 0 i) 9 ∧ s.fld (Reg.pwmTripCfg 0 i) 10 6 = w then s.judgeTrip i now else s) s
  else s)

/-! ### Gate channels -/

/-- Faults, the gate-enable bus and the channels after a channel fault. -/
def State.afterFault (s : State) : State := s.busUpdate.gateSettle

/-- GATE_COMMAND_CHANGE: the selector's commands at cycle `now`, with refresh windows that have passed (R239, R252, R268)
(log entry 4, DESIGN CHOICE). -/
def execGateCommandChange (now : Nat) (s : State) : Host.Outcome State Fault Refusal :=
  .next (if s.pwm.now ≤ now then (s.reach now).pwmCycle now else s)

/-- INTERLOCK_GAP_END: the gap of group `g` has passed for member `c`, which is off (R262): held ON commands are judged
again. -/
def execInterlockGapEnd (g c : Nat) (s : State) : Host.Outcome State Fault Refusal :=
  .next (if g < 16 ∧ c < 48 ∧ s.occupied g c ∧ (s.chanState c).ended then
    ((s.setOccupied g c false).endOverride (c / 2)).gateSettle
  else s)

/-- GATE_PHASE_END: the running phase of channel `c` ends at CLK_PWM cycle `now`, `elapsed` ns after it began, on time or
because the gate-to-COMS voltage `volts` (in 0.1 V) has reached v_exit (R258 to R261) (log entry 8, DESIGN CHOICE). -/
def execGatePhaseEnd (c elapsed now : Nat) (volts : Int) (s : State) : Host.Outcome State Fault Refusal :=
  .next (if c < 48 ∧ s.pwm.now ≤ now ∧ s.phaseEnds c elapsed volts then
    (((s.reach now).endPhase c).endOverride (c / 2)).gateSettle
  else s)

/-- GATE_ENABLE_CHANGE: the gate-enable bus takes the level of its three signals (R254, R285). -/
def execGateEnableChange (s : State) : Host.Outcome State Fault Refusal := .next s.busUpdate

/-- Whether the guard may force a refresh of pair `p` (R268). -/
def State.mayRefresh (s : State) (p : Nat) : Bool :=
  s.bit (Reg.gatePairCfg p) 0 && s.bit Reg.gateStatus 0 && (s.refresh p).stage == 0
    && [2 * p, 2 * p + 1].all (fun c =>
      s.outCmd c != .released && s.chanState c != .fault && s.chanState c != .locked)

/-- The present cycle is a zero point of the timebase that owns pair `p`'s lower command. -/
def State.atLowerZero (s : State) (p : Nat) : Bool :=
  let t := s.unitTb (s.lowerUnit p)
  s.tbRuns t && (s.tbAt t s.pwm.now).2 == 0

/-- FORCED_REFRESH: at a zero point at which the count has reached its limit, or the first after the pair has left
RELEASED, the upper switch is overridden OFF and the lower one commanded ON (R267 to R269) (log entry 117, DEDUCED). -/
def execForcedRefresh (p : Nat) (s : State) : Host.Outcome State Fault Refusal :=
  .next (let r := s.refresh p
    if p < 24 ∧ s.mayRefresh p ∧ s.atLowerZero p ∧ (r.first ∨ s.fld (Reg.gatePairCfg p) 12 6 + 1 ≤ r.count) then
      let s := s.setRefresh p { r with count := 0, first := false, stage := 1, accepted := none }
      ((s.setBit (Reg.gateChStatus (2 * p)) 14 true).countUp Reg.gateRefresh 0 16 1).gateSettle
    else s)

/-- Whether SNS of `sns` mV against COMS is at or above channel `c`'s sc_thr (R271). -/
def State.scAbove (s : State) (c sns : Nat) : Bool := decide (10 * s.fld (Reg.gateChProt c) 0 6 ≤ sns)

/-- SC: SNS stands at `sns` mV `since` ns after the pre-charge began: at or above sc_thr with the blanking ended, in
TURN_ON or ON, it is a fault (R271, R272) (log entry 8, DESIGN CHOICE; log entry 10, DESIGN CHOICE). -/
def execSc (c sns since : Nat) (s : State) : Host.Outcome State Fault Refusal :=
  .next (if c < 48 ∧ s.bit (Reg.gateChCfg c) 16 ∧ (s.chanState c = .turnOn ∨ s.chanState c = .on)
      ∧ 20 * s.fld (Reg.gateChProt c) 8 8 ≤ since ∧ s.scAbove c sns then
    (s.chanFault c 3).afterFault
  else s)

/-- Whether supply test `kind` runs on channel `c`: BOOT_UV replaces VCC_UV on the upper switch of a bootstrapped pair
(R270), and vee_uv = 0 disables VEE_UV (R273). -/
def State.supplyTest (s : State) (c kind : Nat) : Bool :=
  let boot := c % 2 == 0 && s.bit (Reg.gatePairCfg (c / 2)) 0
  match kind with
  | 0 => boot | 1 => !boot | 2 => decide (s.fld (Reg.gateChProt c) 24 5 ≠ 0) | _ => false

/-- The threshold of supply test `kind` on channel `c` in 0.1 V: boot_uv, vcc_uv, vee_uv (R270, R273). -/
def State.supplyThr (s : State) (c kind : Nat) : Int :=
  match kind with
  | 0 => 5 * (s.fld (Reg.gatePairCfg (c / 2)) 18 6 : Nat)
  | 1 => 5 * (s.fld (Reg.gateChProt c) 16 6 : Nat)
  | _ => 5 * (s.fld (Reg.gateChProt c) 24 5 : Nat)

/-- Whether a secondary supply at `level` (0.1 V: VCCH-COMS, or VEEH-COMS for kind 2) meets its condition; whether it is
clear of it by the hysteresis of 0.5 V (R270, R273). -/
def State.supplyFails (s : State) (c kind : Nat) (level : Int) : Bool :=
  if kind = 2 then decide (-(s.supplyThr c kind) < level) else decide (level < s.supplyThr c kind)
def State.supplyGood (s : State) (c kind : Nat) (level : Int) : Bool :=
  if kind = 2 then decide (level ≤ -(s.supplyThr c kind) - 5) else decide (s.supplyThr c kind + 5 ≤ level)

/-- GATE_CHc_MON shows a monitored supply, the driver temperature (R273, R282). -/
def State.monSupply (s : State) (c kind : Nat) (level : Int) : State :=
  s.put (Reg.gateChMon c) (if kind = 2 then 8 else 0) 8 (level % 256).toNat
def State.monTemp (s : State) (c : Nat) (temp : Int) : State := s.put (Reg.gateChMon c) 16 8 ((temp + 50) % 256).toNat

/-- SUPPLY_UV: a secondary supply of channel `c` has stood at `level` for the filter time: below its threshold it is a
fault while the channel is commanded or drives, otherwise it holds the channel in UNPOWERED (R270, R273, R274) (log
entry 10, DESIGN CHOICE). -/
def execSupplyUv (c kind : Nat) (level : Int) (s : State) : Host.Outcome State Fault Refusal :=
  .next (if c < 48 ∧ kind < 3 then
    let s := s.monSupply c kind level
    if s.supplyTest c kind ∧ s.supplyFails c kind level ∧ ¬ s.bit (Reg.gateChStatus c) (4 + kind) then
      let st := s.chanState c
      let commanded := decide (s.eff c = .on) || decide (s.eff c = .off)
      if commanded || st == .turnOn || st == .on || st == .turnOff || st == .softOff then
        (s.chanFault c kind).afterFault
      else
        let s := s.setBit (Reg.gateChStatus c) (4 + kind) true
        if st = .off then s.enter c .unpowered else s
    else s
  else s)

/-- OVERTEMP: the driver junction of channel `c` stands at `temp` °C: from 150 °C on it is a fault in every state except
DISABLED; it is released at 135 °C (R273, R274) (log entry 10, DESIGN CHOICE). -/
def execOvertemp (c : Nat) (temp : Int) (s : State) : Host.Outcome State Fault Refusal :=
  .next (if c < 48 then
    let s := s.monTemp c temp
    let hot := s.bit (Reg.gateChStatus c) 8
    if temp ≤ 135 then s.setBit (Reg.gateChStatus c) 8 false
    else if 150 ≤ temp ∧ ¬ hot then
      if s.chanState c = .disabled then s.setBit (Reg.gateChStatus c) 8 true else (s.chanFault c 4).afterFault
    else s
  else s)

/-- SUPPLY_CONDITION_CLEAR: a secondary supply of channel `c` has stood at `level`, clear of its condition, for the filter
time; a channel in UNPOWERED with no other condition leaves for OFF (R273, R274). -/
def execSupplyConditionClear (c kind : Nat) (level : Int) (s : State) : Host.Outcome State Fault Refusal :=
  .next (if c < 48 ∧ kind < 3 then
    let s := s.monSupply c kind level
    if s.bit (Reg.gateChStatus c) (4 + kind) ∧ (s.supplyGood c kind level ∨ ¬ s.supplyTest c kind) then
      let s := s.setBit (Reg.gateChStatus c) (4 + kind) false
      if s.chanState c = .unpowered ∧ (s.supplyLow c).isNone then (s.enter c .off).gateSettle else s
    else s
  else s)

/-- RETRY_WAIT_END: at the retry tick that ends the wait the channel recovers if the cause has cleared; otherwise the
tick is a new occurrence (R276 to R278). A cause is present while its condition is; for SC the comparison of SNS, `sns` mV,
runs at the tick. -/
def execRetryWaitEnd (c sns : Nat) (s : State) : Host.Outcome State Fault Refusal :=
  .next (if c < 48 ∧ (s.gch c).wait = some 0 ∧ s.chanState c = .fault then
    let kind := s.fld (Reg.gateChStatus c) 9 3
    let s := if kind = 3 then s.setBit (Reg.gateChStatus c) 7 (s.scAbove c sns) else s
    (if s.bit (Reg.gateChStatus c) (4 + kind) then s.failAgain c else s.recover c).afterFault
  else s)

end Sys2Proof.Machine
end

