-- ==== Sys2Proof/Machine/Lanes.lean ====
section
/-! DEFINITION. The two lanes: roles (R205), which lanes hold the common results (R130, R223), access to the registers
both keep, and the coefficient queue (R156 to R161, R167). Lanes compute alike, so the model holds one set of results
and writes it into the registers of every lane that has it (log entry 13, DEDUCED). -/

namespace Sys2Proof.Machine

/-! ### Registers that both lanes keep -/

/-- The register `f` of the lead lane. -/
def State.lrd (s : State) (f : Nat → Nat) : Word := s.rd (f s.lead)

/-- A field and a bit of that register. -/
def State.lfld (s : State) (f : Nat → Nat) (lo n : Nat) : Nat := s.fld (f s.lead) lo n
def State.lbit (s : State) (f : Nat → Nat) (i : Nat) : Bool := s.bit (f s.lead) i

/-- `f` applied for every lane that takes the common results (log entry 13, DEDUCED). -/
def State.eachLane (s : State) (f : State → Nat → State) : State :=
  let s' := if s.holdsResults 0 then f s 0 else s
  if s.holdsResults 1 then f s' 1 else s'

/-- The register `f` of those lanes takes `v` (log entry 13, DEDUCED). -/
def State.lwr (s : State) (f : Nat → Nat) (v : Word) : State := s.eachLane (fun s l => s.wr (f l) v)

/-- A field, a bit of the register `f` of those lanes. -/
def State.lput (s : State) (f : Nat → Nat) (lo n v : Nat) : State := s.eachLane (fun s l => s.put (f l) lo n v)
def State.lsetBit (s : State) (f : Nat → Nat) (i : Nat) (b : Bool) : State := s.eachLane (fun s l => s.setBit (f l) i b)

/-! ### Modes -/

/-- Converter modes by their code (R183). -/
inductive Mode where
  | off | standby | precharge | blackStart | synchronise | gridForming | rideThrough | safelight | lockout
  deriving DecidableEq, Repr

/-- The code of a mode. -/
def Mode.code : Mode → Nat
  | .off => 0 | .standby => 1 | .precharge => 2 | .blackStart => 3 | .synchronise => 4 | .gridForming => 5
  | .rideThrough => 6 | .safelight => 7 | .lockout => 8

/-- The mode with a code. -/
def Mode.ofCode : Nat → Mode
  | 0 => .off | 1 => .standby | 2 => .precharge | 3 => .blackStart | 4 => .synchronise | 5 => .gridForming
  | 6 => .rideThrough | 7 => .safelight | _ => .lockout

/-- The current mode, the target and the return mode (LANE_MODE). -/
def State.mode (s : State) : Mode := Mode.ofCode (s.lfld Reg.laneMode 0 4)
def State.target (s : State) : Mode := Mode.ofCode (s.lfld Reg.laneMode 4 4)
def State.retMode (s : State) : Mode := Mode.ofCode (s.lfld Reg.laneMode 8 4)

/-- Whether the AC stage switches in mode `m`, whether the gate-enable request is high in it (R183). -/
def Mode.acOn : Mode → Bool
  | .blackStart | .synchronise | .gridForming | .rideThrough => true
  | _ => false
def Mode.request : Mode → Bool
  | .precharge | .blackStart | .synchronise | .gridForming | .rideThrough => true
  | _ => false

/-! ### The coefficient queue -/

/-- Law `l`'s hidden part. -/
def State.law (s : State) (l : Nat) : LawSt := sparseGet (fun _ => LawSt.idle) s.lane.laws l

def State.setLaw (s : State) (l : Nat) (v : LawSt) : State :=
  { s with lane := { s.lane with laws := sparseSet (fun _ => LawSt.idle) s.lane.laws l v } }

/-- Coefficient word `i` of law `l` (R132) (log entry 105, DESIGN CHOICE). -/
def State.coef (s : State) (l i : Nat) : Word := sparseGet (fun _ => 0) s.lane.coef (2048 * l + i)

/-- Words of law `l` in the queue. -/
def State.pendingWords (s : State) (l : Nat) : Nat := (s.lane.queue.filter (fun w => w.law == l)).length

/-- The fill registers of the queue (R158). -/
def State.showQueue (s : State) : State :=
  let s := s.lput Reg.laneQueue 0 9 s.lane.queue.length
  (List.range 4).foldl (fun s l => s.lput (fun L => Reg.laneLawStatus L l) 9 9 (s.pendingWords l)) s

/-- The first `n` words of law `l` in a queue, and the queue without them. -/
def takeWords (l : Nat) : Nat → List CoefWord → List CoefWord × List CoefWord
  | _, [] => ([], [])
  | 0, q => ([], q)
  | n + 1, w :: r =>
    if w.law = l then let (t, k) := takeWords l n r; (w :: t, k)
    else let (t, k) := takeWords l (n + 1) r; (t, w :: k)

/-- Up to 32 queued words of law `l` are applied, oldest first (R160). -/
def State.applyWords (s : State) (l : Nat) : State :=
  let (t, k) := takeWords l 32 s.lane.queue
  if t.isEmpty then s
  else
    let c := t.foldl (fun c w => sparseSet (fun _ => 0) c (2048 * l + w.index) w.value) s.lane.coef
    let s := { s with lane := { s.lane with coef := c, queue := k, head := (s.lane.head + t.length) % 256 } }
    (s.setLaw l { s.law l with crcFormed := false }).showQueue

/-- The coefficient CRC of law `l`: CRC-32C of its 2,016 words as little-endian bytes (R170). -/
def State.coefCrc (s : State) (l : Nat) : Word := crc32c (wordsBytes ((List.range 2016).map (s.coef l)))

/-- The CRC register of every lane that takes results shows the words now in force. -/
def State.showCoefCrc (s : State) (l : Nat) : State :=
  if (s.law l).crcFormed ∨ ¬ (s.holdsResults 0 ∨ s.holdsResults 1) then s
  else (s.lwr (fun L => Reg.laneLawCoefCrc L l) (s.coefCrc l)).setLaw l { s.law l with crcFormed := true }

/-- The queued words of law `l` are discarded when its lease ends (R167). -/
def State.discardWords (s : State) (l : Nat) : State :=
  State.showQueue { s with lane := { s.lane with
    queue := s.lane.queue.filter (fun w => w.law ≠ l), head := (s.lane.head + s.pendingWords l) % 256 } }

/-! ### Laws -/

/-- Whether law `l` is enabled. -/
def State.lawOn (s : State) (l : Nat) : Bool := s.bit (Reg.laneLawCfg 0 l) 0

/-- Whether law `l` is due at base sample `n` (R139). -/
def State.lawDue (s : State) (l n : Nat) : Bool :=
  let r := s.rd (Reg.laneLawRate 0 l)
  let d := field r 0 8 + 1
  s.lawOn l && (n + (d - field r 8 8 % d)) % d == 0

/-- The law whose samples run the transform stage (R146). -/
def State.vmoLaw (s : State) : Nat := s.fld (Reg.laneXfCfg 0) 1 2

/-- Whether the transform stage is enabled. -/
def State.xfOn (s : State) : Bool := s.bit (Reg.laneXfCfg 0) 0

/-- Whether the schedule timebase runs. -/
def State.schedRuns (s : State) : Bool := s.tbRuns (s.fld (Reg.laneSched 0) 0 4)

/-- Whether cycle `u` is an update point of the schedule: one of its timebase that LANE_SCHED selects (R14, R143). -/
def State.schedPoint (s : State) (u : Nat) : Bool :=
  let t := s.fld (Reg.laneSched 0) 0 4
  let e := s.fld (Reg.laneSched 0) 4 2
  let x := (s.tbAt t u).2
  s.isUpdate t u && (e == 0 || (e == 1 && x == 0) || (e == 2 && x == s.tbMid t))

/-- The base interval in ns (R143): the spacing of the update points that LANE_SCHED selects. -/
def State.baseInterval (s : State) : Nat :=
  let t := s.fld (Reg.laneSched 0) 0 4
  if s.fld (Reg.laneSched 0) 4 2 = 0 ∧ s.fld (Reg.pwmTbCfg 0 t) 2 2 = 3 then s.tbInt t / 2 else s.tbInt t

/-- Limiting is in force (LANE_STATUS). -/
def State.limiting (s : State) : Bool := s.lbit Reg.laneStatus 2

/-- Whether law `l` is held. -/
def State.lawHeld (s : State) (l : Nat) : Bool := s.lbit (fun L => Reg.laneLawStatus L l) 1

/-- The hold of law `l` starts or ends. -/
def State.setHeld (s : State) (l : Nat) (b : Bool) (left : Nat) : State :=
  let s := (s.lsetBit (fun L => Reg.laneLawStatus L l) 1 b).lput (fun L => Reg.laneLawStatus L l) 2 7 left
  s.lsetBit Reg.laneStatus (8 + l) b

/-- Law `l`'s state is loaded from its preset words (R141). -/
def State.loadPreset (s : State) (l : Nat) : State :=
  (List.range 24).foldl (fun s i => s.lwr (fun L => Reg.laneLawXhat L l i) (s.rd (Reg.laneLawPreset 0 l i))) s

end Sys2Proof.Machine
end

