-- ==== Sys2Proof/Machine/Scp.lean ====
section
/-! DEFINITION. The Sundide Command Protocol: replies and notices (R416 to R419), the checks of R415, sequence numbers
(R425), roles (R427, R428, R548), the start of a command and what holds it back (R416, R418, R435), leases (R437 to
R440), and the end of a session (R426). -/

namespace Sys2Proof.Machine

/-- Status codes of R429. -/
inductive Status where
  | ok | pending | badOpcode | badLength | badCrc | noSession | authRequired | authFailed | leaseHeld | leaseLost
  | conflict | outOfRange | notPermitted | busy | poolEmpty | discarded | faultLasting | tripActive | lockedOut | timeout
  deriving DecidableEq, Repr

def Status.code : Status → Nat
  | .ok => 0x0000 | .pending => 0x0001 | .badOpcode => 0x0101 | .badLength => 0x0102 | .badCrc => 0x0103
  | .noSession => 0x0201 | .authRequired => 0x0202 | .authFailed => 0x0203 | .leaseHeld => 0x0301 | .leaseLost => 0x0302
  | .conflict => 0x0303 | .outOfRange => 0x0304 | .notPermitted => 0x0305 | .busy => 0x0401 | .poolEmpty => 0x0402
  | .discarded => 0x0501 | .faultLasting => 0x0502 | .tripActive => 0x0601 | .lockedOut => 0x0602 | .timeout => 0x0701

/-- The roles of R428 by their codes in HOST_SESSs. -/
def observer : Nat := 0
def operator : Nat := 1
def engineer : Nat := 2
def securityAdmin : Nat := 3

/-! ### Payload fields, little-endian -/

def n8 (v : Nat) : List Byte := [BitVec.ofNat 8 v]
def n16 (v : Nat) : List Byte := (wordBytes (word v)).take 2
def n32 (v : Nat) : List Byte := wordBytes (word v)

/-! ### Sessions -/

def State.session (s : State) (n : Nat) : Session := sparseGet (fun _ => Session.closed) s.sessions n

def State.setSession (s : State) (n : Nat) (v : Session) : State :=
  { s with sessions := sparseSet (fun _ => Session.closed) s.sessions n v }

/-- Session `n` is open; is authenticated; its role and its channel. -/
def State.isOpen (s : State) (n : Nat) : Bool := decide (n < 128) && decide (s.fld (Reg.hostSess n) 0 2 ≠ 0)
def State.isAuth (s : State) (n : Nat) : Bool := decide (n < 128) && decide (s.fld (Reg.hostSess n) 0 2 = 2)
def State.role (s : State) (n : Nat) : Nat := s.fld (Reg.hostSess n) 5 2
def State.sessChan (s : State) (n : Nat) : Nat := s.fld (Reg.hostSess n) 2 3

/-- CERT_MODE is in force (R549). -/
def State.certMode (s : State) : Bool := s.bit Reg.secStatus 0

/-! ### Replies -/

/-- The replies and notices waiting on channel `c`. -/
def State.waitingReplies (s : State) (c : Nat) : List Reply := sparseGet (fun _ => []) s.replies c

def State.setWaitingReplies (s : State) (c : Nat) (l : List Reply) : State :=
  { s with replies := sparseSet (fun _ => []) s.replies c l }

/-- The oldest unit leaves ring `r`, and its descriptors return to the pool. -/
def State.popUnit (s : State) (r : Nat) : State :=
  match (s.ring r).units with
  | [] => s
  | u :: us => (s.setRing r { s.ring r with units := us }).setFill r (s.ringFill r - u.descs)

/-- While channel `c`'s reply ring has room, a reply that waits in HOST enters it (R388). -/
def State.fillReplies (s : State) (c : Nat) : State :=
  (List.range (s.waitingReplies c).length).foldl (fun s _ =>
    if (s.ring (2 * c + 1)).units.length < (s.waitingReplies c).length ∧ s.room (2 * c + 1) 1 = .granted
    then s.append (2 * c + 1) 1 [] else s) s

/-- The oldest reply or notice of channel `c` leaves the module. -/
def State.sendReply (s : State) (c : Nat) : State :=
  match s.waitingReplies c with
  | [] => s
  | r :: rs => ((({ s with sent := r :: s.sent }).setWaitingReplies c rs).popUnit (2 * c + 1)).fillReplies c

/-- Registers of the ring window of channel `c` (R419). -/
def winReg (c off : Nat) : Nat := 0x100000000 + c * 0x100 + off

/-- Slots of the queue whose CFG register is at offset `off`. -/
def State.winSlots (s : State) (c off : Nat) : Nat := 2 ^ s.fld (winReg c off) 0 4

/-- Channel `c`'s reply queue in host memory can take a slot (R419). -/
def State.rqReady (s : State) (c : Nat) : Bool :=
  s.bit (winReg c 0x1C) 8 &&
    decide ((s.fld (winReg c 0x20) 0 8 + 1) % s.winSlots c 0x1C ≠ s.fld (winReg c 0x24) 0 8 % s.winSlots c 0x1C)

/-- The module writes waiting replies to the reply queue of a PCI Express channel, advancing RQ_TAIL (R419). -/
def State.drainPcie (s : State) (c : Nat) : State :=
  (List.range (s.waitingReplies c).length).foldl (fun s _ =>
    if s.rqReady c ∧ s.waitingReplies c ≠ [] then
      let s := (s.sendReply c).put (winReg c 0x20) 0 8 ((s.fld (winReg c 0x20) 0 8 + 1) % s.winSlots c 0x1C)
      { s with net := { s.net with msix := s.fld (winReg c 0x1C) 16 3 :: s.net.msix } }
    else s) s

/-- A reply or notice enters the queue of its channel (R418); on PCI Express it leaves at once where the reply queue has
room (R419). -/
def State.emit (s : State) (r : Reply) : State :=
  let s := (s.setWaitingReplies r.chan (s.waitingReplies r.chan ++ [r])).fillReplies r.chan
  if r.chan < 5 then s.drainPcie r.chan else s

/-- The reply to command packet `p` of opcode `op` (R414): it carries a tag on an authenticated session, but for
SESSION_AUTH's own (R424) (log entry 53, DEDUCED). -/
def State.replyOf (s : State) (op : Nat) (p : Packet) (st : Status) (payload : List Byte) : Reply :=
  { chan := p.chan, srcIp := p.srcIp, srcPort := p.srcPort, opcode := op, session := p.session, seq := p.seq,
    tag := p.tag, lease := p.lease, status := st.code, notice := false,
    tagged := s.isAuth p.session && decide (op ≠ 1), payload := payload }

/-- The reply is kept as the latest one of its consumed packet (R425). -/
def State.noteReply (s : State) (p : Packet) (r : Reply) : State :=
  let v := s.session p.session
  let rec put : List Consumed → List Consumed
    | [] => []
    | c :: cs => if c.seq = p.seq then { c with reply := some r } :: cs else c :: put cs
  s.setSession p.session { v with history := put v.history }

/-- The counts of BAD_CRC and BAD_LENGTH replies (R443). -/
def State.countStatus (s : State) (st : Status) : State :=
  match st with
  | .badCrc => s.countUp Reg.hostErr 0 16 1
  | .badLength => s.countUp Reg.hostErr 16 16 1
  | _ => s

/-- A refusal at steps 2 to 6 of R415: the command's seq is not consumed. -/
def State.refuse (s : State) (op : Nat) (p : Packet) (st : Status) (payload : List Byte) (tag : Bool) : State :=
  (s.countStatus st).emit { s.replyOf op p st payload with tagged := tag && s.isAuth p.session }

/-- A reply to a command that has consumed its seq. -/
def State.answer (s : State) (op : Nat) (p : Packet) (st : Status) (payload : List Byte) : State :=
  let r := s.replyOf op p st payload
  ((s.countStatus st).noteReply p r).emit r

/-- The first in-flight entry of a command leaves. -/
def dropFlight (p : Packet) : List InFlight → List InFlight
  | [] => []
  | f :: fs => if f.packet.session = p.session ∧ f.packet.seq = p.seq then fs else f :: dropFlight p fs

/-- Opcodes whose every final reply the audit log records with its status (R552). -/
def audited (op : Nat) : Bool := decide (0x0100 ≤ op ∧ op < 0x0400) || decide (0x0800 ≤ op ∧ op < 0x0900)

/-- The final reply of a command: it is no longer in flight (R416). -/
def State.finish (s : State) (op : Nat) (p : Packet) (st : Status) (payload : List Byte) : State :=
  let s := { s with inflight := dropFlight p s.inflight }
  let s := s.put (Reg.hostSess p.session) 8 5 (s.fld (Reg.hostSess p.session) 8 5 - 1)
  let s := if audited op then s.audit p.session (s.role p.session) .opcode op st.code else s
  s.answer op p st payload

/-- The final reply of a command under way, unless its work has been discarded meanwhile (R441). -/
def State.finishLate (s : State) (op : Nat) (p : Packet) (st : Status) (payload : List Byte) : State :=
  if s.inflight.any (fun f => f.packet.session == p.session && f.packet.seq == p.seq && f.opcode == op) then
    s.finish op p st payload
  else s

/-- The command is under way: PENDING, and its final reply follows (R416). -/
def State.pend (s : State) (op : Nat) (p : Packet) : State := s.answer op p .pending []

/-- A notice of session `n` with status `st` (R417). -/
def State.notify (s : State) (n op tag : Nat) (st : Status) (payload : List Byte) : State :=
  let v := s.session n
  let r : Reply :=
    { chan := s.sessChan n, srcIp := v.srcIp, srcPort := v.srcPort, opcode := op, session := n, seq := v.notices % 256,
      tag := tag, lease := 0, status := st.code, notice := true, tagged := s.isAuth n, payload := payload }
  (s.setSession n { v with notices := v.notices + 1 }).emit r

/-! ### Leases -/

/-- Lease entry `i`: kind 0 is free. -/
def State.leaseKind (s : State) (i : Nat) : Nat := s.fld (Reg.hostLeaseA i) 0 8
def State.leaseIndex (s : State) (i : Nat) : Nat := s.fld (Reg.hostLeaseA i) 8 16
def State.leaseSession (s : State) (i : Nat) : Nat := s.fld (Reg.hostLeaseA i) 24 7
def State.leaseHandle (s : State) (i : Nat) : Nat := s.fld (Reg.hostLeaseB i) 0 16
def State.leaseLeft (s : State) (i : Nat) : Nat := s.fld (Reg.hostLeaseB i) 16 16

/-- The entry of the lease on an object, if a session holds it. -/
def State.leaseOn (s : State) (kind index : Nat) : Option Nat :=
  (List.range 256).find? (fun i => s.leaseKind i == kind && s.leaseIndex i == index)

/-- The lease checks of R157 and R438; `none` when the command's session holds the lease (log entry 49, DEDUCED). -/
def State.leaseCheck (s : State) (kind index : Nat) (p : Packet) : Option Status :=
  match s.leaseOn kind index with
  | some i =>
    if s.leaseSession i ≠ p.session then some .leaseHeld
    else if p.lease = 0 ∨ p.lease = s.leaseHandle i then none else some .leaseLost
  | none => if p.lease = 0 then some .notPermitted else some .leaseLost

/-- The staging area is emptied. -/
def State.emptyStaging (s : State) : State := { s with staging := [] }

/-- The cycle of the active timetable (FAB_TT_STAT). -/
def State.activeCycle (s : State) : Nat := s.fld Reg.fabTtStat 0 14

/-- The shadow becomes a copy of the active timetable, and the claims only it held are released (R497). -/
def State.resetShadow (s : State) : State :=
  let was := s.fab.shadow
  let now := s.fab.active
  let s := ({ s with fab := { s.fab with shadow := now } }).put Reg.fabTtCycle 0 14 s.activeCycle
  let keeps (c : Claim) : Bool :=
    decide (c.kind ≠ 6) || decide (c.ownerKind ≠ 0x0A)
      || decide (field (sparseGet slotReset now (2 * c.granule + 1)) 12 12 = c.ownerIdx)
      || decide (field (sparseGet slotReset was (2 * c.granule + 1)) 12 12 ≠ c.ownerIdx)
  State.wr { s with ledger := s.ledger.filter keeps } Reg.fabTtCrcS (s.rd Reg.fabTtCrcA)

/-- What the end of a lease does to its object (R440): STAGING empties the staging area, LAW discards queued words
(R167), TIMETABLE resets the shadow of every node (R497) unless a swap has been accepted (log entry 76, DEDUCED). -/
def State.endObject (s : State) (kind index : Nat) : State :=
  if kind = 1 then s.emptyStaging
  else if kind = 2 then s.discardWords index
  else if kind = 7 then (if s.bit Reg.fabTtStat 15 then s else s.resetShadow.sendFab broadcast (.timetable .reset))
  else s

/-- Why a lease ends (R440): the argument of the free coding of log entry 15, DESIGN CHOICE. -/
inductive LeaseEnd where
  | expiry | release | sessionEnd
  deriving DecidableEq, Repr

def LeaseEnd.num : LeaseEnd → Nat
  | .expiry => 0 | .release => 1 | .sessionEnd => 2

/-- The lease of entry `i` ends (R440). -/
def State.endLease (s : State) (i : Nat) (why : LeaseEnd) : State :=
  let k := s.leaseKind i
  if k = 0 then s else
  let x := s.leaseIndex i
  let n := s.leaseSession i
  let s := (s.wr (Reg.hostLeaseA i) 0).wr (Reg.hostLeaseB i) 0
  let s := s.put (Reg.hostSess n) 21 8 (s.fld (Reg.hostSess n) 21 8 - 1)
  let s := s.put Reg.memLease 0 9 (s.fld Reg.memLease 0 9 - 1)
  let s := { s with leaseDur := sparseSet (fun _ => 0) s.leaseDur i 0 }
  ((s.raise 0x0D04 [Config.leaseCause why.num]).audit n (s.role n) .leaseEnd (k * 2 ^ 16 + x) why.num).endObject k x

/-! ### The end of a session -/

/-- An accepted CFG_FIX, which is no work in flight (R441). -/
def fixed (f : InFlight) : Bool := f.started && f.opcode == 0x0102

/-- A command that goes on by itself when its session ends: an accepted CFG_FIX (R441), a commit that is verifying
(R544). -/
def goesOn (f : InFlight) : Bool := f.started && (f.opcode == 0x0102 || f.opcode == 0x0802)

/-- Commands of session `n` for which `keep` does not hold are discarded, in seq order (R441). -/
def State.discardSome (s : State) (n : Nat) (keep : InFlight → Bool) : State :=
  (s.inflight.filter (fun f => f.packet.session == n && !keep f)).foldl (fun s f =>
    let s := if f.started then s else s.popUnit (2 * f.packet.chan)
    s.finish f.opcode f.packet .discarded []) s

/-- What a discarded command under way would still have done is dropped: an image transfer that its erasure or its
verification was to end, and a LOCKOUT_CONFIRM that waits for its tick (R35). -/
def State.dropUnderWay (s : State) (n : Nat) : State :=
  let s := { s with safe := { s.safe with confirms := s.safe.confirms.filter (fun p => p.session ≠ n) } }
  match s.sec.image.transfer with
  | some t =>
    if t.session = n ∧ (t.erasing ∨ t.verifying) then
      ({ s with sec := { s.sec with image := { s.sec.image with transfer := none } } }).setBit Reg.secStatus 10 false
    else s
  | none => s

/-- The work in flight of session `n` is discarded and the session stays open (R34, R441). -/
def State.discardFlight (s : State) (n : Nat) : State := (s.discardSome n fixed).dropUnderWay n

/-- How a session ends (R426). -/
inductive SessionEnd where
  | close | idle | fault
  deriving DecidableEq, Repr

/-- The open image transfer of a session that ends is discarded, but for a commit that is already verifying (R544). -/
def State.endTransfer (s : State) (n : Nat) : State :=
  match s.sec.image.transfer with
  | some t =>
    if t.session = n ∧ ¬ t.verifying then
      ({ s with sec := { s.sec with image := { s.sec.image with transfer := none } } }).setBit Reg.secStatus 10 false
    else s
  | none => s

/-- The event rings of session `n` lose their filter lists (R561). -/
def State.endFilters (s : State) (n : Nat) : State :=
  [32, 33, 34, 35, 36, 37, 38].foldl (fun s r =>
    if s.fld (Reg.memRingCfg r) 17 7 = n then (s.setRing r { s.ring r with filters := [] }).wr (Reg.perfSub (r - 32)) 0
    else s) s

/-- A pending remote arm of session `n` is discarded (R314), with a CONFIRM that waits for its tick. -/
def State.endArm (s : State) (n : Nat) : State :=
  let s := { s with safe := { s.safe with confirms := s.safe.confirms.filter (fun p => p.session ≠ n) } }
  match s.safe.arm with
  | some a =>
    if a.session = n then
      ({ s with safe := { s.safe with arm := none } }).put Reg.safeStatus 7 1 0 |>.put Reg.safeStatus 16 7 0
    else s
  | none => s

/-- Module ticks for which a closed session number stays unused: 10 s (R423). -/
def sessionRest : Nat := 10000

/-- Session `n` ends (R426): its work in flight is discarded, its leases end, its context is emptied, its transfer and
filter lists go, and its number closes. -/
def State.endSession (s : State) (n : Nat) (why : SessionEnd) : State :=
  if ¬ s.isOpen n then s else
  let role := s.role n
  let s := s.discardSome n goesOn
  let s := { s with inflight := s.inflight.filter (fun f => f.packet.session ≠ n) }
  let s := (List.range 256).foldl (fun s i =>
    if s.leaseKind i ≠ 0 ∧ s.leaseSession i = n then s.endLease i .sessionEnd else s) s
  let s := { s with memx := { s.memx with maps := s.memx.maps.filter (fun m => m.ctx ≠ n) } }
  let s := ((s.endTransfer n).endFilters n).endArm n
  let s := (s.wr (Reg.hostSess n) 0).setBit (Reg.hostSessions (n / 32)) (n % 32) false
  let s := s.put Reg.hostStatus 8 8 (s.fld Reg.hostStatus 8 8 - 1)
  let s := s.setSession n ({ Session.closed with readyTick := s.tick + sessionRest } : Session)
  match why with
  | .fault => (s.audit n role .sessionFault 0 0).raise 0x0D02 []
  | _ => (s.audit n role .sessionClose 0 0).raise 0x0D01 []

/-! ### The checks of R415 -/

/-- A row of R428: whether it needs authentication, and the roles as a mask by role code. -/
def opRow (op : Nat) : Option (Bool × Nat) :=
  if op ≤ 0x0004 ∨ op = 0x0100 ∨ op = 0x0404 ∨ op = 0x0500 ∨ (0x0502 ≤ op ∧ op ≤ 0x0506) ∨ (0x0600 ≤ op ∧ op ≤ 0x0603)
    ∨ op = 0x0700 ∨ op = 0x0701 ∨ op = 0x0803 ∨ op = 0x0900 ∨ op = 0x0901 then some (false, 0xF)
  else if op = 0x0104 ∨ op = 0x0105 then some (true, 0xF)
  else if op = 0x0101 ∨ op = 0x0102 ∨ op = 0x0103 ∨ (0x0800 ≤ op ∧ op ≤ 0x0802) ∨ op = 0x0804 then some (true, 0xC)
  else if (0x0200 ≤ op ∧ op ≤ 0x0202) ∨ (0x0300 ≤ op ∧ op ≤ 0x0304) ∨ op = 0x0702 ∨ op = 0x0703 then some (true, 0x4)
  else if op = 0x0203 ∨ op = 0x0204 ∨ (0x0400 ≤ op ∧ op ≤ 0x0403) ∨ op = 0x0501 ∨ op = 0x0604 ∨ op = 0x0902
    ∨ op = 0x0903 then some (true, 0x6)
  else if 0x0805 ≤ op ∧ op ≤ 0x0807 then some (true, 0x8)
  else none

/-- An address in the SEC block. -/
def inSec (a : Nat) : Bool := decide (0x100F0000 ≤ a ∧ a < 0x10100000)

/-- `n` bytes from `a` on reach the SEC block. -/
def meetsSec (a n : Nat) : Bool := decide (a < 0x10100000) && decide (0x100F0000 < a + n)

/-- The role of session `n` does not permit it the SEC block (R22, R548). -/
def State.secHidden (s : State) (n : Nat) : Bool :=
  s.certMode && decide (n < 128) && !(s.isAuth n && s.role n == securityAdmin)

/-- Narrower roles that depend on the payload: CFG_WRITE (R428, R548), MEM_MAP with write permission (R428), and
CERT_MODE's (R548). -/
def State.payloadRoles (s : State) (op : Nat) (p : Packet) : Nat :=
  if op = 0x0101 then (if inSec (leAt p.payload 0 4) then 0x8 else 0x4)
  else if op = 0x0502 then (if s.certMode || decide (leAt p.payload 12 4 % 2 = 1) then 0x4 else 0xF)
  else if s.certMode && op == 0x0501 then 0x4
  else if s.certMode && op == 0x0504 then 0x6
  else if s.certMode && op == 0x0500 && meetsSec (leAt p.payload 0 4) (leAt p.payload 4 4) then 0x8
  else 0xF

/-- Whether a credential of role SECURITY_ADMIN is enabled (R545). -/
def State.hasAdmin (s : State) : Bool := s.sec.creds.any (fun e => e.2.enabled && e.2.role == securityAdmin)

/-- CREDENTIAL_SET from an unauthenticated session of a local link while no SECURITY_ADMIN credential exists (R545). -/
def State.provisioning (s : State) (op : Nat) (p : Packet) : Bool :=
  op == 0x0805 && !s.hasAdmin && !s.certMode && (decide (p.chan < 5) || p.chan == 7) && !s.isAuth p.session

/-- Step 8 of R415 (R427, R428). -/
def State.roleCheck (s : State) (op : Nat) (p : Packet) : Option Status :=
  match opRow op with
  | none => some .badOpcode
  | some (auth, mask) =>
    let role := if s.isAuth p.session then s.role p.session else observer
    if s.provisioning op p then none
    else if (auth || (s.certMode && decide (4 ≤ op))) && !s.isAuth p.session then some .authRequired
    else if (mask &&& s.payloadRoles op p) / 2 ^ role % 2 = 1 then none
    else some .notPermitted

/-- What the checks before a seq is consumed decide. -/
inductive Verdict where
  | refuse (st : Status) (payload : List Byte) (tagged : Bool)
  | resend (c : Consumed)
  | take
  deriving DecidableEq, Repr

/-- Steps 4 to 6 of R415. -/
def State.judge (s : State) (op : Nat) (p : Packet) : Verdict :=
  let v := s.session p.session
  if p.session = 0xFF ∧ op = 0 then .take
  else if ¬ s.isOpen p.session ∨ s.sessChan p.session ≠ p.chan
    ∨ ((p.chan = 5 ∨ p.chan = 6) ∧ (v.srcIp ≠ p.srcIp ∨ v.srcPort ≠ p.srcPort)) then .refuse .noSession [] false
  else if p.seq ≠ s.fld (Reg.hostSess p.session) 13 8 then
    match v.history.find? (fun c => c.seq == p.seq && c.crc == p.crc) with
    | some c => .resend c
    | none => .refuse .outOfRange (n8 (s.fld (Reg.hostSess p.session) 13 8)) true
  else if (s.isAuth p.session ∧ p.auth ≠ .right) ∨ (¬ s.isAuth p.session ∧ p.auth ≠ .absent) then
    .refuse .authFailed [] true
  else .take

/-- What a refusal before the seq is consumed leaves: the counts of R443, and the run of R424 that faults the session. -/
def State.refused (s : State) (op : Nat) (p : Packet) (st : Status) (payload : List Byte) (tagged : Bool) : State :=
  let s := s.refuse op p st payload tagged
  match st with
  | .outOfRange => s.countUp Reg.hostDrop 16 16 1
  | .authFailed =>
    let s := (s.countUp Reg.hostAuthFail 0 16 1).raise 0x0D03 []
    let v := s.session p.session
    let s := s.setSession p.session { v with authRun := v.authRun + 1 }
    if s.fld Reg.hostCfg 20 4 ≤ v.authRun + 1 then s.endSession p.session .fault else s
  | _ => s

/-- The packet consumes its seq (R415, R424, R425): the expected seq and the command counter rise, the packet enters the
history of 16, the idle time starts again, and the host link is kept (R350). -/
def State.consume (s : State) (p : Packet) : State :=
  let v := s.session p.session
  let s := s.setSession p.session
    { v with lastTick := s.tick, authRun := 0, counter := v.counter + 1,
             history := { seq := p.seq, crc := p.crc, reply := none } :: v.history.take 15 }
  let s := s.put (Reg.hostSess p.session) 13 8 (p.seq + 1)
  let s := s.countSource (0x8250 + p.chan) 1
  if s.isAuth p.session ∧ s.role p.session ≠ observer then s.keepLink else s

/-! ### Start of a command -/

/-- Channel `c`'s reply ring, its command ring, is full (R386, R418). -/
def State.replyFull (s : State) (c : Nat) : Bool := decide (s.room (2 * c + 1) 1 ≠ .granted)
def State.commandFull (s : State) (c : Nat) : Bool := decide (s.room (2 * c) 1 ≠ .granted)

/-- An accepted FIX set that has not applied changes the object (R435). -/
def State.fixPends (s : State) (kind index : Nat) : Bool :=
  s.fixes.any (fun x => x.objects.any (fun o => o.kind == kind && o.index == index))

/-- R435 holds back SHUTTER_ARM on a changed shutter and DMA_START on a changed channel. -/
def State.heldBack (s : State) (op : Nat) (p : Packet) : Bool :=
  (op == 0x0400 && s.fixPends 0x06 (leAt p.payload 0 1))
  || (op == 0x0504 && s.fixPends 0x08 (leAt p.payload 0 1 * 32 + leAt p.payload 1 1))

/-- A command of the session that has not started comes before. -/
def State.queuedBefore (s : State) (n : Nat) : Bool := s.inflight.any (fun f => f.packet.session == n && !f.started)

/-- A command may start now: the reply ring has room (R418), R435 does not hold it back, and no earlier command of its
session waits to start (R416). -/
def State.mayStart (s : State) (op : Nat) (p : Packet) : Bool :=
  !s.replyFull p.chan && !s.heldBack op p && !s.queuedBefore p.session

/-- Transport of channel `c` enabled in HOST_CFG. -/
def State.transportOn (s : State) (c : Nat) : Bool :=
  decide (c < 8) && s.bit Reg.hostCfg (if c < 5 then 27 else if c = 5 then 24 else if c = 6 then 25 else 26)

/-- The module serves SCP on channel `c`: from start-up step 7 on (R525), and in a stopped start-up on PCI Express and
SPI (R527). -/
def State.serves (s : State) (c : Nat) : Bool :=
  s.transportOn c &&
    (if s.bit Reg.sysBoot 4 then decide (c < 5) || c == 7 else decide (7 ≤ s.fld Reg.sysBoot 0 4))

/-- The opcodes of a stopped start-up (R527, R544). -/
def bootOpcode (op : Nat) : Bool :=
  decide (op ≤ 4) || op == 0x0500 || decide (0x0600 ≤ op ∧ op ≤ 0x0603) || op == 0x0900 || op == 0x0901
    || decide (0x0800 ≤ op ∧ op ≤ 0x0807)

/-- Steps 7 to 10 of R415: the first failing check. -/
def State.admission (s : State) (op : Nat) (p : Packet) (lenOk : Bool) : Option Status :=
  match s.roleCheck op p with
  | some st => some st
  | none =>
    if s.bit Reg.sysBoot 4 && !bootOpcode op then some .notPermitted
    else if ¬ lenOk then some .badLength
    else if 16 ≤ s.fld (Reg.hostSess p.session) 8 5 then some .busy
    else none

/-- A packet that passes steps 1 to 6 consumes its seq; steps 7 to 10 refuse it, or its command starts with `run`, or
waits for its start (R415, R416, R418). -/
def State.accept (s : State) (op : Nat) (p : Packet) (lenOk : Bool) (run : State → State) (aid : Aid) : State :=
  let bad := s.admission op p lenOk
  let s := s.consume p
  match bad with
  | some st =>
    let s := if audited op then s.audit p.session (s.role p.session) .opcode op st.code else s
    s.answer op p st []
  | none =>
    let now := s.mayStart op p
    let s := { s with inflight := s.inflight ++ [({ opcode := op, packet := p, started := now, aid := aid, tick := s.tick } : InFlight)] }
    let s := s.put (Reg.hostSess p.session) 8 5 (s.fld (Reg.hostSess p.session) 8 5 + 1)
    if now then run s else s.append (2 * p.chan) 1 []

/-- A packet finds its command ring full: BUSY, or dropped and counted where the reply ring is full too (R418). -/
def State.turnAway (s : State) (op : Nat) (p : Packet) : State :=
  if s.replyFull p.chan then s.countUp Reg.hostDrop 0 16 1 else s.refuse op p .busy [] false

/-- A command packet of opcode `op` arrives past steps 1 to 3 of R415. -/
def State.command (s : State) (op : Nat) (p : Packet) (lenOk : Bool) (run : State → State) (aid : Aid := .none) : State :=
  if ¬ s.serves p.chan then s
  else if s.commandFull p.chan then s.turnAway op p
  else match s.judge op p with
    | .refuse st payload tagged => s.refused op p st payload tagged
    | .resend c => match c.reply with | some r => s.emit r | none => s
    | .take => s.accept op p lenOk run aid

end Sys2Proof.Machine
end

