-- ==== Sys2Proof/Machine/Access.lean ====
section
/-! DEFINITION. What an access to the device address space reaches (R5 to R9, R18 to R22, R371 to R376), and what reading
a register returns. -/

namespace Sys2Proof.Machine

/-- An address in the register blocks of R18 (log entry 51, DEDUCED). -/
def inBlocks (a : Nat) : Bool := decide (0x10000000 ≤ a ∧ a < 0x10110000)

/-- The SAFE block, a read-only mirror (R18). -/
def inSafe (a : Nat) : Bool := decide (0x10080000 ≤ a ∧ a < 0x10090000)

/-- What a read of register `a` returns: nothing for an unassigned offset (R9) or a WO register (R7), the copy that
FAB_TT_CTRL views for a slot entry (R508), the mirror's word for SAFE's state (R291, R318), the value otherwise. -/
def State.readReg (s : State) (a : Nat) : Word :=
  match regRow a with
  | none => 0
  | some r =>
    if r.access = .wo then 0
    else match slotWord a with
      | some k => sparseGet slotReset (if s.bit Reg.fabTtCtrl 1 then s.fab.shadow else s.fab.active) k
      | none => if Reg.safeStatus ≤ a ∧ a ≤ Reg.safeDiag then sparseGet resetValue s.safe.mirror a else s.rd a

/-- A read of an RC register clears it (R7). -/
def State.clearRc (s : State) (a : Nat) : State :=
  match regRow a with
  | some r => if r.access = .rc then s.wr a 0 else s
  | none => s

/-- What an address of a context stands for. -/
inductive Place where
  | sram (addr : Nat) (write : Bool)
  | reg (addr : Nat)
  /-- Host memory, by its offset in the host window (R419). -/
  | host (offset : Nat)
  | unmapped
  /-- Outside every range of R18 that holds something (R20). -/
  | unassigned
  deriving DecidableEq, Repr

/-- The context of SYSTEM, which is not translated (R371); core context c is 128 + c. -/
def systemCtx : Nat := 144

/-- Bytes of the host window of the session of context `ctx` (R419) (log entry 91, DEDUCED). -/
def State.hostWindow (s : State) (ctx : Nat) : Nat :=
  if ctx < 128 ∧ s.isOpen ctx ∧ s.sessChan ctx < 5 then s.fld (winReg (s.sessChan ctx) 0x30) 0 11 * 0x100000 else 0

/-- What address `a` of context `ctx` stands for (R22, R371, R372, R419). An address no mapping covers is unassigned
where R18 assigns it nothing, and unmapped otherwise (log entry 17, DEDUCED). -/
def State.place (s : State) (ctx a : Nat) : Place :=
  if ctx = systemCtx then
    (if a < memSize then .sram a true else if inBlocks a then .reg a else .unassigned)
  else
    match s.memx.maps.find? (fun m => m.ctx == ctx && decide (m.vaddr ≤ a) && decide (a < m.vaddr + m.size)) with
    | some m => .sram (m.daddr + (a - m.vaddr)) m.write
    | none =>
      if ctx < 128 ∧ inBlocks a then .reg a
      else if 0x80000000 ≤ a ∧ a < 0x80000000 + s.hostWindow ctx then .host (a - 0x80000000)
      else if a < memSize ∨ inBlocks a then .unmapped
      else .unassigned

end Sys2Proof.Machine
end

