-- ==== Sys2Proof/Machine/Lease.lean ====
section
/-! DEFINITION. Leases (R437 to R440), and reading, staging and discarding configuration (R430, R431, R436). -/

namespace Sys2Proof.Machine

/-! ### Leases -/

/-- The roles that may take a lease of each kind, as a mask, with the greatest index (R437). -/
def leaseKinds : Nat → Option (Nat × Nat)
  | 1 => some (0xC, 0) | 2 => some (0x4, 3) | 3 => some (0x6, 0) | 4 => some (0x4, 0)
  | 5 => some (0x4, 0) | 6 => some (0x6, 7) | 7 => some (0x4, 0) | 8 => some (0x4, 11)
  | _ => none

/-- The fabric has a surveyor (R492). -/
def State.hasSurveyor (s : State) : Bool := decide (s.fld Reg.fabNode 12 12 ≠ 0) || s.bit Reg.fabStatus 1

/-- The handle of the next grant, never 0 (R437). -/
def State.nextHandle (s : State) : Nat := if s.leaseLast + 1 = 2 ^ 16 then 1 else s.leaseLast + 1

/-- LEASE_TAKE grants: the reply's payload and lease field hold the handle. -/
def State.granted (s : State) (p : Packet) (handle : Nat) : State :=
  s.finish 0x0104 { p with lease := handle } .ok (n16 handle)

/-- LEASE_TAKE's checks in order and its grant (R437, R439, R492); `elsewhere`: another node holds the TIMETABLE lease. -/
def State.runTake (s : State) (p : Packet) (elsewhere : Bool) : State :=
  let kind := leAt p.payload 0 1
  let index := leAt p.payload 2 2
  let dur := leAt p.payload 4 4
  match leaseKinds kind with
  | none => s.finish 0x0104 p .outOfRange []
  | some (mask, top) =>
    if top < index ∨ dur < 100 ∨ 60000 < dur then s.finish 0x0104 p .outOfRange []
    else if mask / 2 ^ s.role p.session % 2 = 0 then s.finish 0x0104 p .notPermitted []
    else if kind = 7 ∧ elsewhere then s.finish 0x0104 p .leaseHeld (n8 0xFF ++ n8 0 ++ n16 0)
    else match s.leaseOn kind index with
      | some i =>
        if s.leaseSession i ≠ p.session then
          s.finish 0x0104 p .leaseHeld (n8 (s.leaseSession i) ++ n8 0 ++ n16 (s.leaseLeft i))
        else
          let s := { s with leaseDur := sparseSet (fun _ => 0) s.leaseDur i dur }
          (s.put (Reg.hostLeaseB i) 16 16 dur).granted p (s.leaseHandle i)
      | none =>
        match (List.range 256).find? (fun i => s.leaseKind i == 0) with
        | none => s.finish 0x0104 p .busy []
        | some i =>
          if kind = 7 ∧ ¬ s.hasSurveyor then s.finish 0x0104 p .notPermitted []
          else
            let h := s.nextHandle
            let s := { s with leaseLast := h, leaseDur := sparseSet (fun _ => 0) s.leaseDur i dur }
            let s := s.wr (Reg.hostLeaseA i) (word (kind + index * 2 ^ 8 + p.session * 2 ^ 24))
            let s := s.wr (Reg.hostLeaseB i) (word (h + dur * 2 ^ 16))
            let s := s.put Reg.memLease 0 9 (s.fld Reg.memLease 0 9 + 1)
            (s.put (Reg.hostSess p.session) 21 8 (s.fld (Reg.hostSess p.session) 21 8 + 1)).granted p h

/-- LEASE_TAKE (R437). -/
def execLeaseTake (p : Packet) (elsewhere : Bool) (s : State) : Host.Outcome State Fault Refusal :=
  .next (s.command 0x0104 p (decide (p.payload.length = 8)) (fun s => s.runTake p elsewhere) (.flag elsewhere))

/-- LEASE_RELEASE's checks, as for any command that needs the lease, and the end of the lease (R438, R440). -/
def State.runRelease (s : State) (p : Packet) : State :=
  let kind := leAt p.payload 0 1
  let index := leAt p.payload 2 2
  match s.leaseCheck kind index p with
  | some st => s.finish 0x0105 p st []
  | none =>
    match s.leaseOn kind index with
    | some i => (s.endLease i .release).finish 0x0105 p .ok []
    | none => s.finish 0x0105 p .notPermitted []

/-- LEASE_RELEASE (R438). -/
def execLeaseRelease (p : Packet) (s : State) : Host.Outcome State Fault Refusal :=
  .next (s.command 0x0105 p (decide (p.payload.length = 4)) (fun s => s.runRelease p))

/-- LEASE_EXPIRY (R439): at a lease tick the duration of entry `i` has passed since its grant or latest renewal. Of the
rows of one tick, renewals come before it in the queue (R30) (log entry 99, DESIGN CHOICE). -/
def execLeaseExpiry (i : Nat) (s : State) : Host.Outcome State Fault Refusal :=
  .next (if i < 256 ∧ s.leaseKind i ≠ 0 ∧ s.leaseLeft i = 0 then s.endLease i .expiry else s)

/-! ### CFG_READ -/

/-- A ledger entry of space 2 (R430). -/
def claimBytes (c : Claim) : List Byte := n8 c.kind ++ n16 c.granule ++ n8 c.ownerKind ++ n16 c.ownerIdx ++ n16 0

/-- Lane and PWM registers are staged for both lanes under lane A's address; a spill register is its own lane's (R171,
R172, R249). -/
def normReg (a : Nat) : Nat :=
  if 0x10040000 ≤ a ∧ a < 0x10050000 ∧ a ≠ Reg.laneSpillCfg 1 ∧ a ≠ Reg.laneSpillAddr 1 then a - 0x10000
  else if 0x10060000 ≤ a ∧ a < 0x10070000 then a - 0x10000
  else a

/-- What register `a` shows of a staged value `v`: its writable fields; the others read as they do now, reserved bits as
0 (R9). -/
def State.shownStaged (s : State) (a : Nat) (v : Word) : Word :=
  let m := word (match regRow a with | some r => r.mask | none => 0)
  (s.readReg a &&& ~~~m) ||| (v &&& m)

/-- The staged value of register `a`, if it is staged. -/
def State.stagedValue (s : State) (a : Nat) : Option Word :=
  (s.staging.find? (fun e => e.1 == normReg a)).map (fun e => s.shownStaged a e.2)

/-- `n` words of fixed values from `a`, each read as a MEM_READ would (R430), RC registers cleared. -/
def State.readFixed (s : State) (a : Nat) : Nat → List Byte × State
  | 0 => ([], s)
  | n + 1 =>
    let v := s.readReg a
    let (bs, t) := (s.clearRc a).readFixed (a + 4) n
    (wordBytes v ++ bs, t)

/-- CFG_READ's checks and reply (R430) (log entry 51, DEDUCED). -/
def State.runCfgRead (s : State) (p : Packet) : State :=
  let space := leAt p.payload 0 1
  let count := leAt p.payload 2 2
  let a := leAt p.payload 4 4
  if space = 2 then
    (if count = 0 ∨ 512 < count then s.finish 0x0100 p .outOfRange []
     else s.finish 0x0100 p .ok (((s.ledger.drop a).take count).flatMap claimBytes))
  else if 2 < space then s.finish 0x0100 p .outOfRange []
  else if space = 1 ∧ s.leaseCheck 1 0 p ≠ none then
    (match s.leaseCheck 1 0 p with | some st => s.finish 0x0100 p st [] | none => s)
  else if count = 0 ∨ 1024 < count ∨ a % 4 ≠ 0 ∨ ¬ inBlocks a ∨ ¬ inBlocks (a + 4 * count - 4) then
    s.finish 0x0100 p .outOfRange []
  else if space = 0 then
    let (bs, s) := s.readFixed a count
    s.finish 0x0100 p .ok bs
  else
    s.finish 0x0100 p .ok ((List.range count).flatMap (fun i =>
      wordBytes ((s.stagedValue (a + 4 * i)).getD (s.readReg (a + 4 * i)))))

/-- CFG_READ (R430). -/
def execCfgRead (p : Packet) (s : State) : Host.Outcome State Fault Refusal :=
  .next (s.command 0x0100 p (decide (p.payload.length = 8)) (fun s => s.runCfgRead p))

/-! ### CFG_WRITE and CFG_DISCARD -/

/-- A register staged by CFG_WRITE: the RW registers of the blocks (R431). -/
def isStaged (a : Nat) : Bool :=
  inBlocks a && (match regRow a with | some r => r.access == .rw | none => false)

/-- The registers of the timetable: control, cycle and slot entries (R492). -/
def isTimetable (a : Nat) : Bool := a == Reg.fabTtCtrl || a == Reg.fabTtCycle || (slotWord a).isSome

/-- Registers that CFG_WRITE refuses with NOT_PERMITTED: the SAFE block (R21), slot 0 (R487), and comparators 14 and 15
(R457). -/
def notForHost (a : Nat) : Bool :=
  inSafe a || slotWord a == some 0 || slotWord a == some 1 || decide (Reg.netCmpCfg 14 ≤ a ∧ a < Reg.netCmpCfg 16)

/-- Why one address of a CFG_WRITE is refused (R431, R492). -/
def State.stageCheck (s : State) (p : Packet) (elsewhere : Bool) (a : Nat) : Option (Status × List Byte) :=
  if notForHost a then some (.notPermitted, [])
  else if ¬ isStaged a then some (.outOfRange, n32 a)
  else
    let tb : Bool := match tbOfReg (normReg a) with
      | some t => match s.leaseOn 8 t with | some i => decide (s.leaseSession i ≠ p.session) | none => false
      | none => false
    if tb then some (.leaseHeld, [])
    else if isTimetable a then
      (if elsewhere then some (.leaseHeld, [])
       else match s.leaseOn 7 0 with
         | some i => if s.leaseSession i ≠ p.session then some (.leaseHeld, []) else none
         | none => some (.notPermitted, []))
    else none

/-- A register enters the staging area, or takes its new value in its place (R431). -/
def stage (l : List (Nat × Word)) (a : Nat) (v : Word) : List (Nat × Word) :=
  if l.any (fun e => e.1 == a) then l.map (fun e => if e.1 = a then (a, v) else e) else l ++ [(a, v)]

/-- Every word of a CFG_WRITE staged. -/
def stageAll (l : List (Nat × Word)) (a : Nat) : List Word → List (Nat × Word)
  | [] => l
  | v :: vs => stageAll (stage l (normReg a) v) (a + 4) vs

/-- CFG_WRITE's checks and effect (R431, R492). -/
def State.runCfgWrite (s : State) (p : Packet) (elsewhere : Bool) : State :=
  let a := leAt p.payload 0 4
  let n := (p.payload.length - 4) / 4
  match s.leaseCheck 1 0 p with
  | some st => s.finish 0x0101 p st []
  | none =>
    match (List.range n).findSome? (fun i => s.stageCheck p elsewhere (a + 4 * i)) with
    | some (st, payload) => s.finish 0x0101 p st payload
    | none =>
      let l := stageAll s.staging a (bytesWords n (p.payload.drop 4))
      if 4096 < l.length then s.finish 0x0101 p .busy []
      else ({ s with staging := l }).finish 0x0101 p .ok []

/-- CFG_WRITE (R431): an address and 1 to 1,023 words; `elsewhere` as for LEASE_TAKE. -/
def execCfgWrite (p : Packet) (elsewhere : Bool) (s : State) : Host.Outcome State Fault Refusal :=
  .next (s.command 0x0101 p
    (decide (8 ≤ p.payload.length) && decide (p.payload.length ≤ 4096) && decide (p.payload.length % 4 = 0))
    (fun s => s.runCfgWrite p elsewhere) (.flag elsewhere))

/-- What CFG_DISCARD does (R436). -/
def State.runDiscard (s : State) (p : Packet) : State :=
  match s.leaseCheck 1 0 p with
  | some st => s.finish 0x0103 p st []
  | none => s.emptyStaging.finish 0x0103 p .ok []

/-- CFG_DISCARD (R436). -/
def execCfgDiscard (p : Packet) (s : State) : Host.Outcome State Fault Refusal :=
  .next (s.command 0x0103 p (decide (p.payload = [])) (fun s => s.runDiscard p))

end Sys2Proof.Machine
end

