-- ==== Sys2Proof/Machine/Profile.lean ====
section
/-! DEFINITION. The profile generator (R175 to R182), computed in binary64. -/

namespace Sys2Proof.Machine

/-- Where profile output `j` stands after reset (R204). -/
def pgReset (j : Nat) : PgSt := { p := if j < 2 then to64 0x3F800000 else 0, v := 0, a := 0 }

/-- Profile output `j` in binary64. -/
def State.pg (s : State) (j : Nat) : PgSt := sparseGet pgReset s.lane.pg j

/-- Output `j` takes a state, shown in binary32 (R175). -/
def State.setPg (s : State) (j : Nat) (v : PgSt) : State :=
  let s := { s with lane := { s.lane with pg := sparseSet pgReset s.lane.pg j v } }
  (s.lwr (fun L => Reg.lanePgPos L j) (to32 v.p)).lwr (fun L => Reg.lanePgVel L j) (to32 v.v)

/-- Output `j` is placed at a binary32 position, at rest. -/
def State.loadPg (s : State) (j : Nat) (p : Word) : State := s.setPg j { p := to64 p, v := 0, a := 0 }

/-- The binary32 output `j`, as the transform stage and laws read it. -/
def State.pgOut (s : State) (j : Nat) : Word := s.lrd (fun L => Reg.lanePgPos L j)

/-- The target machine sets for output `j`, if it owns it (R182). -/
def State.machineTarget (s : State) (j : Nat) : Option Word := (s.modes.owned.find? (fun e => e.1 == j)).map Prod.snd

/-- The mode machine takes output `j` with target `t`, or moves the target of one it owns. -/
def State.own (s : State) (j : Nat) (t : Word) : State :=
  { s with modes := { s.modes with owned := sparsePut s.modes.owned j t } }

/-- Ownership of output `j` ends. -/
def State.disown (s : State) (j : Nat) : State :=
  { s with modes := { s.modes with owned := sparseErase s.modes.owned j } }

/-- The offset of output `j` (R178): the secondary values on outputs 0 and 3, in GRID_FORMING and RIDE_THROUGH only. -/
def State.pgOffset (s : State) (j : Nat) : Word :=
  if s.mode = .gridForming ∨ s.mode = .rideThrough then
    (if j = 0 then s.modes.second.offset else if j = 3 then s.modes.second.corr else 0)
  else 0

/-- sign(e)·x. -/
def withSign (e x : Nat) : Nat :=
  if fmt64.lt e 0 then fmt64.neg x else if fmt64.lt 0 e then x else 0

/-- x held to ±b. -/
def within64 (x b : Nat) : Nat := fmt64.min (fmt64.max x (fmt64.neg b)) b

/-- One step of R176 from state `g` towards `tgt` with limits v, a, j and base interval `T`, all binary64. -/
def pgStep (g : PgSt) (tgt vmax amax jmax T : Nat) : PgSt :=
  let F := fmt64
  let e := F.sub tgt g.p
  if F.eq e 0 && F.eq g.v 0 then { g with a := 0 }
  else
    let dStop := F.max (F.sub (F.abs e) (F.mul (F.abs g.v) T)) 0
    let vDes := withSign e (if F.eq amax 0 then vmax
      else F.min vmax (F.sqrt (F.mul (F.mul (to64 0x40000000) amax) dStop)))
    let aDes := F.div (F.sub vDes g.v) T
    let aDes := if F.eq amax 0 then aDes else within64 aDes amax
    let a := if F.eq jmax 0 then aDes else F.add g.a (within64 (F.sub aDes g.a) (F.mul jmax T))
    let v := within64 (F.add g.v (F.mul a T)) vmax
    let p := F.add g.p (F.mul v T)
    if F.le (F.mul (F.sub tgt p) e) 0 then { p := tgt, v := 0, a := 0 } else { p := p, v := v, a := a }

/-- The effective target of output `j` (R176). -/
def State.pgTarget (s : State) (j : Nat) : Nat :=
  let t := (s.machineTarget j).getD (s.lrd (fun L => Reg.lanePgTgt L j))
  let lo := to64 (s.rd (Reg.lanePgMin 0 j))
  let hi := to64 (s.rd (Reg.lanePgMax 0 j))
  fmt64.min (fmt64.max (fmt64.add (to64 t) (to64 (s.pgOffset j))) lo) hi

/-- Output `j` steps once (PROFILE_STEP, R176, R179). -/
def State.stepPg (s : State) (j : Nat) : State :=
  let g := s.pg j
  let vmax := to64 (s.rd (Reg.lanePgVmax 0 j))
  let T := fmt64.ofRat false s.baseInterval 1000000000
  let tgt := s.pgTarget j
  let n := pgStep g tgt vmax (to64 (s.rd (Reg.lanePgAmax 0 j))) (to64 (s.rd (Reg.lanePgJmax 0 j))) T
  let rest := fmt64.eq n.p tgt && fmt64.eq n.v 0
  (s.setPg j n).lsetBit Reg.lanePgStatus j (!rest)

/-- Whether output `j` rests on its effective target. -/
def State.pgAtRest (s : State) (j : Nat) : Bool :=
  let g := s.pg j
  fmt64.eq g.p (s.pgTarget j) && fmt64.eq g.v 0

/-- The owned bits of LANE_PG_STATUS. -/
def State.showOwned (s : State) : State :=
  s.lput Reg.lanePgStatus 16 16 (bitsOf 16 (fun j => (s.machineTarget j).isSome))

/-- Every output steps at cycle 141 of a base sample, with its offset shown (R175, R178). -/
def State.profileStep (s : State) : State :=
  let s := (s.lwr Reg.lanePgOfs0 (s.pgOffset 0)).lwr Reg.lanePgOfs3 (s.pgOffset 3)
  ((List.range 16).foldl State.stepPg s).showOwned

end Sys2Proof.Machine
end

