-- ==== Sys2Proof/Machine/Xform.lean ====
section
/-! DEFINITION. The transform stage: sources (R136, R138, R142), Clarke and Park (R146), the virtual-machine oscillator
(R147, R148), the reference stage with limiting (R149 to R153, R61, R63), the output transform (R154, R155) and the bus
quantities (R195). Formulas are evaluated from left to right in binary32, a sum of a value and a product in one fused
operation (R128; log entry 14, DEDUCED). -/

namespace Sys2Proof.Machine

open F32

/-! ### Sources -/

/-- The scaled value of channel `c` with its validity (R142, R92). -/
def State.scaled (s : State) (c : Nat) : Word × Bool :=
  let r := s.staged c
  (fma (s.rd (Reg.laneScaleGain 0 c)) (ofInt r.value) (s.rd (Reg.laneScaleOffset 0 c)), r.valid)

/-- Transform quantity 80 + `i`; 0 and valid while the stage is disabled (R146). -/
def State.quantity (s : State) (i : Nat) : Word × Bool :=
  if s.xfOn then sparseGet (fun _ => ((0 : Word), false)) s.lane.quant i else (0, true)

/-- The value of a source index with its validity (R136). -/
def State.source (s : State) (i : Nat) : Word × Bool :=
  if i < 80 then s.scaled i
  else if i < 96 then s.quantity (i - 80)
  else if i < 112 then (s.pgOut (i - 96), true)
  else if i < 144 then (s.lrd (fun L => Reg.laneEif L (i - 112)), true)
  else if i < 192 then (s.lrd (fun L => Reg.laneLawUapp L ((i - 144) / 12) ((i - 144) % 12)), true)
  else if i = 193 then (one, true) else (0, true)

/-- A discharge or charge limit in engine-interface word `w`; what is negative or not finite counts as 0 (R138). -/
def State.batteryLimit (s : State) (w : Nat) : Word :=
  let x := s.lrd (fun L => Reg.laneEif L w)
  if finite x && lt zero x then x else zero

/-! ### Parameters in force -/

/-- The rated frequency in Hz and its base speed (R173). -/
def State.fBase (s : State) : Nat := if s.bit (Reg.laneXfRate0 0) 14 then 60 else 50
def State.omegaBase (s : State) : Word := piRat (2 * s.fBase) 1

/-- The sample period of vmo_law in seconds (R139). -/
def State.vmoPeriod (s : State) : Word :=
  rat (s.baseInterval * (s.fld (Reg.laneLawRate 0 s.vmoLaw) 0 8 + 1)) 1000000000

/-- A filter factor T / (τ + T) with τ in 0.1 ms; 1 when τ is 0 (R147). -/
def filterFactor (T : Word) (tau : Nat) : Word := if tau = 0 then one else div T (add (rat tau 10000) T)

/-- k_m = √2·V_r / (√3·V_dc,base) (R154). -/
def State.kM (s : State) : Word :=
  let v := s.fld (Reg.laneXfRate1 0) 0 10
  let d := s.fld (Reg.laneXfRate1 0) 16 11
  sqrtRat (2 * v * v) (3 * d * d)

/-- I_lim and the exit fraction (R59, R63). -/
def State.iLim (s : State) : Word := rat (s.fld (Reg.laneXfLim 0) 0 9) 100
def State.exitFraction (s : State) : Word := rat (s.fld (Reg.laneXfLim 0) 25 7) 100

/-! ### Input transforms -/

/-- Magnitude of a vector. -/
def magnitude (d q : Word) : Word := F32.sqrt (fma q q (mul d d))

/-- Clarke and Park transform of phase values at angle θ (R146). -/
def park (a b c : Word) (theta : Nat) : Word × Word :=
  let al := div (sub (fma 0x40000000 a (F32.neg b)) c) 0x40400000
  let be := div (sub b c) (sqrtRat 3 1)
  let co := cosTurn theta
  let si := sinTurn theta
  (fma be si (mul al co), fma be co (mul (F32.neg al) si))

/-- Input triple `k` in this sample: its last valid dq value is kept while it is invalid (R153); a triple that is not
enabled gives none (log entry 14, DEDUCED). -/
def State.triple (s : State) (k theta : Nat) : Dq :=
  let w := s.rd (Reg.laneXfTri 0 k)
  let a := s.scaled (field w 0 7)
  let b := s.scaled (field w 8 7)
  let c := s.scaled (field w 16 7)
  let old := sparseGet (fun _ => Dq.none) s.lane.dq k
  if field w 31 1 = 0 then Dq.none
  else if a.2 && b.2 && c.2 then
    let (d, q) := park a.1 b.1 c.1 theta
    { d := d, q := q, valid := true }
  else { old with valid := false }

/-! ### The virtual-machine step and the reference stage -/

/-- The vector limit of R61 on (i_a, i_r). -/
def State.vectorLimit (s : State) (ia ir : Word) : Word × Word :=
  let lim := s.iLim
  let kap := rat (s.fld (Reg.laneXfLim 0) 16 9) 256
  let held := fun (x m : Word) => let y := F32.min (F32.abs x) m; if lt x zero then F32.neg y else y
  let room := fun (x : Word) => F32.sqrt (F32.max (fma (F32.neg x) x (mul lim lim)) zero)
  let ir1 := held ir (mul kap lim)
  let ia' := held ia (room ir1)
  (ia', held ir (room ia'))

/-- (a + jb) / (R + jX) (R149). -/
def complexDiv (a b r x : Word) : Word × Word :=
  let den := fma x x (mul r r)
  (div (fma x b (mul r a)) den, div (fma (F32.neg x) a (mul r b)) den)

/-- Results of one transform sample. -/
structure XfOut where
  dq : List Dq
  pf : Word
  qf : Word
  phi : Word
  phiOk : Bool
  omegaBf : Word
  omega : Word
  theta : Word
  rotor : Nat
  e : Word
  vmag : Word
  iu : Word
  inn : Word
  iRefD : Word
  iRefQ : Word
  deriving DecidableEq, Repr

/-- The transform stage at one sample of vmo_law (R146 to R153) (log entry 14, DEDUCED; log entry 56, DEDUCED). -/
def State.xfCompute (s : State) : XfOut :=
  let theta := s.lrd Reg.laneXfTheta
  let w := s.lrd Reg.laneXfOmega
  let T := s.vmoPeriod
  let v := s.triple 0 theta.toNat
  let i := s.triple 1 theta.toNat
  let vb := s.triple 2 theta.toNat
  let ig := s.triple 3 theta.toNat
  let pe := fma v.q i.q (mul v.d i.d)
  let qe := fma (F32.neg v.d) i.q (mul v.q i.d)
  let vmag := magnitude v.d v.q
  let aPq := filterFactor T (s.fld (Reg.laneXfFilt 0) 0 10)
  let aB := filterFactor T (s.fld (Reg.laneXfFilt 0) 16 10)
  let pf0 := s.lrd Reg.laneXfPf
  let qf0 := s.lrd Reg.laneXfQf
  let pf := if v.valid then fma aPq (sub pe pf0) pf0 else pf0
  let qf := if v.valid then fma aPq (sub qe qf0) qf0 else qf0
  let alive := le 0x3D4CCCCD vmag
  let phi := F32.atan2 v.q v.d
  let wbRaw := if alive && s.lane.phiOk then
      add w (div (F32.wrap (sub phi s.lane.phiPrev)) (mul s.omegaBase T)) else w
  let omegaBf := if v.valid then fma aB (sub wbRaw s.lane.omegaBf) s.lane.omegaBf else s.lane.omegaBf
  let mp0 := s.fld (Reg.laneXfGf1 0) 0 10
  let mp := if s.mode = .synchronise ∧ mp0 < 100 then 100 else mp0
  let pSet := s.pgOut 2
  let pDis := s.batteryLimit 30
  let pChg := s.batteryLimit 31
  let pm := if mp = 0 then pSet else sub pSet (div (sub w (s.pgOut 0)) (rat mp 10000))
  let pm := clamp pm (F32.neg pChg) pDis
  let tq := fma (F32.neg (rat (s.fld (Reg.laneXfGf0 0) 16 11) 10)) (sub w omegaBf) (sub pm pf)
  let w1 := fma (div T (mul 0x40000000 (rat (s.fld (Reg.laneXfGf0 0) 0 11) 100))) tq w
  let lo : Word := 0x3F666666
  let hi : Word := 0x3F8CCCCD
  let rotor := if le w1 lo then 1 else if le hi w1 then 2 else 0
  let w1 := clamp w1 lo hi
  let step := round (mul (mul (mul (ofInt s.fBase) T) w1) two32)
  let theta1 := word (((theta.toNat : Int) + step) % 2 ^ 32).toNat
  let mq := rat (s.fld (Reg.laneXfGf1 0) 16 10) 10000
  let e := clamp (fma (F32.neg mq) (sub qf (s.pgOut 3)) (s.pgOut 1)) zero 0x3F99999A
  let z := s.rd (Reg.laneXfZv 0)
  let zrt := s.rd (Reg.laneXfZrt 0)
  let rn := rat (field z 0 10) 1000
  let xn := mul (rat (field z 16 10) 1000) w
  let ed := sub e v.d
  let eq := F32.neg v.q
  let iN := complexDiv ed eq rn xn
  let iU := if s.limiting then complexDiv ed eq (rat (field zrt 0 10) 1000) (mul (rat (field zrt 16 10) 1000) w) else iN
  let (ia, ir) := if s.limiting then s.vectorLimit iU.1 (F32.neg iU.2) else (iU.1, F32.neg iU.2)
  let vm := F32.max vmag 0x3DCCCCCD
  let ia := clamp ia (div (F32.neg pChg) vm) (div pDis vm)
  { dq := [v, i, vb, ig], pf := pf, qf := qf, phi := if v.valid ∧ alive then phi else s.lane.phiPrev,
    phiOk := if v.valid then alive else s.lane.phiOk, omegaBf := omegaBf, omega := w1, theta := theta1, rotor := rotor,
    e := e, vmag := vmag, iu := magnitude iU.1 iU.2, inn := magnitude iN.1 iN.2, iRefD := ia, iRefQ := F32.neg ir }

/-- The transform quantities 80 to 95 of a sample (R146). -/
def State.xfQuantities (s : State) (x : XfOut) : List (Word × Bool) :=
  let t := fun k => (x.dq[k]?).getD Dq.none
  let v := t 0
  let i := t 1
  [(v.d, v.valid), (v.q, v.valid), (i.d, i.valid), (i.q, i.valid), ((t 2).d, (t 2).valid), ((t 2).q, (t 2).valid),
   ((t 3).d, (t 3).valid), ((t 3).q, (t 3).valid), (x.pf, v.valid && i.valid), (x.qf, v.valid && i.valid),
   (x.vmag, v.valid), (s.lrd Reg.laneXfOmega, true), (x.omegaBf, v.valid), (x.e, true), (x.iRefD, v.valid),
   (x.iRefQ, v.valid)]

/-- The first transform result that is not finite (R129). -/
def firstBad (l : List Word) : Option Nat := l.findIdx? (fun x => !finite x)

/-- The bus quantities of R195 after a transform sample. -/
def State.busStep (s : State) (x : XfOut) : State :=
  let v := (x.dq[0]?).getD Dq.none
  let vb := (x.dq[2]?).getD Dq.none
  let vbmag := magnitude vb.d vb.q
  let T := s.vmoPeriod
  let term := if le 0x3D4CCCCD x.vmag then F32.atan2 v.q v.d else zero
  let dphi := F32.wrap (sub (F32.atan2 vb.q vb.d) term)
  let df0 := s.lrd Reg.laneModeDf
  let aB := filterFactor T (s.fld (Reg.laneXfFilt 0) 16 10)
  let s := (s.lwr Reg.laneModeVb vbmag).lwr Reg.laneModeDphi dphi
  if vb.valid ∧ v.valid then
    let s := match s.lane.dphiPrev with
      | some p => s.lwr Reg.laneModeDf (fma aB (sub (div (F32.wrap (sub dphi p)) (mul (piRat 2 1) T)) df0) df0)
      | none => s
    { s with lane := { s.lane with dphiPrev := some dphi } }
  else { s with lane := { s.lane with dphiPrev := none } }

/-- ROTOR_LIMIT once while the rotor stays at a clamp (R48). -/
def State.rotorLimit (s : State) (c : Nat) : State :=
  let old := s.lane.rotor
  let s := { s with lane := { s.lane with rotor := c } }
  let s := s.lsetBit Reg.laneStatus 3 (decide (c ≠ 0))
  if c ≠ 0 ∧ c ≠ old then s.raiseLane 5 [] else s

/-- limit_reached and its event (R150): once per run, and never while limiting is in force. -/
def State.limitReached (s : State) (iu : Word) : State :=
  let now := !s.limiting && lt s.iLim iu
  let old := s.lane.limitReached
  let s := { s with lane := { s.lane with limitReached := now } }
  if now && !old then s.raiseLane 6 [] else s

/-- The exit test of R63, on |i_n| and only while limiting is in force (R151). -/
def State.exitTest (s : State) (inn : Word) : State :=
  let ok := s.limiting && le inn (mul s.exitFraction s.iLim)
  { s with lane := { s.lane with exitCount := if ok then s.lane.exitCount + 1 else 0 } }

/-- The transform stage runs one sample: its registers, quantities and flags, and the first non-finite result. -/
def State.xfStep (s : State) : State × Option Nat :=
  let x := s.xfCompute
  let q := s.xfQuantities x
  let s := { s with lane := { s.lane with
    dq := (x.dq.zipIdx).map (fun (e : Dq × Nat) => (e.2, e.1)),
    quant := (q.zipIdx).map (fun (e : (Word × Bool) × Nat) => (e.2, e.1)),
    phiPrev := x.phi, phiOk := x.phiOk, omegaBf := x.omegaBf, vmag := x.vmag } }
  let s := ((s.lwr Reg.laneXfOmega x.omega).lwr Reg.laneXfTheta x.theta).lwr Reg.laneXfPf x.pf
  let s := ((s.lwr Reg.laneXfQf x.qf).lwr Reg.laneXfE x.e).lwr Reg.laneXfImag x.iu
  let s := s.lwr Reg.laneXfInmag x.inn
  let s := ((s.rotorLimit x.rotor).limitReached x.iu).exitTest x.inn
  (s.busStep x, firstBad (q.map Prod.fst ++ [x.omega, x.iu, x.inn]))

/-! ### The output transform -/

/-- The modulation limit of R155: (v_d*, v_q*) scaled down to it. -/
def State.modulationLimit (s : State) (vd vq vdc : Word) : Word × Word :=
  let m := s.rd (Reg.laneXfMod 0)
  let mMax := rat (field m 1 7) 100
  let mLim := if field m 0 1 = 1 then div mMax (sqrtRat 3 1) else div mMax 0x40000000
  let lim := div (mul mLim (F32.max vdc 0x3E4CCCCD)) s.kM
  let mag := magnitude vd vq
  if lt lim mag then (mul vd (div lim mag), mul vq (div lim mag)) else (vd, vq)

/-- The three duties of the output transform at the advanced angle (R154, R155), before the clamp. `theta` and `omega`
are θ[k] and ω[k] of the sample. -/
def State.duties (s : State) (vd vq vdc theta omega : Word) : List Word :=
  let m := s.rd (Reg.laneXfMod 0)
  let tAdv := mul (rat (field m 8 10) 256) s.vmoPeriod
  let adv := round (mul (mul (mul (ofInt s.fBase) tAdv) omega) two32)
  let th := (((theta.toNat : Int) + adv) % 2 ^ 32).toNat
  let co := cosTurn th
  let si := sinTurn th
  let al := fma (F32.neg vq) si (mul vd co)
  let be := fma vq co (mul vd si)
  let h := sqrtRat 3 4
  let ph := [al, fma h be (mul 0xBF000000 al), fma (F32.neg h) be (mul 0xBF000000 al)]
  let top := ph.foldl F32.max al
  let bot := ph.foldl F32.min al
  let z := if field m 0 1 = 1 then mul 0xBF000000 (add top bot) else zero
  ph.map (fun v => add 0x3F000000 (div (mul s.kM (add v z)) (F32.max vdc 0x3E4CCCCD)))

/-- A duty as a compare value of unit `u`: d × P to the nearest 1/16 cycle (R155). -/
def State.compareOf (s : State) (u : Nat) (d : Word) : Nat :=
  let t := s.unitTb u
  match fmt32.decode (clamp d zero one).toNat with
  | .fin _ m e => roundAt (m * (16 * s.tbInt t + s.tbFrac t)) e 0 false
  | _ => 0

/-- A compare value is staged for unit `u` in both generators (R233). -/
def State.stageUnit (s : State) (u c : Nat) : State := s.lwr (fun l => Reg.pwmCuStaged l u) (word (c + 2 ^ 31))

/-- A staged value of unit `u` is withdrawn before it loads (R129, R185). -/
def State.unstage (s : State) (u : Nat) : State := s.setBitBoth (fun l => Reg.pwmCuStaged l u) 31 false

end Sys2Proof.Machine
end

