-- ==== Sys2Proof/Machine/Control.lean ====
section
/-! DEFINITION. The control laws at one sample (R131 to R145): dot products, innovations and outputs, the limits that
give the applied outputs, the observer update with integrator correction, holds (R162 to R166), measurement validity
(R137) and the compares a sample stages (R144, R155). -/

namespace Sys2Proof.Machine

open F32

/-! ### Dot products -/

/-- Chain `k` of R133: the terms whose position is `k` modulo 4, accumulated in ascending position (log entry 14,
DEDUCED). -/
def chain (init : Word) (k : Nat) (terms : List (Word × Word)) : Word :=
  (terms.zipIdx).foldl (fun acc (e : (Word × Word) × Nat) => if e.2 % 4 = k then fma e.1.1 e.1.2 acc else acc) init

/-- A dot product by R133 (log entry 14, DEDUCED). -/
def dot (init : Word) (terms : List (Word × Word)) : Word :=
  add (add (chain init 0 terms) (chain zero 1 terms)) (add (chain zero 2 terms) (chain zero 3 terms))

/-! ### Dimensions and operands -/

def State.nx (s : State) (l : Nat) : Nat := s.fld (Reg.laneLawCfg 0 l) 1 5
def State.ny (s : State) (l : Nat) : Nat := s.fld (Reg.laneLawCfg 0 l) 6 5
def State.nu (s : State) (l : Nat) : Nat := s.fld (Reg.laneLawCfg 0 l) 11 4
def State.nr (s : State) (l : Nat) : Nat := s.fld (Reg.laneLawCfg 0 l) 15 4

/-- The source index of measurement `i`, of set-point `m`. -/
def State.measSrc (s : State) (l i : Nat) : Nat := s.fld (Reg.laneLawMeas 0 l (i / 4)) (i % 4 * 8) 8
def State.setpSrc (s : State) (l m : Nat) : Nat := s.fld (Reg.laneLawSetp 0 l (m / 4)) (m % 4 * 8) 8

/-- State `i` and applied output `j` of law `l`. -/
def State.xhat (s : State) (l i : Nat) : Word := s.lrd (fun L => Reg.laneLawXhat L l i)
def State.uapp (s : State) (l j : Nat) : Word := s.lrd (fun L => Reg.laneLawUapp L l j)

/-- Destination and compare unit of output `j`. -/
def State.outDest (s : State) (l j : Nat) : Nat := s.fld (Reg.laneLawOut 0 l j) 0 2
def State.outUnit (s : State) (l j : Nat) : Nat := s.fld (Reg.laneLawOut 0 l j) 8 6

/-- The measurements and set-points of a law at this sample, each with its validity. -/
def State.measures (s : State) (l : Nat) : List (Word × Bool) :=
  (List.range (s.ny l)).map (fun i => s.source (s.measSrc l i))
def State.setpoints (s : State) (l : Nat) : List (Word × Bool) :=
  (List.range (s.nr l)).map (fun m => s.source (s.setpSrc l m))

/-- Whether every measurement and set-point of law `l` is valid. -/
def State.inputsValid (s : State) (l : Nat) : Bool :=
  (s.measures l).all Prod.snd && (s.setpoints l).all Prod.snd

/-- Set-point `m` as law `l` uses it: its last valid value while it is invalid (R137) (log entry 106, DESIGN CHOICE). -/
def State.setpUsed (s : State) (l m : Nat) : Word :=
  let v := s.source (s.setpSrc l m)
  if v.2 then v.1 else sparseGet (fun _ => 0) (s.law l).setp m

/-! ### Innovations and outputs -/

/-- Innovation `i` of law `l`; 0 while the measurement is invalid (R133, R137). -/
def State.innovation (s : State) (l i : Nat) : Word :=
  let v := s.source (s.measSrc l i)
  if v.2 then
    dot v.1 ((List.range (s.nx l)).map (fun j => (F32.neg (s.coef l (1248 + i * 24 + j)), s.xhat l j)))
  else zero

/-- Output `j` of law `l` before limits (R133). -/
def State.lawOutput (s : State) (l j : Nat) : Word :=
  dot zero ((List.range (s.nr l)).map (fun m => (s.coef l (1920 + j * 8 + m), s.setpUsed l m))
    ++ (List.range (s.nx l)).map (fun i => (F32.neg (s.coef l (1632 + j * 24 + i)), s.xhat l i)))

/-- The v_dc source of LANE_XF_OUT in this sample; its value is used whether or not it is valid. -/
def State.vdcNow (s : State) : Word × Bool := s.source (s.fld (Reg.laneXfOut 0) 24 8)

/-- The law and output routed to v_d* (`dest` 2) or v_q* (`dest` 3), if any (R140) (log entry 27, DEDUCED). -/
def State.routed (s : State) (dest : Nat) : Option (Nat × Nat) :=
  (((List.range 4).filter s.lawOn).flatMap (fun l =>
    ((List.range (s.nu l)).filter (fun j => s.outDest l j == dest)).map (fun j => (l, j)))).head?

/-- Results of one law at one sample: innovations, outputs, applied outputs. -/
structure LawOut where
  law : Nat
  e : List Word
  u : List Word
  deriving DecidableEq, Repr

def State.lawFront (s : State) (l : Nat) : LawOut :=
  { law := l, e := (List.range (s.ny l)).map (s.innovation l), u := (List.range (s.nu l)).map (s.lawOutput l) }

/-- Output `j` of law `l` among computed ones; a law that does not compute keeps what it applied. -/
def State.vectorPart (s : State) (outs : List LawOut) (dest : Nat) : Word :=
  match s.routed dest with
  | some (l, j) =>
    match outs.find? (fun o => o.law == l) with
    | some o => (o.u[j]?).getD zero
    | none => s.uapp l j
  | none => zero

/-- The applied outputs of one law: its limits, or the modulation limit for the routed vector (R134, R155). -/
def State.applied (s : State) (v : Word × Word) (o : LawOut) : List Word :=
  (o.u.zipIdx).map (fun (e : Word × Nat) =>
    match s.outDest o.law e.2 with
    | 2 => v.1
    | 3 => v.2
    | _ => clamp e.1 (s.rd (Reg.laneLawUmin 0 o.law e.2)) (s.rd (Reg.laneLawUmax 0 o.law e.2)))

/-! ### Observer update -/

/-- State `i` of law `l` after the observer update, back-calculation and clamp (R133, R135) (log entry 108, DESIGN
CHOICE). -/
def State.nextX (s : State) (o : LawOut) (ua : List Word) (i : Nat) : Word :=
  let l := o.law
  let x := dot zero ((List.range (s.nx l)).map (fun j => (s.coef l (i * 24 + j), s.xhat l j))
    ++ (ua.zipIdx).map (fun (e : Word × Nat) => (s.coef l (576 + i * 12 + e.2), e.1))
    ++ (o.e.zipIdx).map (fun (e : Word × Nat) => (s.coef l (864 + i * 16 + e.2), e.1)))
  if s.bit (Reg.laneLawInteg 0 l) i then
    let link := s.rd (Reg.laneLawIntLink 0 l i)
    let k := field link 0 4
    let x := if field link 4 1 = 1 then
        fma (s.rd (Reg.laneLawIntBeta 0 l i)) (sub ((ua[k]?).getD zero) ((o.u[k]?).getD zero)) x
      else x
    clamp x (s.rd (Reg.laneLawIntLo 0 l i)) (s.rd (Reg.laneLawIntHi 0 l i))
  else x

/-- A law's new states and applied outputs enter its registers. -/
def State.putLaw (s : State) (l : Nat) (xs ua : List Word) : State :=
  let s := (xs.zipIdx).foldl (fun s (e : Word × Nat) => s.lwr (fun L => Reg.laneLawXhat L l e.2) e.1) s
  (ua.zipIdx).foldl (fun s (e : Word × Nat) => s.lwr (fun L => Reg.laneLawUapp L l e.2) e.1) s

/-- The first non-finite value of a law's sample: (stage, row) (R129). -/
def lawBad (o : LawOut) (xs : List Word) : Option (Nat × Nat) :=
  match firstBad o.e with
  | some i => some (0, i)
  | none => match firstBad o.u with
    | some j => some (0, j)
    | none => (firstBad xs).map (fun i => (1, i))

/-! ### Holds and validity -/

/-- The start of a due sample of law `l`: its count, its words, and the hold it begins, continues or ends (R160, R162,
R163, R165). -/
def State.beginSample (s : State) (l : Nat) : State :=
  let s := s.lwr (fun L => Reg.laneLawSample L l) (s.lrd (fun L => Reg.laneLawSample L l) + 1)
  let s := s.countSource (0x8010 + l) 1
  let s := s.applyWords l
  let v := s.law l
  let left := s.lfld (fun L => Reg.laneLawStatus L l) 2 7
  match v.holdDue with
  | some n => (s.setLaw l { v with holdDue := none }).setHeld l true (n - 1)
  | none =>
    if s.lawHeld l then
      if left = 0 then (s.setLaw l { v with expired := true }).setHeld l false 0
      else s.setHeld l true (left - 1)
    else s

/-- Whether law `l` computes in a due sample: it is not held, and the mode is not OFF (R163, R183). -/
def State.lawComputes (s : State) (l : Nat) : Bool := !s.lawHeld l && decide (s.mode ≠ .off)

/-- The run of due samples with an invalid measurement or set-point (R137). -/
def State.judgeInputs (s : State) (l : Nat) : State :=
  let v := s.law l
  if s.inputsValid l then s.setLaw l { v with invalid := 0, limitDone := false }
  else
    let s := s.setLaw l { v with invalid := v.invalid + 1 }
    if v.invalid = 0 then s.raiseLane 3 [] else s

/-- The last valid set-points of law `l`, over every due sample (R137). -/
def State.keepSetpoints (s : State) (l : Nat) : State :=
  (List.range (s.nr l)).foldl (fun s m =>
    let v := s.source (s.setpSrc l m)
    if v.2 then s.setLaw l { s.law l with setp := sparsePut (s.law l).setp m v.1 } else s) s

/-! ### Staging -/

/-- The compare units that outputs of law `l` drive, each with the applied duty. -/
def State.lawUnits (s : State) (l : Nat) : List (Nat × Word) :=
  ((List.range (s.nu l)).filter (fun j => s.outDest l j == 1)).map (fun j => (s.outUnit l j, s.uapp l j))

/-- The units of the AC stage's phases a, b, c. -/
def State.acUnits (s : State) : List Nat :=
  [s.fld (Reg.laneXfOut 0) 0 6, s.fld (Reg.laneXfOut 0) 8 6, s.fld (Reg.laneXfOut 0) 16 6]

/-- Every unit that base sample `n` stages (R144). -/
def State.sampleUnits (s : State) (n : Nat) : List Nat :=
  ((List.range 4).filter (fun l => s.lawDue l n)).flatMap (fun l => (s.lawUnits l).map Prod.fst)
    ++ (if s.xfOn && s.lawDue s.vmoLaw n then s.acUnits else [])

/-- The compares of the latest base sample are not loaded (R129, R165, R185). -/
def State.withholdSample (s : State) : State :=
  (s.sampleUnits (s.lrd Reg.laneSample).toNat).foldl State.unstage s

/-- The stage's units of `p` are withdrawn before they load (R185). -/
def State.withholdWhere (s : State) (p : Nat → Bool) : State :=
  ((List.range 48).filter p).foldl State.unstage s

/-- A unit's duty enters its staging, with the release of a stage that starts switching (R144, R185). -/
def State.stageDuty (s : State) (u : Nat) (d : Word) : State :=
  let s := s.stageUnit u (s.compareOf u d)
  let s := if s.inAc u && s.modes.stage.acStart then
      { s with modes := { s.modes with stage := { s.modes.stage with acStart := false, acReleased := false } } } else s
  if s.inDc u && s.modes.stage.dcStart then
    { s with modes := { s.modes with stage := { s.modes.stage with dcStart := false, dcReleased := false } } } else s

/-! ### The laws and the output transform of one base sample -/

/-- LAW_NUMERIC (R129): the register shows law, stage and row of the first non-finite value. -/
def State.lawNumeric (s : State) (law stage row : Nat) : State :=
  (s.lwr Reg.laneNumeric (word (law % 4 + stage * 4 + row % 32 * 16))).raiseLane 2 []

/-- The due laws compute: every output first, then every update (R133, R134). -/
def State.runLaws (s : State) (ls : List Nat) : State × Option (Nat × Nat × Nat) :=
  let outs := ls.map s.lawFront
  let v := s.modulationLimit (s.vectorPart outs 2) (s.vectorPart outs 3) s.vdcNow.1
  let res := outs.map (fun o =>
    let ua := s.applied v o
    (o, ua, (List.range (s.nx o.law)).map (s.nextX o ua)))
  let bad := res.findSome? (fun e => (lawBad e.1 e.2.2).map (fun b => (e.1.law, b.1, b.2)))
  (res.foldl (fun s e => s.putLaw e.1.law e.2.2 e.2.1) s, bad)

/-- v_dc of the present base sample is kept: a source of an applied output gives the latest completed sample's (R136). -/
def State.keepVdc (s : State) : State :=
  let v := s.vdcNow
  { s with modes := { s.modes with vdc := v.1, vdcValid := v.2 } }

/-- The output transform of a sample of vmo_law whose aperture had angle `theta` and speed `omega` (R154, R155). -/
def State.outputDuties (s : State) (theta omega : Word) : List Word :=
  match s.routed 2, s.routed 3 with
  | some d, some q => s.duties (s.uapp d.1 d.2) (s.uapp q.1 q.2) s.modes.vdc theta omega
  | _, _ => []

/-- The engine and transform stage of base sample `n`: transform, laws, output transform and staging. Answers the first
non-finite value as (law, stage, row). -/
def State.runSample (s : State) (n : Nat) : State × Option (Nat × Nat × Nat) :=
  let due := (List.range 4).filter (fun l => s.lawDue l n)
  let s := due.foldl State.beginSample s
  let vmo := s.xfOn && s.lawDue s.vmoLaw n
  let theta := s.lrd Reg.laneXfTheta
  let omega := s.lrd Reg.laneXfOmega
  let (s, xbad) := if vmo then
      let (t, b) := s.xfStep
      (t, b.map (fun i => (t.vmoLaw, 2, i)))
    else (s, none)
  let s := (due.foldl (fun s l => (s.judgeInputs l).keepSetpoints l) s).keepVdc
  let (s, lbad) := s.runLaws (due.filter s.lawComputes)
  let duties := if vmo then s.outputDuties theta omega else []
  let dbad := (firstBad duties).map (fun i => (s.vmoLaw, 3, i))
  let bad := xbad.orElse (fun _ => lbad.orElse (fun _ => dbad))
  let s := due.foldl State.showCoefCrc s
  match bad with
  | some (l, st, r) => (s.lawNumeric l st r, bad)
  | none =>
    let s := (due.flatMap s.lawUnits).foldl (fun s e => s.stageDuty e.1 e.2) s
    (((s.acUnits.zip duties)).foldl (fun s e => s.stageDuty e.1 e.2) s, none)

end Sys2Proof.Machine
end

