-- ==== Sys2Proof/Machine/Permit.lean ====
section
/-! DEFINITION. Which configuration changes a converter mode bars (R45, R89, R121, R172, R204, R248, R250, R266, R282):
FIX refuses them, and R435 holds an entry into such a mode back while one is accepted and has not applied. -/

namespace Sys2Proof.Machine

/-- Registers whose change R45 permits in OFF only. -/
def offOnly (a : Nat) : Bool := a == Reg.laneXfRate0 0 || a == Reg.laneXfRate1 0

/-- Registers whose every change R172, R204 and R282 permit in OFF and STANDBY only. -/
def quietOnly (a : Nat) : Bool :=
  a == Reg.laneSched 0 || a == Reg.laneXfCfg 0 || a == Reg.laneXfOut 0 || a == Reg.laneModeCfg 0
    || isIdx (Reg.laneXfTri 0 0) 4 4 a
    || (decide (0x10031000 ≤ a ∧ a < 0x10032000) &&
        (let o := a % 0x400
         o == 0 || o == 4 || decide (0x18 ≤ o ∧ o < 0x60)))
    || decide (0x10070100 ≤ a ∧ a < 0x10070200)

/-- The lane reads channel `c`: a law names it, an enabled input triple holds it while the transform stage is
enabled, or it is the v_dc source (R89). -/
def State.laneReads (s : State) (c : Nat) : Bool :=
  (List.range 4).any (fun l =>
      (List.range (s.ny l)).any (fun i => s.measSrc l i == c) || (List.range (s.nr l)).any (fun m => s.setpSrc l m == c))
    || (s.xfOn && (List.range 4).any (fun k => s.bit (Reg.laneXfTri 0 k) 31 &&
        [0, 8, 16].any (fun i => s.fld (Reg.laneXfTri 0 k) i 7 == c)))
    || s.fld (Reg.laneXfOut 0) 24 8 == c

/-- A change of group `g`'s channel set, timebase or edge selection (R89). -/
def groupRetimed (o n : State) (g : Nat) : Bool :=
  let chans (s : State) : List Nat := if s.groupOn g then s.groupChans g else []
  (decide (chans o ≠ chans n) || decide (o.fld (Reg.convGrpCfg g) 1 6 ≠ n.fld (Reg.convGrpCfg g) 1 6))
    && (chans o ++ chans n).any o.laneReads

/-- Timebase `t` serves the schedule, an enabled group or a driven unit (R250). -/
def State.tbServes (s : State) (t : Nat) : Bool :=
  s.fld (Reg.laneSched 0) 0 4 == t
    || (List.range 16).any (fun g => s.groupOn g && s.groupTb g == t)
    || (List.range 48).any (fun u => s.driven u && s.unitTb u == t)

/-- The changes of R250, from configuration `o` to `n`. -/
def pwmBarred (o n : State) (a : Nat) : Bool :=
  (match tbOfAddr a with | some t => decide ((a - 0x10050100) % 0x40 < 0x0C) && o.tbServes t | none => false)
    || (match idxOf (Reg.pwmCuCfg 0 0) 0x10 48 a with | some u => o.driven u | none => false)
    || (match idxOf (Reg.pwmPairCfg 0 0) 4 24 a with
        | some p => (o.driven (2 * p) || o.driven (2 * p + 1)) && decide (o.fld a 0 2 ≠ n.fld a 0 2)
        | none => false)
where
  tbOfAddr (a : Nat) : Option Nat :=
    if 0x10050100 ≤ a ∧ a < 0x10050400 then some ((a - 0x10050100) / 0x40) else none

/-- The changes of R282 to fields of a gate channel and of a pair. -/
def gateBarred (o n : State) (a : Nat) : Bool :=
  (isIdx (Reg.gateChCfg 0) 0x20 48 a && decide (o.fld a 0 1 ≠ n.fld a 0 1))
    || (isIdx (Reg.gatePairCfg 0) 4 24 a && decide (o.fld a 0 2 ≠ n.fld a 0 2))

/-- Mode `m` bars the change of register `a` from configuration `o` to `n`. -/
def barredIn (o n : State) (m : Mode) (a : Nat) : Bool :=
  decide (o.rd a ≠ n.rd a) &&
    ((decide (m ≠ .off) && (offOnly a || (a == Reg.pwmCtrl 0 && o.bit a 0 && !n.bit a 0)))
      || (decide (m ≠ .off ∧ m ≠ .standby) &&
          (quietOnly a || pwmBarred o n a || gateBarred o n a
            || (match idxOf (Reg.filtChCfg 0) 4 80 a with | some c => o.laneReads c | none => false)
            || (if 0x10010100 ≤ a ∧ a < 0x10010300 then groupRetimed o n ((a - 0x10010100) / 0x20) else false))))

/-- Register `a` of a configuration made `v`, in both lanes or generators where they share it (R172, R249). -/
def State.wrConfig (s : State) (a : Nat) (v : Word) : State :=
  let s := s.wrRw a v
  if (0x10030000 ≤ a ∧ a < 0x10040000 ∧ a ≠ Reg.laneSpillCfg 0 ∧ a ≠ Reg.laneSpillAddr 0)
      ∨ (0x10050000 ≤ a ∧ a < 0x10060000) then s.wrRw (a + 0x10000) v else s

/-- The configuration that the accepted FIX sets still pending leave: their registers at their fixed values (R433). -/
def State.fixedView (s : State) : State :=
  s.fixes.foldl (fun s x => x.items.foldl (fun s e => s.wrConfig e.1 e.2) s) s

/-- Whether an accepted FIX set still pending holds back an entry into mode `m` from mode `now` (R435). -/
def State.fixBars (s : State) (now m : Mode) : Bool :=
  s.hasItem (fun a => barredIn s s.fixedView m a && !barredIn s s.fixedView now a)

end Sys2Proof.Machine
end

