-- ==== Sys2Proof/Machine/Modes.lean ====
section
/-! DEFINITION. The mode machine: elapsed times and bus decisions (R184, R193 to R196), breaker commands (R198), stages
and the gate-enable request (R185), entries into modes with their preset loads (R186), SAFELIGHT causes (R191) and the
decision of one decision point (R184, R188, R200 to R203). -/

namespace Sys2Proof.Machine

open F32

/-! ### Parts of the state -/

def State.setWait (s : State) (w : WaitSt) : State := { s with modes := { s.modes with wait := w } }
def State.setBrk (s : State) (b : BrkSt) : State := { s with modes := { s.modes with brk := b } }
def State.setStop (s : State) (p : StopSt) : State := { s with modes := { s.modes with stop := p } }
def State.setStage (s : State) (g : StageSt) : State := { s with modes := { s.modes with stage := g } }

/-- Bits of LANE_MODE. -/
def State.unloading (s : State) : Bool := s.lbit Reg.laneMode 12
def State.busDead (s : State) : Bool := s.lbit Reg.laneMode 13
def State.busLive (s : State) : Bool := s.lbit Reg.laneMode 14
def State.pcDone (s : State) : Bool := s.lbit Reg.laneMode 15
def State.brkClose (s : State) : Bool := s.lbit Reg.laneMode 16
def State.brkOpen (s : State) : Bool := s.lbit Reg.laneMode 17
def State.brkFb (s : State) : Bool := s.lbit Reg.laneMode 18
def State.setModeBit (s : State) (i : Nat) (b : Bool) : State := s.lsetBit Reg.laneMode i b

/-- Fields of LANE_MODE_CFG (R204). -/
def State.dcLaw (s : State) : Nat := s.fld (Reg.laneModeCfg 0) 0 2
def State.dcEn (s : State) : Bool := s.bit (Reg.laneModeCfg 0) 2
def State.reclose (s : State) : Bool := s.bit (Reg.laneModeCfg 0) 4
def State.pcOut (s : State) : Nat := s.fld (Reg.laneModeCfg 0) 8 4

/-- Configured times in ns (R204, R76). -/
def State.pcConfirm (s : State) : Nat := s.fld (Reg.laneModePc 0) 16 8 * 10000000
def State.pcTimeout (s : State) : Nat := s.fld (Reg.laneModePc 0) 24 8 * 100000000
def State.deadConf (s : State) : Nat := s.fld (Reg.laneModeBus 0) 8 8 * 20000000
def State.liveConf (s : State) : Nat := s.fld (Reg.laneModeBus 0) 24 8 * 20000000
def State.rampTime (s : State) : Nat := s.fld (Reg.laneModeBs 0) 0 7 * 100000000
def State.routeTimeout (s : State) : Nat := s.fld (Reg.laneModeBs 0) 16 10 * 1000000000
def State.syncTimeout (s : State) : Nat := s.fld (Reg.laneModeSync1 0) 16 10 * 1000000000
def State.brkTime (s : State) : Nat :=
  s.fld (Reg.laneModeSync1 0) 0 8 * 1000000 + s.fld (Reg.laneModeSync1 0) 8 8 * 10000000
def State.unloadTimeout (s : State) : Nat := s.fld (Reg.laneModeStop 0) 0 6 * 1000000000
def State.tfc (s : State) : Nat := s.fld (Reg.laneXfTfc 0) 0 8 * 10000000

/-! ### Conditions -/

/-- The stored target of output `j`. -/
def State.pgTgt (s : State) (j : Nat) : Word := s.lrd (fun L => Reg.lanePgTgt L j)

/-- v_dc is valid and within pc_band of the target of pc_out (R193). -/
def State.inBand (s : State) : Bool :=
  s.modes.vdcValid && le (F32.abs (sub s.modes.vdc (s.pgTgt s.pcOut))) (rat (s.fld (Reg.laneModePc 0) 8 8) 1000)

/-- v_dc is valid and at least pc_min. -/
def State.vdcEnough (s : State) : Bool :=
  s.modes.vdcValid && le (rat (s.fld (Reg.laneModePc 0) 0 8) 100) s.modes.vdc

/-- The bus speed ω[k] + df / f_base, with ω[k] of the latest transform sample (R196). -/
def State.busSpeed (s : State) : Word :=
  add (sparseGet (fun _ => (one, true)) s.lane.quant 11).1 (div (s.lrd Reg.laneModeDf) (ofInt s.fBase))

/-- The vb triple of the latest transform sample is valid. -/
def State.vbValid (s : State) : Bool := (sparseGet (fun _ => Dq.none) s.lane.dq 2).valid

/-- The bus meets the dead test, the live test (R196). -/
def State.deadNow (s : State) : Bool :=
  s.vbValid && lt (s.lrd Reg.laneModeVb) (rat (s.fld (Reg.laneModeBus 0) 0 8) 100)
def State.liveNow (s : State) : Bool :=
  s.vbValid && le (rat (s.fld (Reg.laneModeBus 0) 16 8) 100) (s.lrd Reg.laneModeVb)
    && le 0x3F666666 s.busSpeed && le s.busSpeed 0x3F8CCCCD

/-- A run's length after `dt` more: 0 while the condition fails, else 1 more than the time it has held. -/
def runOn (cond : Bool) (old dt : Nat) : Nat := if cond then (if old = 0 then 1 else old + dt) else 0

/-- Whether LOCKOUT is latched at SAFE, by either latch (R289). -/
def State.lockedOut (s : State) : Bool := s.bit Reg.safeStatus 4

/-- LOCKOUT is latched and the mode machine has not followed yet (R184 order 1). -/
def State.lockoutDue (s : State) : Bool := s.lockedOut && decide (s.mode ≠ .lockout)

/-- SAFE's permission (R285). -/
def State.permitted (s : State) : Bool := s.bit Reg.safeStatus 2

/-- Whether a stage switches: the AC or DC stage is not released. -/
def State.acSwitching (s : State) : Bool := !s.modes.stage.acReleased || s.modes.stage.acStart
def State.dcSwitching (s : State) : Bool := !s.modes.stage.dcReleased || s.modes.stage.dcStart

/-- Whether unit `u` belongs to a switching stage. -/
def State.unitSwitching (s : State) (u : Nat) : Bool :=
  (s.inAc u && s.acSwitching) || (s.inDc u && s.dcSwitching)

/-- Cause 0x0B: a latched trip names a zone of a unit, over all stage units or those that switch (R187, R191). -/
def State.switchingTripped (s : State) : Bool :=
  (List.range 48).any (fun u =>
    s.unitSwitching u && s.bit (Reg.pwmStatus 0) (16 + s.fld (Reg.pwmCuCfg 0 u) 5 3))

/-- Gate channels that unit `u` governs. -/
def State.unitChans (s : State) (u : Nat) : List Nat := indicesWhere 48 (fun c => s.chanUnit c == u)

/-- Cause 0x0C over the units of `p`: a channel of theirs is in FAULT with a retry pending (R191). -/
def State.chanFaulted (s : State) (p : Nat → Bool) : Bool :=
  (List.range 48).any (fun u => p u && (s.unitChans u).any (fun c =>
    s.bankBit Reg.gateFault0 c && s.chanState c != .locked))

/-- The lasting causes of R191 that are active now, ascending: 0x0A, 0x0B, 0x0C. -/
def State.lastingCauses (s : State) : List Nat :=
  (if s.permitted then [] else [0x0A])
    ++ (if s.stageTripped then [0x0B] else [])
    ++ (if s.chanFaulted (fun u => s.inAc u || s.inDc u) then [0x0C] else [])

/-- The causes that arise from present conditions: permission withdrawn, or a trip or fault on a switching stage. -/
def State.risingCauses (s : State) : List Nat :=
  (if s.modes.permission && !s.permitted && !s.lockedOut then [0x0A] else [])
    ++ (if s.switchingTripped then [0x0B] else [])
    ++ (if s.chanFaulted s.unitSwitching then [0x0C] else [])

/-! ### Breaker commands -/

/-- BRK_OPEN rises and BRK_CLOSE falls (R198). -/
def State.issueOpen (s : State) : State :=
  let s := (s.setModeBit 16 false).setModeBit 17 true
  s.setBrk { s.modes.brk with openTime := 0 }

/-- BRK_CLOSE rises (R198) (log entry 114, DEDUCED). -/
def State.issueClose (s : State) : State :=
  let s := s.setModeBit 16 true
  s.setBrk { s.modes.brk with issued := true, closeTime := 0 }

/-! ### Stages -/

/-- The stages and the gate-enable request of a mode (R183, R185): a stage that is to switch does so from the next
staged compares; one that is released has its sample's compares withheld, and its units enter RELEASED at the update
point at which those would have loaded; the request rises at once and falls later. -/
def State.setStages (s : State) (ac dc req : Bool) : State :=
  let acWas := s.acSwitching
  let dcWas := s.dcSwitching
  let s := if acWas && !ac then s.withholdWhere s.inAc else s
  let s := if dcWas && !dc then s.withholdWhere s.inDc else s
  let leaves := fun (u : Nat) => (acWas && !ac && s.inAc u) || (dcWas && !dc && s.inDc u)
  let s := ((List.range 48).filter (fun u => leaves u && s.tbRuns (s.unitTb u))).foldl (fun s u => s.setRelDue u true) s
  let g := s.modes.stage
  let g := if acWas && !ac then { g with acReleased := true, acStart := false }
           else if ac && !acWas then { g with acStart := true } else g
  let g := if dcWas && !dc then { g with dcReleased := true, dcStart := false }
           else if dc && !dcWas then { g with dcStart := true } else g
  let g := if req then { g with gateReq := true, gateFall := false }
           else if g.gateReq then { g with gateFall := true } else g
  (s.setStage g).busUpdate

/-! ### Owned outputs -/

/-- The mode whose set-points are owned: the return mode while riding through. -/
def State.ownerMode (s : State) : Mode := if s.mode = .rideThrough then s.retMode else s.mode

/-- The machine's target of output 1 in BLACK_START (R200). -/
def State.rampTarget (s : State) : Word :=
  let b := s.modes.brk
  if b.closed && !b.back && !b.aborted then
    mul (s.pgTgt 1) (rat (min s.modes.wait.ramp s.rampTime) s.rampTime)
  else zero

/-- The machine's targets for the base sample that begins (R182, R200, R201, R203) (log entry 55, DEDUCED). -/
def State.retarget (s : State) : State :=
  match s.ownerMode with
  | .blackStart =>
    let s := s.own 1 s.rampTarget
    if s.unloading then (s.own 2 zero).own 3 zero else s
  | .synchronise =>
    let g := rat (s.fld (Reg.laneModeSync0 0) 24 8) 10
    let t0 := add s.busSpeed (div (mul g (s.lrd Reg.laneModeDphi)) (piRat (2 * s.fBase) 1))
    (((s.own 0 t0).own 1 (s.lrd Reg.laneModeVb)).own 2 zero).own 3 zero
  | .gridForming =>
    if s.unloading then (s.own 2 zero).own 3 zero
    else
      let s := if (s.machineTarget 2).isSome then s.own 2 (s.pgTgt 2) else s
      if (s.machineTarget 3).isSome then s.own 3 (s.pgTgt 3) else s
  | .precharge => if (s.machineTarget s.pcOut).isSome then s.own s.pcOut (s.pgTgt s.pcOut) else s
  | _ => s

/-- Ownership that ends on arrival (R182): charging in PRECHARGE, loading after the close. -/
def State.endOwned (s : State) : State :=
  let js := match s.ownerMode with
    | .gridForming => if s.unloading then [] else [2, 3]
    | .precharge => [s.pcOut]
    | _ => []
  (js.foldl (fun s j => if (s.machineTarget j).isSome && s.pgAtRest j then s.disown j else s) s).showOwned

/-- No output stays owned. -/
def State.disownAll (s : State) : State := State.showOwned { s with modes := { s.modes with owned := [] } }

/-! ### Entering a mode -/

/-- The laws whose presets an entry loads (R186) (log entry 111, DESIGN CHOICE). -/
def State.presetLaws (s : State) (m : Mode) : List Nat :=
  if m = .safelight ∨ m = .lockout then []
  else
    (if s.mode = .off then (List.range 4).filter s.lawOn else [])
      ++ (if s.mode = .standby ∧ m = .precharge ∧ s.lawOn s.dcLaw then [s.dcLaw] else [])
      ++ (if (m = .blackStart ∨ m = .synchronise) ∧ ¬ (s.mode = .rideThrough ∧ s.retMode = m)
            ∧ s.lawOn s.vmoLaw then [s.vmoLaw] else [])

/-- Whether an entry into `m` may be taken now (R186, R435). -/
def State.mayEnter (s : State) (m : Mode) : Bool :=
  m == .safelight || m == .lockout || (!s.fixBars s.mode m && (s.presetLaws m).all (fun l => !s.lawHeld l))

/-- The transform stage at entry into BLACK_START (R186) (log entry 55, DEDUCED). -/
def State.enterBlackStart (s : State) : State :=
  let w := s.pgOut 0
  let s := ((s.lwr Reg.laneXfOmega w).lwr Reg.laneXfE zero).lwr Reg.laneXfPf zero
  let s := s.lwr Reg.laneXfQf zero
  let s := { s with lane := { s.lane with omegaBf := w } }
  let s := s.setWait { s.modes.wait with ramp := 0 }
  let s := s.setBrk { s.modes.brk with issued := true, closed := false, back := false, aborted := false }
  (((s.loadPg 1 zero).own 1 zero).showOwned).issueClose

/-- The rotor at entry into SYNCHRONISE (R186): bus speed, and the bus angle at the next aperture of vmo_law. -/
def State.enterSync (s : State) : State :=
  let w := s.busSpeed
  let vb := sparseGet (fun _ => Dq.none) s.lane.dq 2
  let thk := s.modes.thetaK.toNat
  let turn := round (div (mul (F32.atan2 vb.q vb.d) two32) (piRat 2 1))
  let adv := round (mul (mul (mul (ofInt s.fBase) s.vmoPeriod) w) two32)
  let th := word (((thk : Int) + turn + adv) % 2 ^ 32).toNat
  let s := (s.lwr Reg.laneXfOmega w).lwr Reg.laneXfTheta th
  let s := s.setBrk { s.modes.brk with issued := false, closed := false, back := false, aborted := false }
  ((s.loadPg 0 w).loadPg 1 zero).retarget.showOwned

/-- GRID_FORMING entered from SYNCHRONISE (R202): p_set and q_set start from 0 and are owned; outputs 0 and 1 return
(log entry 100, DESIGN CHOICE). -/
def State.enterFromSync (s : State) : State :=
  let s := ((s.disownAll.loadPg 2 zero).loadPg 3 zero)
  ((s.own 2 (s.pgTgt 2)).own 3 (s.pgTgt 3)).showOwned

/-- Entry into PRECHARGE: pc_out starts from the measured v_dc; charging starts unless the link is still confirmed
(R193). -/
def State.enterPrecharge (s : State) : State :=
  let s := s.disownAll
  let s := s.setModeBit 12 false
  let s := s.setBrk { s.modes.brk with issued := false, closed := false, back := false, aborted := false }
  let s := (s.setStop StopSt.reset).loadPg s.pcOut s.modes.vdc
  if s.pcDone then s
  else
    let s := s.setWait { s.modes.wait with charging := some 0, band := 0 }
    (s.own s.pcOut (s.pgTgt s.pcOut)).showOwned

/-- Entry into OFF, STANDBY, SAFELIGHT or LOCKOUT: no ownership, pc_done clear (R182, R194). -/
def State.enterQuiet (s : State) (m : Mode) : State :=
  let s := s.disownAll
  let s := (s.setModeBit 12 false).setModeBit 15 false
  let s := s.setBrk { s.modes.brk with issued := false, closed := false, back := false, aborted := false }
  let s := (s.setStop StopSt.reset).setWait { s.modes.wait with charging := none }
  if m = .safelight ∨ m = .lockout ∨ (m = .off ∧ s.brkFb) then s.issueOpen else s

/-- Limiting comes into force or ends; a hold of vmo_law ends when it comes into force (R60, R166) (log entry 110,
DESIGN CHOICE). -/
def State.setLimiting (s : State) (b : Bool) : State :=
  let s := s.lsetBit Reg.laneStatus 2 b
  let s := { s with lane := { s.lane with exitCount := 0, limitReached := false } }
  let v := s.vmoLaw
  if b && (s.lawHeld v || (s.law v).holdDue.isSome) then
    ((s.setLaw v { s.law v with holdDue := none }).setHeld v false 0).raiseLane 1 []
  else s

/-- The mode machine takes the transition into `m` (R184 to R186, R188): presets, stages, the mode's own entry, and
MODE_CHANGE with the new mode and the recorded cause. -/
def State.goMode (s : State) (m : Mode) : State :=
  let old : Mode := s.mode
  let ret : Mode := s.retMode
  let s := (s.presetLaws m).foldl State.loadPreset s
  let s := s.lput Reg.laneMode 0 4 m.code
  let s := s.setWait { s.modes.wait with inMode := 0, route := 0 }
  let s := (s.lwr Reg.laneModeTime 0).setModeBit 20 false
  let s := { s with modes := { s.modes with decided := true } }
  let s := if old = Mode.rideThrough then (s.setLimiting false).setWait { s.modes.wait with tfc := none } else s
  let s := match m with
    | .rideThrough =>
      ((s.lput Reg.laneMode 8 4 old.code).setLimiting true).setWait { s.modes.wait with inMode := 0, tfc := some 0 }
    | .blackStart => if old = Mode.rideThrough then s else s.enterBlackStart
    | .synchronise => if old = Mode.rideThrough ∧ ret = Mode.synchronise ∧ s.modes.brk.issued then s else s.enterSync
    | .gridForming =>
      if old = Mode.synchronise ∨ (old = Mode.rideThrough ∧ (s.machineTarget 0).isSome) then s.enterFromSync
      else if old = Mode.blackStart then s.disownAll else s
    | .precharge => s.enterPrecharge
    | _ => s.enterQuiet m
  let s := if m = .precharge ∨ m = .blackStart then s else s.tellLeft
  let s := s.setStages m.acOn (m.request && s.dcEn) m.request
  let rec' := m == .safelight || m == .lockout
  let cause := word (s.lfld Reg.laneMode 24 8)
  let s := s.raiseLane 0x20 [word m.code, cause]
  if rec' then s.takeRecord ((4 + s.activeLane) * 256 + 0x20) [word m.code, cause] else s

/-! ### Rows that are due at this decision point -/

/-- A law whose run of invalid samples has reached the limit (R137). -/
def State.invalidDue (s : State) (l : Nat) : Bool :=
  let n := s.fld (Reg.laneInvalid 0) 0 16
  s.lawOn l && decide (0 < n ∧ n ≤ (s.law l).invalid) && !(s.law l).limitDone

/-- The exit condition of R63, the expiry of t_fc (R64). -/
def State.exitDue (s : State) : Bool := s.mode == .rideThrough && decide (64 ≤ s.lane.exitCount)
def State.expiryDue (s : State) : Bool :=
  s.mode == .rideThrough && (match s.modes.wait.tfc with | some t => decide (s.tfc ≤ t) | none => false)

/-- PRECHARGE has not charged the link in time; pc_done has been lost (R193, R194). -/
def State.chargeTimeout (s : State) : Bool :=
  s.mode == .precharge && !s.pcDone && (match s.modes.wait.charging with
    | some t => decide (s.pcTimeout ≤ t) | none => false)
def State.linkLost (s : State) : Bool :=
  s.pcDone && (s.mode == .precharge || s.mode.acOn) && decide (s.pcConfirm < s.modes.wait.out)

/-- A breaker command has stood for t_cl + fb_margin without confirmation (R198). -/
def State.closeFailed (s : State) : Bool := s.brkClose && !s.brkFb && decide (s.brkTime ≤ s.modes.brk.closeTime)
def State.openFailed (s : State) : Bool := s.brkOpen && s.brkFb && decide (s.brkTime ≤ s.modes.brk.openTime)

/-- The causes of SAFELIGHT whose rows are due, ascending (R184 order 2, R191). -/
def State.rowCauses (s : State) : List Nat :=
  (if (List.range 4).any s.invalidDue then [3] else [])
    ++ (if (List.range 4).any (fun l => (s.law l).expired && s.bit (Reg.laneLawCfg 0 l) 19) then [4] else [])
    ++ (if s.expiryDue && !s.exitDue then [5] else [])
    ++ (if s.chargeTimeout && decide (s.modes.wait.band ≤ s.pcConfirm) then [7] else [])
    ++ (if s.openFailed && s.mode.acOn then [8] else [])
    ++ (if s.linkLost && s.mode.acOn then [0xD] else [])

/-- A decision point opens: no transition has been taken, and no row waits to raise its event. -/
def State.openDecision (s : State) : State := { s with modes := { s.modes with decided := false, late := [] } }

/-- Whether a transition of order `order` may be taken now: none was taken at this point, and nothing of a higher order
is due (R184). -/
def State.mayDecide (s : State) (order : Nat) : Bool :=
  !s.modes.decided && !s.lockoutDue
    && (decide (order ≤ 2) || (s.modes.causes.isEmpty && s.risingCauses.isEmpty && s.rowCauses.isEmpty))
    && (decide (order ≤ 3) || (!s.closeFailed && !s.openFailed && s.modes.brk.event.isNone))
    && (decide (order ≤ 4) || !s.exitDue)

/-! ### SAFELIGHT -/

/-- A cause of R191 arises: SAFELIGHT is entered with the lowest of all that are due recorded, and the rows of the others
still raise their events; in SAFELIGHT it replaces the recorded code, the lowest of one decision point; while another
transition of this point was taken it waits for the next. -/
def State.safelight (s : State) (c : Nat) : State :=
  match s.mode with
  | .lockout => s
  | .safelight =>
    let old := s.lfld Reg.laneMode 24 8
    let s := s.lput Reg.laneMode 24 8 (if s.modes.decided then min old c else c)
    { s with modes := { s.modes with decided := true } }
  | _ =>
    if s.lockoutDue || s.modes.decided then { s with modes := { s.modes with causes := s.modes.causes ++ [c] } }
    else
      let rows := s.rowCauses
      let low : Nat := (s.modes.causes ++ rows).foldl min c
      let s : State := { s with modes := { s.modes with
        causes := [], late := rows.filter (fun x => x != c && [5, 7, 8, 0xD].contains x) } }
      let s := s.lput Reg.laneMode 24 8 low
      (s.goMode .safelight).raiseLane 0x2E [word low]

/-- Whether the row of cause `c` has only its event left to raise, SAFELIGHT having been entered already (R191). -/
def State.isLate (s : State) (c : Nat) : Bool := s.modes.late.contains c

def State.endLate (s : State) (c : Nat) : State :=
  { s with modes := { s.modes with late := s.modes.late.filter (fun x => x != c) } }

/-- The black-start ramp is complete (R200). -/
def State.rampDone (s : State) : Bool :=
  s.mode == .blackStart && s.modes.brk.closed && !s.modes.brk.back && !s.modes.brk.aborted
    && decide (s.rampTime ≤ s.modes.wait.ramp)
    && fmt64.eq (s.pg 1).p (to64 (s.pgTgt 1)) && fmt64.eq (s.pg 1).v 0

/-- BRK_CLOSE has not been issued within sync_timeout (R202). -/
def State.syncExpired (s : State) : Bool :=
  s.mode == .synchronise && !s.modes.brk.issued && decide (s.syncTimeout ≤ s.modes.wait.inMode)

/-! ### Elapsed time -/

/-- Time `dt` has passed up to this decision point: the waits, the ramp, the breaker commands and the bus tests follow,
and a decision that no longer holds is withdrawn (R184, R196). -/
def State.advance (s : State) (dt : Nat) : State :=
  let w := s.modes.wait
  let b := s.modes.brk
  let band := s.inBand
  let ramping := s.mode == .blackStart && b.closed && !b.back && !b.aborted
  let w := { w with
    inMode := w.inMode + dt
    band := runOn band w.band dt
    out := runOn (!band) w.out dt
    charging := w.charging.map (· + dt)
    route := if w.route = 0 then 0 else w.route + dt
    dead := runOn s.deadNow w.dead dt
    live := runOn s.liveNow w.live dt
    tfc := w.tfc.map (· + dt)
    ramp := if ramping then w.ramp + dt else w.ramp }
  let s := s.setWait w
  let s := s.lwr Reg.laneModeTime (word (min (w.inMode / 1000000) 0xFFFFFFFF))
  let s := s.setBrk { b with
    closeTime := if s.brkClose then b.closeTime + dt else b.closeTime
    openTime := if s.brkOpen then b.openTime + dt else b.openTime }
  let s := if s.unloading then s.setStop { s.modes.stop with time := s.modes.stop.time + dt } else s
  let s := if s.brkOpen && !s.brkFb && s.modes.brk.event.isNone then s.setModeBit 17 false else s
  let s := if s.deadNow then s else s.setModeBit 13 false
  if s.liveNow then s else s.setModeBit 14 false

/-! ### The decision -/

/-- A new route or target: its waits start afresh (R187). -/
def State.setTarget (s : State) (m : Mode) : State :=
  let s := s.lput Reg.laneMode 4 4 m.code
  (s.setWait { s.modes.wait with route := 0 }).setModeBit 20 false

/-- No route waits any longer for a condition of R189 or R196. -/
def State.clearRoute (s : State) : State := (s.setWait { s.modes.wait with route := 0 }).setModeBit 20 false

/-- A route waits: route_wait shows it, and its time runs. -/
def State.routeWait (s : State) : State :=
  let s := if s.modes.wait.route = 0 then s.setWait { s.modes.wait with route := 1 } else s
  s.setModeBit 20 true

/-- Entry into `m` where the preset loads and pending FIX sets allow it; otherwise it is decided again (R186, R435). -/
def State.tryMode (s : State) (m : Mode) : State := if s.mayEnter m then s.goMode m else s

/-- Whether the module acts as one with a fabric: some fabric link is up (R197). -/
def State.hasFabric (s : State) : Bool := s.bit Reg.fabCfg 0 && (List.range 4).any (fun p => s.fld (Reg.fabPortStat p) 0 2 == 2)

/-- The synchronisation windows hold (R202), with v and vb of the latest sample. -/
def State.windowsHold (s : State) : Bool :=
  let c := s.rd (Reg.laneModeSync0 0)
  let df := s.lrd Reg.laneModeDf
  let tcl := rat (s.fld (Reg.laneModeSync1 0) 0 8) 1000
  let dv := sub (s.lrd Reg.laneModeVb) s.lane.vmag
  let ph := F32.wrap (add (s.lrd Reg.laneModeDphi) (mul (mul (piRat 2 1) df) tcl))
  le (F32.abs dv) (rat (field c 0 8) 1000) && le (F32.abs df) (rat (field c 8 8) 100)
    && le (F32.abs ph) (piRat (field c 16 8) 1800)

/-- BRK_CLOSE may be issued: the bus is live, the windows hold, no open is commanded and the target stands (R198, R202). -/
def State.canClose (s : State) : Bool :=
  s.busLive && s.windowsHold && !s.brkOpen && decide (s.target = .gridForming ∨ s.target = .safelight)

/-- Another source energises the bus between BRK_CLOSE and its confirmation: the black start is aborted (R200), as in
RIDE_THROUGH that returns to it. -/
def State.judgeAbort (s : State) : State :=
  let b := s.modes.brk
  if s.ownerMode = .blackStart ∧ b.issued ∧ ¬ b.closed ∧ ¬ b.aborted ∧ s.vbValid
      ∧ le (rat (s.fld (Reg.laneModeBus 0) 0 8) 100) (s.lrd Reg.laneModeVb) then
    (s.setBrk { b with aborted := true }).raiseLane 0x25 []
  else s

/-- The way on from GRID_FORMING once the breaker is open (R188, R199, R203). -/
def State.leaveGrid (s : State) : State :=
  if s.reclose ∧ s.target = .gridForming ∧ ¬ s.modes.stop.opened then s.tryMode .synchronise else s.tryMode .precharge

/-- The breaker is open, and no command of it stands. -/
def State.brkIdleOpen (s : State) : Bool := !s.brkFb && !s.brkOpen && !s.brkClose

/-- What the requested target asks in each mode (R184 orders 5 and 6; R188, R196, R200, R202, R203) (log entry 114,
DEDUCED). -/
def State.pursue (s : State) : State :=
  let t := s.target
  let below := t = .off ∨ t = .standby ∨ t = .precharge
  match s.mode with
  | .off => if t ≠ .off ∧ t ≠ .safelight ∧ s.schedRuns then s.tryMode .standby else s
  | .standby =>
    if t = .off then s.tryMode .off
    else if t = .precharge ∨ t = .gridForming then
      if s.vdcEnough then s.clearRoute.tryMode .precharge else s.routeWait
    else s
  | .precharge =>
    if t = .off ∨ t = .standby then s.tryMode .standby
    else if t = .gridForming ∧ s.pcDone then
      let black := s.busDead && s.bit (Reg.laneModeCfg 0) 3 && (s.modes.alone || s.lbit Reg.laneMode 19)
      if black then (if s.brkOpen then s.clearRoute else s.clearRoute.tryMode .blackStart)
      else if s.busLive then s.clearRoute.tryMode .synchronise
      else s.routeWait
    else s.clearRoute
  | .blackStart =>
    if below ∧ ¬ s.modes.brk.back then
      let s := ((s.setModeBit 12 true).setBrk { s.modes.brk with back := true }).issueOpen.retarget.showOwned
      if s.brkFb then s else s.tryMode .precharge
    else if (s.modes.brk.back ∨ s.modes.brk.closed) ∧ s.brkIdleOpen then s.tryMode .precharge
    else s
  | .synchronise =>
    if s.modes.brk.back ∧ ¬ s.brkFb ∧ ¬ s.brkOpen then s.tryMode .precharge
    else if s.modes.brk.closed then s.tryMode .gridForming
    else if s.modes.brk.issued then s
    else if below ∨ ¬ s.busLive then s.tryMode .precharge
    else if s.canClose then s.issueClose else s
  | .gridForming =>
    if ¬ s.brkFb then s.leaveGrid
    else if below ∧ ¬ s.unloading then
      ((s.setModeBit 12 true).setStop StopSt.reset).retarget.showOwned
    else if s.unloading ∧ ¬ s.modes.stop.opened ∧ t = .gridForming then
      (((s.setModeBit 12 false).disown 2).disown 3).showOwned
    else if s.unloading ∧ s.modes.stop.expired ∧ ¬ s.modes.stop.opened then
      (s.setStop { s.modes.stop with opened := true }).issueOpen
    else s
  | .rideThrough =>
    if s.retMode = .gridForming ∧ ¬ s.brkFb then s.leaveGrid
    else if (s.modes.brk.back ∨ (s.retMode = .blackStart ∧ s.modes.brk.closed)) ∧ s.brkIdleOpen then s.tryMode .precharge
    else if s.unloading ∧ ¬ s.modes.stop.opened ∧ t = .gridForming then
      (((s.setModeBit 12 false).disown 2).disown 3).showOwned
    else s
  | .safelight =>
    if (t = .off ∨ t = .standby) ∧ s.lastingCauses = [] then s.tryMode t else s
  | .lockout => if s.lockedOut then s else (s.setTarget .standby).goMode .standby

/-! ### The breaker's feedback -/

/-- The close of the breaker is confirmed (R200, R202, R190). -/
def State.closeConfirmed (s : State) : State :=
  let s := (s.setModeBit 16 false).setBrk { s.modes.brk with closed := true }
  let abort := fun (s : State) =>
    if s.modes.brk.aborted then (s.setBrk { s.modes.brk with back := true }).issueOpen else s
  match s.mode with
  | .synchronise => s.tryMode .gridForming
  | .rideThrough =>
    if s.retMode = .synchronise then s.lput Reg.laneMode 8 4 Mode.gridForming.code
    else if s.retMode = .blackStart then abort s else s
  | .blackStart => abort s
  | _ => s

/-- A close that the module did not command (R199). -/
def State.closeUnexpected (s : State) : State :=
  match s.mode with
  | .off | .standby | .precharge => (s.raiseLane 0x27 []).issueOpen
  | .blackStart | .synchronise => if s.modes.brk.issued then s else (s.raiseLane 0x27 []).safelight 9
  | _ => s

/-- The open of the breaker is confirmed (R200, R202, R203). -/
def State.openConfirmed (s : State) : State :=
  let s := s.setModeBit 17 false
  match s.mode with
  | .blackStart | .synchronise => if s.modes.brk.back then s.tryMode .precharge else s
  | .gridForming => if s.modes.stop.opened then s.tryMode .precharge else s
  | .rideThrough => if s.modes.stop.opened ∨ s.modes.brk.back then s.tryMode .precharge else s
  | _ => s

/-- An open after which the converter returns to PRECHARGE with a new dead or live decision (R199). -/
def State.leaveBlackStart (s : State) : State :=
  let s := (s.setModeBit 13 false).setModeBit 14 false
  (s.setWait { s.modes.wait with dead := 0, live := 0 }).tryMode .precharge

/-- An open that the module did not command: BREAKER_OPENED, and the module leaves under R188 (R199). -/
def State.openUnexpected (s : State) : State :=
  match s.mode with
  | .gridForming => (s.raiseLane 0x28 []).leaveGrid
  | .rideThrough =>
    let s := s.raiseLane 0x28 []
    if s.retMode = .blackStart then s.leaveBlackStart else s.leaveGrid
  | .blackStart =>
    if s.modes.brk.closed then
      (s.raiseLane 0x28 []).setBrk { s.modes.brk with back := true } |>.leaveBlackStart
    else s
  | _ => s

/-- The level of BRK_FB that waits is handled (R184 order 3): the first one after reset without counting, so that OFF
opens a breaker found closed; later ones confirm a command or are uncommanded (R198, R199). -/
def State.handleFb (s : State) : State :=
  match s.modes.brk.event with
  | none => s
  | some (closed, counted) =>
    let s := s.setBrk { s.modes.brk with event := none }
    if !counted then (if closed ∧ s.mode = .off then s.issueOpen else s)
    else if closed then (if s.brkClose then s.closeConfirmed else s.closeUnexpected)
    else if s.brkOpen then s.openConfirmed else s.openUnexpected

/-- Whether `limit_reached` of this sample takes the mode in force into RIDE_THROUGH (R150, R188). -/
def State.limitEntry (s : State) : Bool :=
  s.mode == .blackStart || s.mode == .gridForming || (s.mode == .synchronise && s.modes.brk.issued)

/-- Orders 4 to 6 of R184: ride-through, completed sequences and the target, unless a row that stands higher is due. -/
def State.decideLow (s : State) (limit : Bool) : State :=
  let s := s.judgeAbort
  if s.closeFailed || s.openFailed || s.exitDue then s
  else if limit && s.limitEntry then s.tryMode .rideThrough
  else if s.rampDone || (s.syncExpired && !s.canClose) then s
  else s.pursue

/-- The decision of one decision point (R184): the highest-placed cause prevails; where a row of the operation table is
due that stands higher, what stands below it waits. `limit` tells that |i_u| exceeded I_lim in this sample. -/
def State.decideMode (s : State) (limit : Bool) : State :=
  let cause := (s.modes.causes ++ s.risingCauses).min?
  let s := { s with modes := { s.modes with permission := s.permitted } }
  if s.lockoutDue then (State.goMode { s with modes := { s.modes with causes := [] } } .lockout)
  else
    let s := { s with modes := { s.modes with causes := [] } }
    match cause, s.mode with
    | some c, .safelight =>
      let s := s.lput Reg.laneMode 24 8 c
      { s with modes := { s.modes with decided := true } }
    | some _, .lockout => s.pursue
    | some c, _ => s.safelight c
    | none, _ =>
      if !s.rowCauses.isEmpty then s
      else
        let s := s.handleFb
        if s.modes.decided then s else s.decideLow limit

end Sys2Proof.Machine
end

