-- ==== Sys2Proof/Machine/Orders.lean ====
section
/-! DEFINITION. The opcodes of the control engine, of the profile outputs and of the mode machine (R156 to R167, R181,
R187), with the checks that the blocks of the cycle program share (R334, R349). -/

namespace Sys2Proof.Machine

/-! ### Coefficients and holds -/

/-- Entries of a LAW_SET_COEF payload: index and value (R156). -/
def coefEntries (bs : List Byte) : List (Nat × Word) :=
  (List.range (leAt bs 2 2)).map (fun e => (leAt bs (4 + 8 * e) 2, word (leAt bs (8 + 8 * e) 4)))

/-- A coefficient LAW_SET_COEF accepts: a word of the law, neither NaN, infinity nor subnormal (R157 step 4). -/
def coefOk (e : Nat × Word) : Bool := decide (e.1 < 2016) && F32.finite e.2 && !fmt32.subnormal e.2.toNat

/-- Whether law `l`'s samples run: enabled, with the schedule timebase running. -/
def State.lawSampling (s : State) (l : Nat) : Bool := s.lawOn l && s.schedRuns

/-- The law's sample count at which the last of its queued words takes effect (R157). -/
def State.coefSample (s : State) (l : Nat) : Word :=
  let n := s.lrd (fun L => Reg.laneLawSample L l)
  if s.lawSampling l then n + word ((s.pendingWords l + 31) / 32) else n

/-- LAW_SET_COEF's checks in order and its effect (R157, R158) (log entry 49, DEDUCED). -/
def State.runSetCoef (s : State) (p : Packet) : State :=
  let l := leAt p.payload 0 1
  let es := coefEntries p.payload
  match s.leaseCheck 2 l p with
  | some st => s.finish 0x0200 p st []
  | none =>
    if 3 < l ∨ es = [] ∨ 256 < es.length ∨ ¬ es.all coefOk then s.finish 0x0200 p .outOfRange []
    else if 256 < s.lane.queue.length + es.length then s.finish 0x0200 p .busy []
    else
      let ws := es.map (fun e => ({ law := l, index := e.1, value := e.2 } : CoefWord))
      let s := State.showQueue { s with lane := { s.lane with queue := s.lane.queue ++ ws } }
      s.finish 0x0200 p .ok (wordBytes (s.coefSample l))

/-- LAW_SET_COEF (R156). -/
def execLawSetCoef (p : Packet) (s : State) : Host.Outcome State Fault Refusal :=
  .next (s.command 0x0200 p
    (decide (4 ≤ p.payload.length) && decide (p.payload.length = 4 + 8 * leAt p.payload 2 2)) (fun s => s.runSetCoef p))

/-- LAW_HOLD's checks and effect (R162) (log entry 109, DESIGN CHOICE). -/
def State.runHold (s : State) (p : Packet) : State :=
  let l := leAt p.payload 0 1
  let n := leAt p.payload 1 1
  match s.leaseCheck 2 l p with
  | some st => s.finish 0x0201 p st []
  | none =>
    if 3 < l ∨ n = 0 ∨ 64 < n then s.finish 0x0201 p .outOfRange []
    else if ¬ s.lawOn l ∨ s.lawHeld l ∨ (s.law l).holdDue ≠ none ∨ (l = s.vmoLaw ∧ s.limiting) then
      s.finish 0x0201 p .notPermitted []
    else
      (s.setLaw l { s.law l with holdDue := some n }).finish 0x0201 p .ok
        (wordBytes (s.lrd (fun L => Reg.laneLawSample L l) + 1))

/-- LAW_HOLD (R162). -/
def execLawHold (p : Packet) (s : State) : Host.Outcome State Fault Refusal :=
  .next (s.command 0x0201 p (decide (p.payload.length = 4)) (fun s => s.runHold p))

/-- LAW_RELEASE's checks and effect (R164). -/
def State.runLawRelease (s : State) (p : Packet) : State :=
  let l := leAt p.payload 0 1
  match s.leaseCheck 2 l p with
  | some st => s.finish 0x0202 p st []
  | none =>
    if 3 < l then s.finish 0x0202 p .outOfRange []
    else if ¬ s.lawHeld l then s.finish 0x0202 p .notPermitted []
    else if s.pendingWords l ≠ 0 then s.finish 0x0202 p .busy []
    else if leAt p.payload 1 1 % 2 = 1
        ∧ word (leAt p.payload 4 4) ≠ s.lrd (fun L => Reg.laneLawCoefCrc L l) then s.finish 0x0202 p .notPermitted []
    else (s.setHeld l false 0).finish 0x0202 p .ok []

/-- LAW_RELEASE (R164). -/
def execLawRelease (p : Packet) (s : State) : Host.Outcome State Fault Refusal :=
  .next (s.command 0x0202 p (decide (p.payload.length = 8)) (fun s => s.runLawRelease p))

/-! ### Profile targets -/

/-- The two sources of targets (R349). -/
inductive Source where
  | host | program
  deriving DecidableEq, Repr

/-- The source that gives mode targets, by the key position and the host link (R349). -/
def State.givesMode (s : State) : Source → Bool
  | .host => s.keySource == 0
  | .program => s.keySource == 1

/-- The source that gives profile targets: at STOP the host (R349). -/
def State.givesProfile (s : State) : Source → Bool
  | .host => s.keySource != 1
  | .program => s.keySource == 1

/-- Why a new target of output `j` is refused (R181). -/
def State.profileCheck (s : State) (src : Source) (j : Nat) (t : Word) : Option Status :=
  if 15 < j ∨ ¬ F32.finite t ∨ ¬ F32.le (s.lrd (fun L => Reg.lanePgMin L j)) t
      ∨ ¬ F32.le t (s.lrd (fun L => Reg.lanePgMax L j)) then some .outOfRange
  else if ¬ s.givesProfile src ∨ s.machineTarget j ≠ none then some .notPermitted
  else none

/-- An accepted target is written in both lanes (R181). -/
def State.setProfile (s : State) (j : Nat) (t : Word) : State := s.wrBoth (fun L => Reg.lanePgTgt L j) t

/-- PROFILE_MOVE's checks and effect (R181). -/
def State.runProfileMove (s : State) (p : Packet) : State :=
  let j := leAt p.payload 0 1
  let t := word (leAt p.payload 4 4)
  match s.leaseCheck 3 0 p with
  | some st => s.finish 0x0203 p st []
  | none =>
    match s.profileCheck .host j t with
    | some st => s.finish 0x0203 p st []
    | none => (s.setProfile j t).finish 0x0203 p .ok (wordBytes (s.lrd Reg.laneSample + 1))

/-- PROFILE_MOVE (R181). -/
def execProfileMove (p : Packet) (s : State) : Host.Outcome State Fault Refusal :=
  .next (s.command 0x0203 p (decide (p.payload.length = 8)) (fun s => s.runProfileMove p))

/-! ### Mode targets -/

/-- Checks 1 to 5 of R187 with the source check of R349 after check 4. -/
def State.modeCheck (s : State) (src : Source) (code : Nat) : Option Status :=
  let m := Mode.ofCode code
  let up : Bool := m = .precharge ∨ m = .gridForming
  if code ≠ 0 ∧ code ≠ 1 ∧ code ≠ 2 ∧ code ≠ 5 ∧ code ≠ 7 then some .outOfRange
  else if s.lockedOut then some .lockedOut
  else if up && s.stageTripped then some .tripActive
  else if up && (s.fld Reg.cycleKey 0 2 == 2 || decide (s.lastingCauses ≠ []) || !s.permitted) then some .notPermitted
  else if ¬ s.givesMode src then some .notPermitted
  else if m = .gridForming ∧ (¬ s.xfOn ∨ s.routed 2 = none ∨ s.routed 3 = none) then some .notPermitted
  else if up && s.dcEn && (!s.lawOn s.dcLaw || s.dcLaw == s.vmoLaw) then some .notPermitted
  else none

/-- An accepted target replaces the previous one; SAFELIGHT is a cause of R191. -/
def State.acceptTarget (s : State) (code : Nat) : State :=
  let s := s.setTarget (Mode.ofCode code)
  if code = 7 then { s with modes := { s.modes with causes := s.modes.causes ++ [0x01] } } else s

/-- MODE_SET's checks and effect (R187). -/
def State.runModeSet (s : State) (p : Packet) : State :=
  let code := leAt p.payload 0 1
  match s.leaseCheck 3 0 p with
  | some st => s.finish 0x0204 p st []
  | none =>
    match s.modeCheck .host code with
    | some st => s.finish 0x0204 p st []
    | none => (s.acceptTarget code).finish 0x0204 p .ok []

/-- MODE_SET (R187). -/
def execModeSet (p : Packet) (s : State) : Host.Outcome State Fault Refusal :=
  .next (s.command 0x0204 p (decide (p.payload.length = 4)) (fun s => s.runModeSet p))

end Sys2Proof.Machine
end

