-- ==== Sys2Proof/Machine/Safe.lean ====
section
/-! DEFINITION. SAFE's shared operations: LOCKOUT and its release (R288, R289, R308 to R311), the enables (R285 to R287),
safety inputs and functions (R294 to R297), safe outputs (R300 to R302) and safe data (R303 to R307). -/

namespace Sys2Proof.Machine

/-! ### Configuration and parts -/

def State.safeIn (s : State) (i : Nat) : SafeIn := sparseGet (fun _ => SafeIn.idle) s.safe.inputs i

def State.setSafeIn (s : State) (i : Nat) (v : SafeIn) : State :=
  { s with safe := { s.safe with inputs := sparseSet (fun _ => SafeIn.idle) s.safe.inputs i v } }

def State.safeSub (s : State) (r : Nat) : SafeSub := sparseGet (fun _ => SafeSub.idle) s.safe.subs r

def State.setSafeSub (s : State) (r : Nat) (v : SafeSub) : State :=
  { s with safe := { s.safe with subs := sparseSet (fun _ => SafeSub.idle) s.safe.subs r v } }

def State.setDiag (s : State) (d : SafeDiag) : State := { s with safe := { s.safe with diag := d } }

def State.setRst (s : State) (r : LocalReset) : State := { s with safe := { s.safe with rst := r } }

/-- Mode of pair `i`: 0 off, 1 equivalent, 2 antivalent; whether it is marked for the lattice. -/
def State.inMode (s : State) (i : Nat) : Nat := s.fld (Reg.safeInCfg i) 0 2
def State.latticeMarked (s : State) (i : Nat) : Bool := s.bit (Reg.safeInCfg i) 14

/-- LOCKOUT is latched at the processor, at either technology. -/
def State.procLatched (s : State) : Bool := s.bit Reg.safeStatus 5
def State.latLatched (s : State) : Bool := s.bit Reg.safeStatus 6

/-- The processor runs in lock-step. -/
def State.procOk (s : State) : Bool := s.bit Reg.safeStatus 8

/-! ### The enables -/

/-- The lattice's enable (R287). -/
def State.latticeEnable (s : State) : Bool :=
  s.safe.diag.released && !s.latLatched && decide (s.safe.diag.demand = 0)

/-- The lattice's enable takes its level, and the gate-enable bus follows (R285). -/
def State.showLattice (s : State) : State := (s.setBit Reg.safeStatus 1 s.latticeEnable).busUpdate

/-- Some safety function is in demand: it is enabled and not in run, which no function is before the first tick. -/
def State.anyDemand (s : State) : Bool :=
  (List.range 32).any (fun f => s.bit (Reg.safeSfCfg f) 0 && !s.bit Reg.safeSfState f)

/-- The processor's enable: high with no function in demand, its latch clear and its start-up done (R286). -/
def State.procEnable (s : State) : Bool := s.safe.diag.released && !s.procLatched && !s.anyDemand && s.procOk

def State.showProc (s : State) : State := (s.setBit Reg.safeStatus 0 s.procEnable).busUpdate

/-! ### The mirror -/

/-- The mirror takes the present values: step 6 of a tick, after which its words stand until the next (R291). -/
def State.showMirror (s : State) : State :=
  { s with safe := { s.safe with
    mirror := (List.range 14).foldl (fun m k =>
      sparseSet resetValue m (Reg.safeStatus + 4 * k) (s.rd (Reg.safeStatus + 4 * k))) s.safe.mirror } }

/-- A word of the mirror. -/
def State.mirrorWord (s : State) (a : Nat) : Word := sparseGet resetValue s.safe.mirror a

/-! ### LOCKOUT -/

/-- A pending arm is discarded (R314). -/
def State.dropArm (s : State) : State :=
  ((({ s with safe := { s.safe with arm := none } }).put Reg.safeStatus 7 1 0)).put Reg.safeStatus 16 7 0

/-- Every safe output is commanded off (R300). -/
def State.outputsOff (s : State) : State := s.put Reg.safeOutState 0 8 0

/-- A cause arises at the processor (R309): it latches LOCKOUT with it, or adds it to the set of a standing latch, which
discards a pending arm (R314). A cause already recorded changes nothing. -/
def State.latchLockout (s : State) (code index : Nat) : State :=
  if ¬ s.procLatched then
    let s := { s with safe := { s.safe with causes := [(code, index)],
                                            rst := { s.safe.rst with lowA := false, lowB := false, hold := 0 } } }
    let s := s.wr Reg.safeCause (word (code + index % 2 ^ 8 * 2 ^ 8 + 2 ^ (15 + code)))
    let s := ((s.setBit Reg.safeStatus 4 true).setBit Reg.safeStatus 5 true).setBit Reg.safeStatus 6 true
    let s := (s.wr Reg.safeLockoutCount (s.rd Reg.safeLockoutCount + 1)).raise 0x0900 []
    let s := if s.safe.arm.isSome then s.dropArm else s
    (s.outputsOff.showLattice).showProc
  else if s.safe.causes.contains (code, index) then s
  else
    let s := { s with safe := { s.safe with causes := s.safe.causes ++ [(code, index)] } }
    let s := if s.safe.arm.isSome then s.dropArm else s
    (s.setBit Reg.safeCause (15 + code) true).raise 0x0901 []

/-- The lattice latches by itself (R288); the processor records the cause at its next tick (R289). -/
def State.latticeLatches (s : State) (code index : Nat) : State := (s.latticeLatch code index).busUpdate

/-- The processor latches a cause in step 3 of a tick: no release of the same tick finds it cleared (R291, R315). -/
def State.latchNow (s : State) (code index : Nat) : State :=
  let s := s.latchLockout code index
  { s with safe := { s.safe with latched := s.safe.latched ++ [(code, index)] } }

/-- A lattice cause takes effect at the processor, and the lattice's latch stands. -/
def State.recordLattice (s : State) : State :=
  let cs := s.safe.latticeCauses
  let s := { s with safe := { s.safe with latticeCauses := [] } }
  cs.foldl (fun s c => s.latchNow c.1 c.2) s

/-- Whether a recorded cause counts as cleared (R308, R315); `testOk` is the result of a lattice test run now. -/
def State.causeCleared (s : State) (testOk : Bool) (c : Nat × Nat) : Bool :=
  if s.safe.latched.contains c then false
  else match c.1 with
  | 1 => s.bit Reg.safeSfState c.2
  | 2 => (s.safeIn c.2).shown && decide ((s.safeIn c.2).disc = 0)
  | 3 => !s.bit Reg.safeOutState (8 + c.2) && !s.bit Reg.safeOutState (16 + c.2)
  | 4 => true
  | 5 => s.safe.diag.restarted && decide (s.fld Reg.safeDiag 0 4 ≤ 1)
  | 6 => decide (16 ≤ s.safe.diag.beats)
  | 7 => testOk
  | 8 => !s.safe.diag.memLasting
  | 9 => true
  | 10 => s.bit Reg.safeStatus 9
  | _ => false

/-- The recorded causes not cleared, earliest first. -/
def State.standing (s : State) (testOk : Bool) : List (Nat × Nat) :=
  s.safe.causes.filter (fun c => !s.causeCleared testOk c)

/-- The set of causes not cleared, laid out as SAFE_CAUSE (R311). -/
def causeWord (l : List (Nat × Nat)) : Word :=
  match l with
  | [] => 0
  | c :: _ => word (c.1 + c.2 % 2 ^ 8 * 2 ^ 8 + bitsOf 10 (fun i => l.any (fun d => d.1 == i + 1)) * 2 ^ 16)

/-- A pair whose discrepancy timer has reached N and whose fault has not been raised (R295). -/
def State.discDue (s : State) (i : Nat) : Bool :=
  decide (s.inMode i ≠ 0) && decide (s.fld (Reg.safeInCfg i) 2 12 ≤ (s.safeIn i).disc) && !(s.safeIn i).faulted

/-- Some pair's discrepancy fault is due at this tick. -/
def State.anyDisc (s : State) : Bool := (List.range 16).any s.discDue

/-- Both latches, the cause set, the fault bits and a pending arm are cleared. -/
def State.clearCauses (s : State) : State :=
  let s := s.setRst { s.safe.rst with hold := 0 }
  let s : State := { s with safe := { s.safe with causes := [] } }
  let s := s.wr Reg.safeCause 0
  let s := s.put Reg.safeInLogic 16 16 0
  let s := s.put Reg.safeOutState 24 8 0
  let s := s.put Reg.safeStatus 4 3 0
  s.dropArm

/-- The source of output `n` is in run (R300). -/
def State.outSource (s : State) (n : Nat) : Bool :=
  let c := s.rd (Reg.safeOutCfg n)
  if field c 1 1 = 1 then s.bit Reg.safeSfState (field c 2 5) else s.bit Reg.safeStatus 0 && s.bit Reg.safeStatus 1

/-- Output `n` is on: enabled, released, its source in run, no LOCKOUT (R300). -/
def State.outOn (s : State) (n : Nat) : Bool :=
  s.bit (Reg.safeOutCfg n) 0 && s.safe.diag.released && s.outSource n && !s.procLatched

/-- The release of LOCKOUT (R311): both latches, the cause set and the fault bits clear; the lattice stays latched with
cause 0x07 where a lattice-marked input shows demand; otherwise each safe output returns to its source. `persist` names
gate channels whose fault persists (R279). -/
def State.releaseLockout (s : State) (persist : List Nat) : State :=
  let s := s.clearCauses
  let s := (s.raise 0x0902 []).gateRelease persist
  if s.safe.diag.demand ≠ 0 then s.latchLockout 7 0
  else
    let s := s.showLattice.showProc
    s.put Reg.safeOutState 0 8 (bitsOf 8 s.outOn)

/-- A lattice test has been run: its age starts again, and lattice_tested shows its result (R292). -/
def State.latticeTested (s : State) (ok : Bool) : State :=
  (s.setDiag { s.safe.diag with testTick := 0, testDue := false }).setBit Reg.safeStatus 10 ok

/-- A release is evaluated (R311): it takes place where every recorded cause counts as cleared, and is refused
otherwise. Cause 0x07 has the lattice tested at the release (R308). -/
def State.tryRelease (s : State) (testOk : Bool) (persist : List Nat) : State × Bool :=
  let s := if s.safe.causes.any (fun c => c.1 == 7) then s.latticeTested testOk else s
  match s.standing testOk with
  | [] => (s.releaseLockout persist, true)
  | l => (s.raise 0x0903 [causeWord l], false)

/-! ### Safe outputs -/

/-- Output `n` faults: both switches open, SOUT_FAULT, its fault bit, and LOCKOUT with cause 0x03 (R302). -/
def State.faultOutput (s : State) (n : Nat) : State :=
  let s := (s.setBit Reg.safeOutState n false).setBit Reg.safeOutState (24 + n) true
  (s.raise 0x0906 []).latchLockout 3 n

/-! ### Safe data -/

/-- CRC-32 of R303: polynomial 0xF4AC_FB13, initial value all ones, most significant bit first (log entry 18, DEDUCED).
-/
def safeCrcBit (c : Nat) : Nat := if 2 ^ 31 ≤ c then (2 * c % 2 ^ 32) ^^^ 0xF4ACFB13 else 2 * c

def safeCrcByte (c : Nat) (b : Byte) : Nat :=
  safeCrcBit (safeCrcBit (safeCrcBit (safeCrcBit (safeCrcBit (safeCrcBit (safeCrcBit (safeCrcBit
    (c ^^^ (b.toNat * 2 ^ 24)))))))))

def safeCrc (bs : List Byte) : Word := word (bs.foldl safeCrcByte 0xFFFFFFFF)

/-- The first eight bytes of a safe frame (R303) (log entry 18, DEDUCED). -/
def safeFrame (node stream seq : Nat) (data : Word) : List Byte :=
  n16 (node % 2 ^ 12 + stream % 2 ^ 4 * 2 ^ 12) ++ n16 seq ++ wordBytes data

/-- State of subscription `r`: 0 NORMAL, 1 DEGRADED, 2 safe value, 3 disabled. -/
def State.rxState (s : State) (r : Nat) : Nat := s.fld Reg.safeRxState (2 * r) 2
def State.setRxState (s : State) (r st : Nat) : State := s.put Reg.safeRxState (2 * r) 2 st

/-- Subscription `r` takes the safe value: 0 in every bit (R305). -/
def State.toSafeValue (s : State) (r : Nat) : State :=
  (s.setSafeSub r { s.safeSub r with value := 0, good := 0, window := 0 }).setRxState r 2

/-- Subscription `r` is lost: the safe value, and SAFE_DATA_LOST (R305, R306) (log entry 95, DEDUCED). -/
def State.loseSub (s : State) (r : Nat) : State :=
  ((s.toSafeValue r).countUp Reg.safeDataCount 16 16 1).raise 0x0908 []

/-- One fabric cycle of subscription `r` is judged on its valid copies (R305 to R307); one held at the safe value stays
there in a one-plane cycle (log entry 95, DEDUCED). -/
def State.judgeCycle (s : State) (r : Nat) (cx cy : Option SafeCopy) : State :=
  let v := s.safeSub r
  let st := s.rxState r
  match cx, cy with
  | some a, some b =>
    if a = b then
      if st = 2 ∧ v.good + 1 < 8 then s.setSafeSub r { v with good := v.good + 1 }
      else (s.setSafeSub r { v with value := a.data, good := 0, window := 0 }).setRxState r 0
    else ((s.toSafeValue r).countUp Reg.safeDataCount 0 16 1).raise 0x0907 []
  | none, none => s.loseSub r
  | some a, none | none, some a =>
    if s.fld (Reg.safeRxCfg r) 17 6 = 0 then s.loseSub r
    else if st = 2 then s.setSafeSub r { v with good := 0 }
    else if st = 1 then (s.setSafeSub r { v with value := a.data }).raise 0x0909 []
    else ((s.setSafeSub r { v with value := a.data, window := 0 }).setRxState r 1).raise 0x0909 []

/-- A plane at the end of a fabric cycle: without a valid copy it is missing, and after 4 such cycles it has no last
valid seq (R304). -/
def SafePlane.endCycle (p : SafePlane) : SafePlane :=
  match p.copy with
  | some _ => { p with copy := none, newRef := false, missing := 0 }
  | none =>
    if 3 ≤ p.missing ∧ ¬ p.newRef then { p with missing := 4, ref := none }
    else { p with newRef := false, missing := p.missing + 1 }

/-- A fabric cycle ends: its copies of every enabled subscription wait for the next safety tick (R291, R305). -/
def State.safeCycleEnd (s : State) : State :=
  (List.range 16).foldl (fun s r =>
    if s.bit (Reg.safeRxCfg r) 0 then
      let v := s.safeSub r
      s.setSafeSub r { v with x := v.x.endCycle, y := v.y.endCycle, ended := v.ended ++ [(v.x.copy, v.y.copy)] }
    else s) s

/-- A copy past its crc, subscription and slot checks: valid 1 to 4 ahead of the last valid seq; the new reference where
the plane has none, against which copies are judged from the next cycle on (R304). -/
def SafePlane.take (p : SafePlane) (c : SafeCopy) : SafePlane :=
  match p.ref with
  | none => { p with ref := some c.seq, newRef := true, missing := 0 }
  | some k =>
    let d := (c.seq + 2 ^ 16 - k) % 2 ^ 16
    if ¬ p.newRef ∧ 1 ≤ d ∧ d ≤ 4 then { p with ref := some c.seq, copy := some c } else p

/-! ### Safety inputs and functions -/

/-- What pair `i` shows in the raw levels: channel A in run, channel B in run (R294). -/
def State.pairRun (s : State) (raw : Word) (i : Nat) : Bool × Bool :=
  (field raw i 1 == 1, (field raw (16 + i) 1 == 1) == (s.inMode i == 1))

/-- A pair is sampled (R294 to R296): its timer, its hold in demand, and its logical value. -/
def State.samplePair (s : State) (raw : Word) (i : Nat) : State :=
  if s.inMode i = 0 then s else
  let (a, b) := s.pairRun raw i
  let v := s.safeIn i
  let both : Bool := !a && !b
  let s := s.setBit Reg.safeInLogic i (a && b && !v.held)
  s.setSafeIn i
    { disc := if a = b then 0 else v.disc + 1, faulted := if a = b then false else v.faulted,
      held := v.held && !both, shown := v.shown || both }

/-- The source of function `f` is in run (R297). -/
def State.sfRun (s : State) (f : Nat) : Bool :=
  let c := s.rd (Reg.safeSfCfg f)
  let k := field c 2 9
  if field c 1 1 = 0 then s.bit Reg.safeInLogic (k % 16)
  else field (s.safeSub (k / 32)).value (k % 32) 1 == 1

/-- The functions are evaluated: SAFE_SF_STATE, the processor's enable, and LOCKOUT at the first tick of a demand with
that reaction (R297). -/
def State.runFunctions (s : State) : State :=
  let was := s.safe.demand
  let on (f : Nat) : Bool := s.bit (Reg.safeSfCfg f) 0
  let run := bitsOf 32 (fun f => on f && s.sfRun f)
  let now := bitsOf 32 (fun f => on f && !s.sfRun f)
  let s := ({ s with safe := { s.safe with demand := now } }).wr Reg.safeSfState (word run)
  let s := (List.range 32).foldl (fun s f =>
    if now / 2 ^ f % 2 = 1 ∧ was / 2 ^ f % 2 = 0 ∧ s.bit (Reg.safeSfCfg f) 11 then s.latchNow 1 f else s) s
  s.showProc

end Sys2Proof.Machine
end

