-- ==== Sys2Proof/Machine/Shut.lean ====
section
/-! DEFINITION. The acquisition engine: samples, film, triggers, mask tests, records, and its opcodes (R391 to R413). -/

namespace Sys2Proof.Machine

/-! ### Configuration of a shutter -/

def State.shutOn (s : State) (q : Nat) : Bool := s.bit (Reg.shutSCfg q) 0
def State.shutPreset (s : State) (q : Nat) : Nat := s.fld (Reg.shutSCfg q) 2 2

/-- The byte of slot `i` in SHUT_Ss_CHq: channel and valid bit. -/
def State.slotByte (s : State) (q i : Nat) : Nat := s.fld (Reg.shutSCh q (i / 4)) (i % 4 * 8) 8

/-- The channels of a shutter's valid slots, in slot order. -/
def State.shutChans (s : State) (q : Nat) : List Nat :=
  ((List.range 16).filter (fun i => decide (128 ≤ s.slotByte q i))).map (fun i => s.slotByte q i - 128)

/-- The line groups a shutter records. -/
def State.shutGroups (s : State) (q : Nat) : List Nat := indicesWhere 8 (fun g => s.bit (Reg.shutSCfg q) (24 + g))

/-- Words of a sample (R391). -/
def State.shutWords (s : State) (q : Nat) : Nat := (s.shutChans q).length + (s.shutGroups q).length

def State.shutLead (s : State) (q : Nat) : Nat := s.fld (Reg.shutSLead q) 0 20
def State.shutPost (s : State) (q : Nat) : Nat := s.fld (Reg.shutSPost q) 0 20

/-- seg_bytes of R395. -/
def State.segBytes (s : State) (q : Nat) : Nat :=
  64 + (4 * s.shutWords q * (s.shutLead q + s.shutPost q) + 63) / 64 * 64

/-- The number of segments of R395. -/
def State.segments (s : State) (q : Nat) : Nat := min (s.fld (Reg.shutSFilm q) 8 8 * 0x10000 / s.segBytes q) 4096

/-- The first byte of segment `g` of shutter `q`'s film. -/
def State.segBase (s : State) (q g : Nat) : Nat := s.fld (Reg.shutSFilm q) 0 8 * 0x10000 + g * s.segBytes q

/-! ### Bandwidth admission (R408, R409) -/

/-- The output rate of channel `c`'s preset `p` in outputs per second, as a fraction. -/
def State.outRate (s : State) (c p : Nat) : Nat × Nat :=
  if c < 64 then (5000000, sarDecim p)
  else if s.bit (Reg.convBsCfg (c - 64)) 1 then (200000000, s.fld (Reg.convBsCfg (c - 64)) 3 6 * sincDecim p)
  else (25000000, sincDecim p)

/-- R_s of R408 as a fraction (log entry 30, DEDUCED). -/
def State.captureRate (s : State) (q : Nat) : Nat × Nat :=
  let (n, d) := s.outRate (s.slotByte q 0 % 128) (s.shutPreset q)
  (4 * s.shutWords q * n, d * (s.fld (Reg.shutSCfg q) 8 16 + 1))

/-- Whether the film of shutter `q` touches bank `b`. -/
def State.filmTouches (s : State) (q b : Nat) : Bool :=
  let g := s.fld (Reg.shutSFilm q) 0 8
  let n := s.fld (Reg.shutSFilm q) 8 8
  decide (g < 16 * (b + 1)) && decide (16 * b < g + n)

/-- The sum of R409 for bank `b` as a fraction (log entry 30, DEDUCED). -/
def State.bankRate (s : State) (b : Nat) : Nat × Nat :=
  (List.range 8).foldl (fun (a : Nat × Nat) q =>
    if s.shutOn q && s.filmTouches q b then
      let r := s.captureRate q
      (a.1 * r.2 + r.1 * a.2, a.2 * r.2)
    else a) (0, 1)

/-- The limit of R409 for bank `b` in bytes per second. -/
def State.bankLimit (s : State) (b : Nat) : Nat :=
  if s.fld Reg.memFrCfg 0 8 / 16 = b then 1249360000 else 1250000000

/-- SHUT_BANKb_RATE shows the admitted sums in MB/s, rounded up, and MEM_STATUS the banks that hold film (R367, R409). -/
def State.showFilm (s : State) : State :=
  let s := (List.range 16).foldl (fun s b =>
    let r := s.bankRate b
    s.put (Reg.shutBankRate b) 0 16 ((r.1 + r.2 * 1000000 - 1) / (r.2 * 1000000))) s
  s.put Reg.memStatus 16 16 (bitsOf 16 s.bankHoldsFilm)

/-! ### Status lines (R393) -/

/-- Gate channel `c` is in TURN_ON or ON. -/
def State.chanConducts (s : State) (c : Nat) : Bool :=
  s.chanState c == .turnOn || s.chanState c == .on

/-- Whether pad PWXn is high: the level its driver gives it, else the one `ext` it finds at high impedance (R205, R241). -/
def State.pwxHigh (s : State) (n : Nat) (ext : Bool) : Bool := (s.pwxPad n).getD ext

/-- The levels of the DIO pads: those the program drives, and `ext` at the others (R335). -/
def State.dioPads (s : State) (ext : Word) : Word :=
  let dir := s.rd Reg.cycleDioDir
  (s.rd Reg.cycleDioOut &&& dir) ||| (ext &&& ~~~dir)

/-- Line `i` of group `g`. `pads` holds the levels from outside of pads PWX0 to PWX11, BRK_FB, LOCKOUT_RST_A, LOCKOUT_RST_B,
KEY_RUN and KEY_STOP in bits 0 to 16, `dio` those of the DIO pads, and `sins` the filtered channels of the safety inputs. -/
def State.line (s : State) (pads dio sins : Word) (g i : Nat) : Bool :=
  let pad (k : Nat) : Bool := field pads k 1 == 1
  match g with
  | 0 => s.chanConducts i
  | 1 =>
    if i < 16 then s.chanConducts (32 + i)
    else if i < 28 then s.pwxHigh (i - 16) (pad (i - 16))
    else if i < 29 then pad (i - 16)
    else if i = 29 then s.lbit Reg.laneMode 16
    else if i = 30 then s.lbit Reg.laneMode 17
    else s.bit Reg.gateStatus 0
  | 2 =>
    if i < 16 then s.bankBit (Reg.pwmTripSrc0 s.activeLane) i
    else if i < 24 then s.bit (Reg.pwmStatus s.activeLane) i
    else if i = 24 then s.bit Reg.safeStatus 5 || s.bit Reg.safeStatus 6
    else if i = 25 then s.bit Reg.safeStatus 2
    else if i = 26 then s.bit Reg.safeStatus 1
    else if i = 27 then s.bit Reg.safeStatus 0
    else if i = 28 then s.bit (Reg.laneRedStatus 0) 0
    else if i = 29 then s.bit (Reg.laneRedStatus 1) 0
    else if i = 30 then s.limiting
    else false
  | 3 => s.cmpAsserted i
  | 4 => s.cmpAsserted (32 + i)
  | 5 => field sins i 1 == 1
  | 6 => if i < 8 then s.bit Reg.safeOutState i else if i < 12 then pad (i + 5) else false
  | _ => field (s.dioPads dio) i 1 == 1

/-- The 32 lines of group `g`. -/
def State.lineWord (s : State) (pads dio sins : Word) (g : Nat) : Word := word (bitsOf 32 (s.line pads dio sins g))

/-- Whether the pattern of R401 holds. -/
def State.patternHolds (s : State) (q : Nat) (pads dio sins : Word) : Bool :=
  let ok (g mask value : Nat) : Bool :=
    (s.lineWord pads dio sins g &&& s.rd mask) == (s.rd value &&& s.rd mask)
  ok (s.fld (Reg.shutSPat q) 0 3) (Reg.shutSPatMa q) (Reg.shutSPatVa q)
    && ok (s.fld (Reg.shutSPat q) 3 3) (Reg.shutSPatMb q) (Reg.shutSPatVb q)

/-! ### Words of a sample -/

/-- The result of channel `c` at preset `p` as film records it (R392). -/
def State.filmResult (s : State) (c p : Nat) : ChanResult :=
  let o := s.output c p
  let stale := decide (64 ≤ c) && s.bsStale (c - 64)
  let off := decide (64 ≤ c) && !s.bsEnabled (c - 64)
  { value := o.value, valid := o.settled && !s.owFlag c && !stale && !off, ow := s.owFlag c, stale := stale,
    settling := !s.isSettled c p, clip := o.clip }

/-- The film channel word of R392. -/
def filmWord (r : ChanResult) : Word :=
  word (codeOf 24 r.value + bitNat r.valid * 2 ^ 24 + bitNat r.ow * 2 ^ 25 + bitNat r.stale * 2 ^ 26
    + bitNat r.settling * 2 ^ 27 + bitNat r.clip * 2 ^ 28)

/-- The words of a sample of shutter `q`. -/
def State.filmWords (s : State) (q : Nat) (pads dio sins : Word) : List Word :=
  (s.shutChans q).map (fun c => filmWord (s.filmResult c (s.shutPreset q)))
    ++ (s.shutGroups q).map (s.lineWord pads dio sins)

/-! ### Film writes -/

/-- A write of the fault-record writer, the film writer or a lane spill: on a marked page it is not performed, but
counted, with MARKED_WRITE once per run (R362). The second part says whether it was performed (log entry 66, DEDUCED;
log entry 121, DEDUCED). -/
def State.writerStore (s : State) (a : Nat) (bs : List Byte) : State × Bool :=
  if s.pageMarked a then
    let s := s.countUp Reg.memMarkedWrite 0 16 1
    let run := s.memx.markRun
    let s := { s with memx := { s.memx with markRun := true } }
    (if run then s else s.raise 0x0B05 [], false)
  else (({ s with memx := { s.memx with markRun := false } }).wrBytes a bs, true)

/-- A film word reaches shared SRAM, or marks its record as having met a marked page (R362, R397). -/
def State.storeFilm (s : State) (w : FilmWord) : State :=
  let (s, done) := s.writerStore w.addr (wordBytes w.value)
  if done then s else s.setShutRun w.shutter { s.shutRun w.shutter with marked := true }

/-- The film writer writes the waiting words that satisfy `p`, oldest first. -/
def State.writeFilm (s : State) (p : FilmWord → Bool) : State :=
  let ws := s.shut.film.filter p
  ws.foldl State.storeFilm { s with shut := { s.shut with film := s.shut.film.filter (fun w => !p w) } }

/-! ### States of a shutter -/

def State.shutState (s : State) (q : Nat) : Nat := s.fld (Reg.shutSState q) 0 2

/-- The state register and the summaries of SHUT_STATUS. -/
def State.setShutState (s : State) (q st : Nat) : State :=
  let s := s.put (Reg.shutSState q) 0 2 st
  let s := s.setBit Reg.shutStatus q (decide (st = 1 ∨ st = 2))
  (s.setBit Reg.shutStatus (8 + q) (decide (st = 2))).setBit Reg.shutStatus (16 + q) (decide (st = 3))

def State.unread (s : State) (q : Nat) : Nat := s.fld (Reg.shutSState q) 15 13

/-- The shutter is ARMED for a new record in its current segment. -/
def State.beginRecord (s : State) (q : Nat) : State :=
  let v := s.shutRun q
  (s.setShutRun q { v with rearm := false, pattern := none, written := 0, next := 0, samples := [], trig := none,
                           marked := false, track := { v.track with quiet := 0 } }).setShutState q 1

/-- Whether the shutter may arm: its next segment is free, or full_act frees the oldest record (R406). -/
def State.freeSegment (s : State) (q : Nat) : Option State :=
  if s.unread q < s.segments q then some s
  else if s.bit (Reg.shutSCfg q) 4 then
    some (((s.put (Reg.shutSState q) 15 13 (s.unread q - 1)).countUp (Reg.shutSCount q) 0 16 1).raise 0x0C03 [])
  else none

/-- The shutter arms, or goes FULL with FILM_FULL (R406). -/
def State.armShutter (s : State) (q : Nat) : State :=
  match s.freeSegment q with
  | some s => s.beginRecord q
  | none => (s.setShutState q 3).raise 0x0C02 []

/-- Which orders a sample of an armed or triggered shutter must still obey. -/
structure ShutCall where
  trigger : Bool
  stop : Bool
  deriving DecidableEq, Repr

/-- One order acts at a sample (R405). -/
def State.obey (q : Nat) (a : State × ShutCall) (o : ShutOrder) : State × ShutCall :=
  let (s, c) := a
  match o with
  | .arm single => if s.shutState q = 0 then ((s.setBit (Reg.shutSState q) 28 single).armShutter q, c) else (s, c)
  | .trigger => (s, if s.shutState q = 1 then { c with trigger := true } else c)
  | .stop =>
    if s.shutState q = 3 ∨ (s.shutState q = 1 ∧ ¬ c.trigger) then
      ((s.setShutRun q { s.shutRun q with rearm := false, pattern := none }).setShutState q 0, c)
    else (s, if s.shutState q = 1 ∨ s.shutState q = 2 then { c with stop := true } else c)

/-- An arming that R435 holds back: an accepted FIX set that changes the shutter has not applied. -/
def State.armHeld (s : State) (q : Nat) : ShutOrder → Bool
  | .arm _ => s.fixPends 6 q
  | _ => false

/-- The re-arming of R406 and the orders of R405 at a sample (log entry 59, DEDUCED). -/
def State.obeyOrders (s : State) (q : Nat) : State × ShutCall :=
  let s := if (s.shutRun q).rearm then s.armShutter q else s
  let os := (s.shutRun q).orders.filter (fun o => !s.armHeld q o)
  os.foldl (State.obey q) (s.setShutRun q { s.shutRun q with orders := (s.shutRun q).orders.filter (s.armHeld q) },
    { trigger := false, stop := false })

/-! ### Analogue triggers (R399, R400) -/

/-- The interpolated position of a crossing of `L` between samples `a` and `b` (R400). -/
def crossFrac (L a b : Int) : Nat :=
  let n := 512 * (L - a) + (b - a)
  let d := 2 * (b - a)
  (clampInt 1 256 (if 0 < d then n / d else (-n) / (-d))).toNat

/-- Which crossings a sample completes: rising or falling of level and of level2. -/
structure Crossings where
  up1 : Bool
  down1 : Bool
  up2 : Bool
  down2 : Bool
  deriving DecidableEq, Repr

/-- The crossings at value `b` after `prev`. -/
def ShutTrack.crossings (t : ShutTrack) (l1 l2 : Int) (b : Int) : Crossings :=
  match t.prev with
  | none => { up1 := false, down1 := false, up2 := false, down2 := false }
  | some a =>
    { up1 := t.low && decide (l1 ≤ b) && decide (a < l1), down1 := t.high && decide (b ≤ l1) && decide (l1 < a),
      up2 := t.low2 && decide (l2 ≤ b) && decide (a < l2), down2 := t.high2 && decide (b ≤ l2) && decide (l2 < a) }

/-- The hysteresis marks after value `b`. -/
def ShutTrack.marks (t : ShutTrack) (x : Crossings) (l1 l2 hyst : Int) (b : Int) : ShutTrack :=
  { t with
    low := (t.low && !x.up1) || decide (b ≤ l1 - hyst), high := (t.high && !x.down1) || decide (l1 + hyst ≤ b),
    low2 := (t.low2 && !x.up2) || decide (b ≤ l2 - hyst), high2 := (t.high2 && !x.down2) || decide (l2 + hyst ≤ b) }

/-- The window test of R399 on a width in 1/256 sample (log entry 46, DEDUCED). -/
def State.inWindow (s : State) (q w : Nat) : Bool :=
  let t1 := s.fld (Reg.shutSTime q) 0 16
  let t2 := s.fld (Reg.shutSTime q) 16 16
  (decide (256 * t1 ≤ w) && decide (w ≤ 256 * t2)) != s.bit (Reg.shutSTrig q) 7

/-- A valid sample `b` of the trigger channel: the new tracking and the position of a trigger in it. -/
def State.trackValid (s : State) (q : Nat) (t : ShutTrack) (b : Int) : ShutTrack × Option Nat :=
  let l1 := signedOf 24 (s.fld (Reg.shutSLevel q) 0 24)
  let l2 := signedOf 24 (s.fld (Reg.shutSLevel2 q) 0 24)
  let hyst : Int := s.fld (Reg.shutSLevel q) 24 8 * 4096
  let dir := s.fld (Reg.shutSTrig q) 5 2
  let x := t.crossings l1 l2 b
  let a := t.prev.getD b
  let f1 := crossFrac l1 a b
  let f2 := crossFrac l2 a b
  let p1 := 256 * t.count + f1
  let p2 := 256 * t.count + f2
  let rising : Bool := dir = 0 ∨ dir = 2
  let falling : Bool := dir = 1 ∨ dir = 2
  let edge := (x.up1 && rising) || (x.down1 && falling)
  let closes : Option Nat := match t.pulse with
    | some (r, from_) => if (r && x.down1) || (!r && x.up1) then some (p1 - from_) else none
    | none => none
  let opens : Option (Bool × Nat) := if edge then some (x.up1, p1) else if closes.isSome then none else t.pulse
  let crossed2 := t.crossed2 || (!x.up1 && (x.up2 || x.down2))
  let up := if x.up1 then some p1 else t.up
  let down := if x.down2 then some p2 else t.down
  let quiet := if edge then 0 else t.quiet + 1
  let slewUp : Option Nat := if x.up2 && rising then up.map (fun f => p2 - f) else none
  let slewDown : Option Nat := if x.down1 && falling then down.map (fun f => p1 - f) else none
  let hit : Option Nat := match s.fld (Reg.shutSTrig q) 2 3 with
    | 0 => if edge then some f1 else none
    | 1 => closes.bind (fun w => if s.inWindow q w then some f1 else none)
    | 2 => closes.bind (fun _ => if crossed2 then none else some f1)
    | 3 => if quiet = s.fld (Reg.shutSTime q) 0 16 ∧ ¬ edge then some 256 else none
    | _ =>
      match slewUp.filter (s.inWindow q), slewDown.filter (s.inWindow q) with
      | some _, _ => some f2
      | none, some _ => some f1
      | none, none => none
  ({ t.marks x l1 l2 hyst b with
     prev := some b, count := t.count + 1, pulse := opens, crossed2 := if edge then x.up1 && x.up2 else crossed2,
     up := if x.up2 then none else up, down := if x.down1 then none else down, quiet := quiet }, hit)

/-- A sample of the trigger channel: an invalid one forms no crossing and leaves the timing of TIMEOUT running. -/
def State.trackSample (s : State) (q : Nat) (r : ChanResult) : State × Option Nat :=
  let t := (s.shutRun q).track
  let (t, hit) :=
    if r.valid then s.trackValid q t r.value
    else
      let quiet := t.quiet + 1
      ({ t with prev := none, count := t.count + 1, quiet := quiet },
        if s.fld (Reg.shutSTrig q) 2 3 = 3 ∧ quiet = s.fld (Reg.shutSTime q) 0 16 then some 256 else none)
  (s.setShutRun q { s.shutRun q with track := t }, hit)

/-- The distance before sample k that the header stores for an interpolated position (R400). -/
def storedFrac (f : Nat) : Nat := 256 - f

/-! ### A sample -/

/-- The trigger that a sample of an ARMED shutter takes: kind and stored frac (R398). -/
def State.triggerOf (s : State) (q : Nat) (forced : Bool) (hit : Option Nat) (holds : Bool) : Option (Nat × Nat) :=
  match (s.shutRun q).pattern with
  | some f => some (1, f)
  | none =>
    let src := s.fld (Reg.shutSTrig q) 0 2
    let analogue : Bool := src = 0 ∨ (src = 2 ∧ holds)
    match hit with
    | some f => if analogue then some (0, storedFrac f) else if forced then some (2, 0) else none
    | none => if forced then some (2, 0) else none

/-- The sample's words are given to the film writer, and the sample is noted (R396). -/
def State.writeSample (s : State) (q : Nat) (ws : List Word) (invalid time : Nat) : State :=
  let v := s.shutRun q
  let area := s.shutLead q + s.shutPost q
  let base := s.segBase q (s.fld (Reg.shutSState q) 2 13) + 64 + 4 * s.shutWords q * v.next
  let film := ws.zipIdx.map (fun (w, i) => ({ shutter := q, addr := base + 4 * i, value := w } : FilmWord))
  let s := { s with shut := { s.shut with film := s.shut.film ++ film } }
  s.setShutRun q { v with written := v.written + 1, next := (v.next + 1) % area,
                          samples := ((time, invalid) :: v.samples).take area }

/-- The lowest zone that the sample at post index `k` violates (R402, R403). -/
def State.violated (s : State) (q k : Nat) : Option Nat :=
  (List.range 8).find? (fun z =>
    let c := s.rd (Reg.shutSZoneCfg q z)
    let r := s.filmResult (s.slotByte q (field c 1 4) % 128) (s.shutPreset q)
    field c 0 1 == 1 && decide (field c 12 20 ≤ k) && decide (k ≤ s.fld (Reg.shutSZoneEnd q z) 0 20) && r.valid
      && (decide (r.value < signedOf 24 (s.fld (Reg.shutSZoneLo q z) 0 24))
        || decide (signedOf 24 (s.fld (Reg.shutSZoneHi q z) 0 24) < r.value)))

/-- A post sample at index `k` has been written: the record closes at a violation, at a stop, or when it is full (R396,
R403, R405). -/
def State.closeTest (s : State) (q k : Nat) (stop : Bool) : State :=
  let v := s.shutRun q
  match s.violated q k with
  | some z =>
    let s := s.setShutRun q { v with closing := some { status := 1, zone := z, mask := word k } }
    (s.countUp (Reg.shutSCount q) 16 16 1).raise 0x0C01 []
  | none =>
    if stop then s.setShutRun q { v with closing := some { status := 2, zone := 0xFF, mask := 0xFFFFFFFF } }
    else if s.shutPost q ≤ k + 1 then
      s.setShutRun q { v with closing := some { status := 0, zone := 0xFF, mask := 0xFFFFFFFF } }
    else s

/-- A sample of an ARMED or TRIGGERED shutter (R396 to R403) (log entry 59, DEDUCED). -/
def State.takeSample (s : State) (q : Nat) (c : ShutCall) (hit : Option Nat) (pads dio sins : Word) (time : Nat) :
    State :=
  let invalid := ((s.shutChans q).filter (fun ch => !(s.filmResult ch (s.shutPreset q)).valid)).length
  let before := (s.shutRun q).written
  let s := s.writeSample q (s.filmWords q pads dio sins) invalid time
  if s.shutState q = 1 then
    match s.triggerOf q c.trigger hit (s.patternHolds q pads dio sins) with
    | none => s
    | some (kind, frac) =>
      let t : ShutTrig := { kind := kind, frac := frac, time := time, lead := min (s.shutLead q) before, post := 1 }
      let s := (s.setShutRun q { s.shutRun q with trig := some t, pattern := none }).setShutState q 2
      s.closeTest q 0 c.stop
  else
    match (s.shutRun q).trig with
    | none => s
    | some t =>
      (s.setShutRun q { s.shutRun q with trig := some { t with post := t.post + 1 } }).closeTest q t.post c.stop

/-- Whether the pacing outputs of a sample have come (R392); Shutter stops in the hold-up (R523) (log entry 98,
DEDUCED). -/
def State.sampleDue (s : State) (q : Nat) : Bool :=
  decide (q < 8) && !s.bit Reg.sysStatus 4 && s.shutOn q && decide (s.fld (Reg.shutSCfg q) 8 16 + 1 ≤ (s.shutRun q).pace)

/-- Shutter `q` takes a sample at linear time `time`, with the pad levels of `State.line`: the orders that wait, the
tracker, and the record (R392 to R400). -/
def State.shutterSample (s : State) (q : Nat) (pads dio sins : Word) (time : Nat) : State :=
  let v := s.shutRun q
  let s := s.setShutRun q { v with pace := v.pace - (s.fld (Reg.shutSCfg q) 8 16 + 1) }
  let (s, c) := if v.closing.isSome then (s, { trigger := false, stop := false }) else s.obeyOrders q
  let (s, hit) := s.trackSample q (s.filmResult (s.slotByte q (s.fld (Reg.shutSTrig q) 8 4) % 128) (s.shutPreset q))
  if (s.shutState q = 1 ∨ s.shutState q = 2) ∧ v.closing = none then s.takeSample q c hit pads dio sins time
  else s

/-- SHUTTER_SAMPLE (R392): its instant is `dt` CLK_PER ticks after the latest module tick (log entry 10, DESIGN CHOICE).
-/
def execShutterSample (q : Nat) (pads dio sins : Word) (dt : Nat) (s : State) : Host.Outcome State Fault Refusal :=
  .next (if s.sampleDue q then s.shutterSample q pads dio sins (s.linearAt dt) else s)

/-- The pattern triggers shutter `q` at the `back`-th latest sample, `frac` before its place (R398, R401). -/
def State.patternAt (s : State) (q back frac : Nat) : State :=
  let v := s.shutRun q
  if back = 0 then s.setShutRun q { v with pattern := some frac }
  else
    let time := ((v.samples[back - 1]?).getD (0, 0)).1
    let t : ShutTrig :=
      { kind := 1, frac := frac, time := time, lead := min (s.shutLead q) (v.written - back), post := back }
    let v := { v with trig := some t }
    let v := if s.shutPost q ≤ back then
        { v with closing := some ({ status := 0, zone := 0xFF, mask := 0xFFFFFFFF } : ShutEnd) }
      else v
    (s.setShutRun q v).setShutState q 2

/-- The pattern of armed shutter `q` may trigger it now (R401, R523) (log entry 98, DEDUCED). -/
def State.patternDue (s : State) (q back frac held : Nat) (pads dio sins : Word) : Bool :=
  let v := s.shutRun q
  decide (q < 8) && !s.bit Reg.sysStatus 4 && s.shutOn q && decide (s.shutState q = 1) && !v.rearm && v.pattern.isNone
    && decide (s.fld (Reg.shutSTrig q) 0 2 = 1) && s.patternHolds q pads dio sins
    && decide (s.fld (Reg.shutSPat q) 16 16 ≤ held) && decide (frac < 256)
    && decide (back ≤ v.samples.length) && decide (back ≤ s.shutPost q)

/-- PATTERN_TRIGGER (R401): the pattern, false since arming, became true and has held for `held` CLK_CTL cycles, dur at
least. Sample k is the `back`-th latest sample, or the next one for `back` 0, and `frac` the distance to it (log entry
59, DEDUCED). -/
def execPatternTrigger (q back frac held : Nat) (pads dio sins : Word) (s : State) : Host.Outcome State Fault Refusal :=
  .next (if s.patternDue q back frac held pads dio sins then s.patternAt q back frac else s)

/-- Bytes 0 to 59 of a record header (R397). -/
def State.recordHead (s : State) (q : Nat) (t : ShutTrig) (e : ShutEnd) : List Byte :=
  let v := s.shutRun q
  let area := s.shutLead q + s.shutPost q
  let got := t.lead + t.post
  let invalid := (v.samples.take got).foldl (fun a x => a + x.2) 0
  n16 0xF11A ++ n8 q ++ n8 (e.status + (if v.marked then 128 else 0)) ++ n32 ((s.rd (Reg.shutSSeq q)).toNat + 1)
    ++ n32 t.time ++ n32 (t.time / 2 ^ 32 % 2 ^ 16) ++ n8 t.frac ++ n8 t.kind ++ n8 (s.shutWords q) ++ n8 e.zone
    ++ n32 t.lead ++ n32 t.post ++ n32 ((v.next + 2 * area - got) % area) ++ wordBytes e.mask ++ n32 invalid
    ++ List.replicate 20 0

/-- After a record: a single shot idles; otherwise the shutter arms again at its next sample, or goes FULL (R406). -/
def State.afterRecord (s : State) (q : Nat) : State :=
  if s.bit (Reg.shutSState q) 28 then s.setShutState q 0
  else if s.unread q < s.segments q ∨ s.bit (Reg.shutSCfg q) 4 then s.setShutRun q { s.shutRun q with rearm := true }
  else (s.setShutState q 3).raise 0x0C02 []

/-- The record that ends as `e`, with trigger `t`, is closed: its last words and its header are written, the segment
counts as unread, and its notice is appended (R397). -/
def State.closeRecord (s : State) (q : Nat) (e : ShutEnd) (t : ShutTrig) : State :=
  let s := s.writeFilm (fun w => w.shutter == q)
  let base := s.segBase q (s.fld (Reg.shutSState q) 2 13)
  let s := if s.pageMarked base then s.setShutRun q { s.shutRun q with marked := true } else s
  let head := s.recordHead q t e
  let (s, _) := s.writerStore base (head ++ wordBytes (crc32c head))
  let s := (s.wr (Reg.shutSSeq q) (s.rd (Reg.shutSSeq q) + 1)).put (Reg.shutSState q) 15 13 (s.unread q + 1)
  let s := s.put (Reg.shutSState q) 2 13 ((s.fld (Reg.shutSState q) 2 13 + 1) % s.segments q)
  let s := s.setShutRun q { s.shutRun q with closing := none, trig := none }
  let s := s.raise 0x0C00 []
  let r := 40 + s.fld (Reg.shutSCfg q) 5 3
  let s := if s.ringEnabled r then s.offer r 1 (head.take 48) else s
  s.afterRecord q

/-- RECORD_CLOSED (R397). -/
def execRecordClosed (q : Nat) (s : State) : Host.Outcome State Fault Refusal :=
  .next (match (s.shutRun q).closing, (s.shutRun q).trig with
    | some e, some t => s.closeRecord q e t
    | _, _ => s)

/-- FILM_WRITE (R367): on a bank that holds film, the film writer's reserved cycle takes the oldest waiting 64-bit
beat. -/
def execFilmWrite (b : Nat) (s : State) : Host.Outcome State Fault Refusal :=
  .next (match s.shut.film.find? (fun w => w.addr / 0x100000 == b) with
    | some w => if s.bankHoldsFilm b then
        (s.writeFilm (fun x => x.addr / 8 == w.addr / 8 && x.shutter == w.shutter)).countBeats b 1 0 1 0
      else s
    | none => s)

/-! ### Opcodes and the program's orders -/

/-- Who gives a shutter its orders (R404). -/
def State.shutOwner (s : State) (q : Nat) : Source := if s.bit (Reg.shutSCfg q) 1 then .program else .host

/-- Checks 2 and 3 of R404. -/
def State.shutCheck (s : State) (src : Source) (q : Nat) : Option Status :=
  if 8 ≤ q then some .outOfRange
  else if ¬ s.shutOn q ∨ s.shutOwner q ≠ src then some .notPermitted
  else none

/-- Whether the state admits an order (R405). -/
def State.admits (s : State) (q : Nat) : ShutOrder → Bool
  | .arm _ => s.shutState q == 0
  | .trigger => s.shutState q == 1
  | .stop => s.shutState q != 0

/-- The order acts at the shutter's next sample. -/
def State.order (s : State) (q : Nat) (o : ShutOrder) : State :=
  s.setShutRun q { s.shutRun q with orders := (s.shutRun q).orders ++ [o] }

/-- Every closed record up to `seq` is freed, oldest first (R405), and a FULL shutter arms again (R406). -/
def State.releaseRecords (s : State) (q seq : Nat) : State :=
  let s := s.put (Reg.shutSState q) 15 13 (min (s.unread q) ((s.rd (Reg.shutSSeq q)).toNat - seq))
  if s.shutState q = 3 ∧ s.unread q < s.segments q then s.setShutRun q { s.shutRun q with rearm := true } else s

/-- The checks of R404 and an order. -/
def State.runOrder (s : State) (op : Nat) (p : Packet) (o : ShutOrder) : State :=
  let q := leAt p.payload 0 1
  match s.leaseCheck 6 q p with
  | some st => s.finish op p st []
  | none =>
    match s.shutCheck .host q with
    | some st => s.finish op p st []
    | none => if s.admits q o then (s.order q o).finish op p .ok [] else s.finish op p .notPermitted []

/-- SHUTTER_ARM (R405): an accepted FIX set that changes the shutter holds it back (R435). -/
def execShutterArm (p : Packet) (s : State) : Host.Outcome State Fault Refusal :=
  .next (s.command 0x0400 p (decide (p.payload.length = 4))
    (fun s => s.runOrder 0x0400 p (.arm (leAt p.payload 1 1 % 2 == 1))))

/-- SHUTTER_STOP (R405). -/
def execShutterStop (p : Packet) (s : State) : Host.Outcome State Fault Refusal :=
  .next (s.command 0x0401 p (decide (p.payload.length = 4)) (fun s => s.runOrder 0x0401 p .stop))

/-- SHUTTER_TRIGGER (R405). -/
def execShutterTrigger (p : Packet) (s : State) : Host.Outcome State Fault Refusal :=
  .next (s.command 0x0402 p (decide (p.payload.length = 4)) (fun s => s.runOrder 0x0402 p .trigger))

/-- SHUTTER_RELEASE's checks and effect (R404, R405). -/
def State.runShutRelease (s : State) (p : Packet) : State :=
  let q := leAt p.payload 0 1
  let seq := leAt p.payload 4 4
  match s.leaseCheck 6 q p with
  | some st => s.finish 0x0403 p st []
  | none =>
    match s.shutCheck .host q with
    | some st => s.finish 0x0403 p st []
    | none =>
      if (s.rd (Reg.shutSSeq q)).toNat < seq then s.finish 0x0403 p .outOfRange []
      else (s.releaseRecords q seq).finish 0x0403 p .ok []

/-- SHUTTER_RELEASE (R405). -/
def execShutterRelease (p : Packet) (s : State) : Host.Outcome State Fault Refusal :=
  .next (s.command 0x0403 p (decide (p.payload.length = 8)) (fun s => s.runShutRelease p))

/-- What SHUTTER_STATUS does (R404). -/
def State.runShutStatus (s : State) (p : Packet) : State :=
  let q := leAt p.payload 0 1
  if 8 ≤ q then s.finish 0x0404 p .outOfRange []
  else s.finish 0x0404 p .ok (wordsBytes [s.rd (Reg.shutSState q), s.rd (Reg.shutSSeq q)])

/-- SHUTTER_STATUS (R404). -/
def execShutterStatus (p : Packet) (s : State) : Host.Outcome State Fault Refusal :=
  .next (s.command 0x0404 p (decide (p.payload.length = 4)) (fun s => s.runShutStatus p))

/-- A SHUT register takes its fixed value (R413). A change of the sample or of the film starts the film anew (log entry
60, DEDUCED). -/
def State.applyShut (s : State) (a : Nat) (v : Word) : State :=
  let s := s.wr a v
  let q := (a - 0x100B0100) / 0x80
  let o := (a - 0x100B0100) % 0x80
  if a < 0x100B0800 then
    let s := if o < 0x20 ∧ s.unread q = 0 then s.put (Reg.shutSState q) 2 13 0 else s
    let s := if o < 0x20 then s.setShutRun q { s.shutRun q with pace := 0, track := ShutTrack.start } else s
    s.showFilm
  else s

end Sys2Proof.Machine
end

