-- ==== Sys2Proof/Machine/Cycle.lean ====
section
/-! DEFINITION. The cycle program: its image and the loader's checks (R319 to R335), tasks, dispatch and release (R323 to
R331), stopping, safe values, discarded calls and lost cores (R337 to R347), and forces (R352 to R355). -/

namespace Sys2Proof.Machine

/-! ### The image -/

/-- Codes of the block library catalogue (R332). -/
def inCatalogue (c : Nat) : Bool :=
  [(0x01, 0x0A), (0x10, 0x18), (0x20, 0x26), (0x28, 0x2D), (0x30, 0x32), (0x34, 0x36), (0x38, 0x3B), (0x40, 0x47),
   (0x48, 0x4C), (0x50, 0x53), (0x58, 0x5C), (0x5E, 0x5F)].any (fun r => decide (r.1 ≤ c) && decide (c ≤ r.2))

/-- Whether a cyclic task's word is one that R323 allows. -/
def taskOk (w : Word) : Bool :=
  field w 31 1 == 0 || (decide (1 ≤ field w 0 10) && decide (field w 0 10 ≤ 1000)
    && decide (field w 10 10 < field w 0 10) && field w 20 11 == 0)

/-- The statement of R319 about the image as a whole. -/
def imageOk (bs : List Byte) : Bool :=
  let entries := leAt bs 6 2
  let params := leAt bs 14 2
  let n := 56 + 16 * entries + 8 * params + 4
  leAt bs 0 4 == 0xC7C10B1C && leAt bs 4 2 == 1 && decide (1 ≤ entries) && decide (entries ≤ 8192)
    && decide (1 ≤ leAt bs 13 1) && decide (leAt bs 13 1 ≤ 64) && decide (leAt bs 12 1 + leAt bs 13 1 ≤ 256)
    && decide (params ≤ 16384) && leAt bs 18 2 == 0 && (List.range 8).all (fun t => taskOk (word (leAt bs (20 + 4 * t) 4)))
    && bs.length == n && word (leAt bs (n - 4) 4) == crc32c (bs.take (n - 4))

/-- Reserved bits and the task of an entry (R320). -/
def entryOk (bs : List Byte) (i : Nat) : Bool :=
  let w := word (leAt bs (56 + 16 * i) 4)
  decide (field w 8 4 ≤ 8) && field w 13 3 == 0 && field w 24 8 == 0 && leAt bs (66 + 16 * i) 2 == 0
    && leAt bs (68 + 16 * i) 4 == 0

/-- Entry `i` of the call table (R320). -/
def callAt (bs : List Byte) (i : Nat) : Call :=
  let w := word (leAt bs (56 + 16 * i) 4)
  { type := field w 0 8, task := field w 8 4, convoy := if field w 12 1 = 1 then some (field w 16 8) else none,
    instance_ := leAt bs (60 + 16 * i) 4, length := leAt bs (64 + 16 * i) 2 }

/-- The program an image holds. -/
def parseProgram (bs : List Byte) : Program :=
  let entries := leAt bs 6 2
  let params := leAt bs 14 2
  let at_ := 56 + 16 * entries
  { tableId := word (leAt bs 8 4), crc := word (leAt bs (at_ + 8 * params) 4), first := leAt bs 12 1,
    size := leAt bs 13 1, tasks := (List.range 9).map (fun t => word (leAt bs (20 + 4 * t) 4)),
    calls := (List.range entries).map (callAt bs),
    params := (List.range params).map (fun k => (leAt bs (at_ + 8 * k) 4, word (leAt bs (at_ + 8 * k + 4) 4))) }

/-- Words of the program region. -/
def Program.words (g : Program) : Nat := g.size * 16384

/-! ### Instance records -/

/-- Words that an input reference takes in its record (R321): a constant's value is in the following word. -/
def refWords (r : Word) : Nat := if field r 30 2 = 2 then 2 else 1

/-- An input of a record: the word that holds its reference, the reference, and the type's default. -/
abbrev InputRef := Nat × Word × Word

/-- The input references of a record from word `w` on, and the word after them (R321). `at_` gives a word's value, or none
where it is what the type starts with. -/
def refsFrom (at_ : Nat → Option Word) : Nat → List (Word × Word) → List InputRef × Nat
  | w, [] => ([], w)
  | w, (start, dflt) :: ins =>
    let r := (at_ w).getD start
    let (refs, next) := refsFrom at_ (w + refWords r) ins
    ((w, r, dflt) :: refs, next)

/-- The word of the program region that an input reads, if it is of kind 0b00 (R321). -/
def InputRef.region (x : InputRef) : Option Nat := if field x.2.1 30 2 = 0 then some (field x.2.1 0 22) else none

/-- What the parameter list writes to word `w`: its last pair for the word. -/
def Program.param (g : Program) (w : Nat) : Option Word := (g.params.reverse.find? (fun e => e.1 == w)).map Prod.snd

/-- The references of call `c` as a cold start leaves them, and the word at which its outputs begin. -/
def Program.refs (g : Program) (c : Call) : List InputRef × Nat :=
  refsFrom g.param (c.instance_ + 1) (Config.blockType c.type).inputs

/-- Words laid one after another from word `w` on. -/
def laid (w : Nat) (l : List Word) : List (Nat × Word) := ((List.range l.length).map (fun k => w + k)).zip l

/-- The header and the defaults of call `c`'s record (R321, R337): references, outputs, state. -/
def Program.recordStart (g : Program) (c : Call) : List (Nat × Word) :=
  let b := Config.blockType c.type
  let (refs, next) := g.refs c
  (c.instance_, Config.blockHeader c.type c.length) :: ((refs.map Prod.fst).zip (b.inputs.map Prod.fst)
    ++ laid next b.outputs ++ laid (next + b.outputs.length) b.state)

/-- What a cold start writes over the zeros of the region (R337). -/
def Program.initial (g : Program) : List (Nat × Word) := g.calls.flatMap g.recordStart ++ g.params

/-- The record of call `c` as a cold start leaves it. -/
def Program.record (g : Program) (c : Call) : List Word :=
  let l := g.initial.reverse
  (List.range c.length).map (fun k => ((l.find? (fun e => e.1 == c.instance_ + k)).map Prod.snd).getD 0)

/-- The length of an entry is the one its type defines for its configuration (R320). -/
def Program.lengthOk (g : Program) (c : Call) : Bool :=
  let b := Config.blockType c.type
  !inCatalogue c.type || (g.refs c).2 + b.outputs.length + b.state.length == c.instance_ + c.length

/-- The record or a reference of call `c` lies outside the region (R322). -/
def Program.outside (g : Program) (c : Call) : Bool :=
  decide (g.words < c.instance_ + c.length)
    || (g.refs c).1.any (fun x => match x.region with | some w => decide (g.words ≤ w) | none => false)

/-- Call `i` references an output of an earlier member of its convoy (R330). -/
def Program.convoyReads (g : Program) (i : Nat) : Bool :=
  match g.calls[i]? with
  | none => false
  | some c => c.convoy.isSome && (g.calls.take i).any (fun d => d.convoy == c.convoy && d.task == c.task &&
      (g.refs c).1.any (fun x => match x.region with
        | some w => decide ((g.refs d).2 ≤ w) && decide (w < (g.refs d).2 + (Config.blockType d.type).outputs.length)
        | none => false))

/-- What call `c` names if it is of one of these types. -/
def Program.named (g : Program) (types : List Nat) (c : Call) : List Nat :=
  if types.contains c.type then Config.blockNames c.type (g.record c) else []

/-- DIO pads that call `c` writes (DO, DOW, BRKCTL) and reads (DI, DIW), and engine-interface words it writes (R332, R335). -/
def Program.drives (g : Program) (c : Call) : List Nat := g.named [0x39, 0x3B, 0x34] c
def Program.senses (g : Program) (c : Call) : List Nat := g.named [0x38, 0x3A] c
def Program.eifs (g : Program) (c : Call) : List Nat := if c.type = 0x41 then [30, 31] else g.named [0x40] c

/-- Two calls that R335 does not let stand in one program. -/
def Program.clash (g : Program) (c d : Call) : Bool :=
  let meet (l m : List Nat) : Bool := l.any m.contains
  meet (g.drives c) (g.drives d) || meet (g.eifs c) (g.eifs d) || (c.type == 0x42 && d.type == 0x42)
    || meet (g.named [0x43] c) (g.named [0x43] d) || meet (g.drives c) (g.senses d) || meet (g.senses c) (g.drives d)

/-- Call `i` clashes with an earlier one (R335). -/
def Program.clashes (g : Program) (i : Nat) : Bool :=
  match g.calls[i]? with | some c => (g.calls.take i).any (g.clash c) | none => false

/-- The pads that the program writes, and those that it uses (R335, R337). -/
def Program.outPads (g : Program) : Word := word (bitsOf 32 (fun p => g.calls.any (fun c => (g.drives c).contains p)))
def Program.pads (g : Program) : Word :=
  g.outPads ||| word (bitsOf 32 (fun p => g.calls.any (fun c => (g.senses c).contains p)))

/-- The first entry that breaks a convoy (R327): entries of a convoy are consecutive and of one task. -/
def convoyBad : Nat → Option Call → List Nat → List Call → Option Nat
  | _, _, _, [] => none
  | i, prev, seen, c :: cs =>
    match c.convoy with
    | none => convoyBad (i + 1) (some c) seen cs
    | some v =>
      let goes : Bool := match prev with | some q => q.convoy == some v | none => false
      let sameTask : Bool := match prev with | some q => q.task == c.task | none => true
      if goes then (if sameTask then convoyBad (i + 1) (some c) seen cs else some i)
      else if v ∈ seen then some i
      else convoyBad (i + 1) (some c) (v :: seen) cs

/-- The first failing check of the loader, in the order of R336: its number less 300 and the call concerned. -/
def loadCheck (bs : List Byte) : Option (Nat × Nat) :=
  if ¬ imageOk bs then some (19, 0)
  else
    let g := parseProgram bs
    let first (k : Nat) (bad : Nat → Bool) : Option (Nat × Nat) :=
      ((List.range g.calls.length).find? bad).map (fun i => (k, i))
    let of_ (bad : Call → Bool) (i : Nat) : Bool := match g.calls[i]? with | some c => bad c | none => false
    let whole (k : Nat) (bad : Bool) : Option (Nat × Nat) := if bad then some (k, 0) else none
    [first 20 (fun i => !entryOk bs i || of_ (fun c => !g.lengthOk c) i), first 22 (of_ g.outside),
     whole 22 (g.params.any (fun e => decide (g.words ≤ e.1))), (convoyBad 0 none [] g.calls).map (fun i => (27, i)),
     first 30 g.convoyReads, first 32 (of_ (fun c => !inCatalogue c.type)), whole 32 (leAt bs 16 2 != 1),
     first 35 g.clashes].findSome? id

/-! ### State of the program -/

def State.prgState (s : State) : Nat := s.fld Reg.cycleStatus 0 3
def State.setPrgState (s : State) (n : Nat) : State := s.put Reg.cycleStatus 0 3 n

/-- The program runs its cycles: RUNNING or STOPPING. -/
def State.prgRuns (s : State) : Bool := s.prgState == 3 || s.prgState == 4

def State.task (s : State) (t : Nat) : TaskSt := sparseGet (fun _ => TaskSt.idle) s.cyc.tasks t
def State.setTask (s : State) (t : Nat) (v : TaskSt) : State :=
  { s with cyc := { s.cyc with tasks := sparseSet (fun _ => TaskSt.idle) s.cyc.tasks t v } }

/-- The call indices of task `t`, in table order. -/
def Program.callsOf (g : Program) (t : Nat) : List Nat :=
  (List.range g.calls.length).filter (fun i => match g.calls[i]? with | some c => c.task == t | none => false)

/-- The convoy of call `i`. -/
def Program.convoyOf (g : Program) (i : Nat) : Option Nat := (g.calls[i]?).bind Call.convoy

/-- The program in force. -/
def State.inForce (s : State) : Program :=
  s.cyc.prog.getD { tableId := 0, crc := 0, first := 0, size := 0, tasks := [], calls := [], params := [] }

/-- Task `t`'s word. -/
def Program.taskWord (g : Program) (t : Nat) : Word := (g.tasks[t]?).getD 0

/-- The calls of task `t` that are ready and not granted (R327). -/
def State.readyCalls (s : State) (t : Nat) : List Nat :=
  if ¬ (s.task t).running then []
  else
    let g := s.inForce
    let rest := (g.callsOf t).drop (s.task t).released
    let open_ : List Nat := match rest with
      | [] => []
      | i :: _ =>
        match g.convoyOf i with
        | none => [i]
        | some v => rest.takeWhile (fun j => g.convoyOf j == some v)
    open_.filter (fun i => !s.cyc.calls.any (fun r => r.index == i))

/-- The ready call of the highest priority: the error task first, then tasks 0 to 7 (R328). -/
def State.nextCall (s : State) : Option Nat := ([8, 0, 1, 2, 3, 4, 5, 6, 7].flatMap s.readyCalls).head?

/-! ### Memory of the program -/

/-- Device address of word `w` of the program region. -/
def Program.wordAt (g : Program) (w : Nat) : Nat := g.first * 0x10000 + 4 * w

/-- A word of the region written. -/
def State.putProgWord (s : State) (w : Nat) (v : Word) : State := s.wrBytes (s.inForce.wordAt w) (wordBytes v)

/-- A word of the region read. -/
def State.progWord (s : State) (w : Nat) : Word := bytesWord (s.rdBytes (s.inForce.wordAt w) 4)

/-- Word `i` of task `t`'s input image. -/
def State.imageWord (s : State) (t i : Nat) : Word :=
  (((s.task t).image.find? (fun e => e.1 == i)).map Prod.snd).getD (Config.imageRest i)

/-- The references of call `c` as its record stands, and the word at which its outputs begin (R321). -/
def State.refs (s : State) (c : Call) : List InputRef × Nat :=
  refsFrom (fun w => some (s.progWord w)) (c.instance_ + 1) (Config.blockType c.type).inputs

/-- What a call of task `t` reads for an input, by the kind of its reference (R321). -/
def State.readInput (s : State) (t : Nat) (x : InputRef) : Word :=
  match field x.2.1 30 2 with
  | 0 => s.progWord (field x.2.1 0 22)
  | 1 => s.imageWord t (field x.2.1 0 12)
  | 2 => s.progWord (x.1 + 1)
  | _ => x.2.2

/-- Word offsets of ENO and of the 16-bit status output of call `c`, whose outputs begin at word `outAt` (R333, R334). -/
def enoAt (c : Call) (outAt : Nat) : Nat := outAt + (Config.blockType c.type).eno
def statusAt (c : Call) (outAt : Nat) : Nat := outAt + (Config.blockType c.type).status

/-- The forces that act: those held, while the program is RUNNING (R354). -/
def State.forces (s : State) : List Force := if s.prgState = 3 then s.cyc.forces else []

/-- The force that acts on an item, if one does. -/
def State.forceOn (s : State) (kind index : Nat) : Option Word :=
  (s.forces.find? (fun f => f.kind == kind && f.index == index)).map Force.value

/-- Forced program words among those that satisfy `p` take their forced values (R352). -/
def State.forceWords (s : State) (p : Nat → Bool) : State :=
  s.forces.foldl (fun s f => if f.kind = 3 ∧ p f.index then s.putProgWord f.index f.value else s) s

/-! ### Outputs -/

/-- Publication `i`'s buffer is completed (R489, R501). -/
def State.fillPub (s : State) (i : Nat) (bytes : List Byte) : State :=
  let v := sparseGet (fun _ => FabPub.idle) s.fab.pubs i
  { s with fab := { s.fab with pubs := sparseSet (fun _ => FabPub.idle) s.fab.pubs i { v with value := bytes } } }

/-- The output phase of task `t` (R324): its DIO outputs, engine-interface words and publications, and the forces on
outputs (R352) (log entry 61, DEDUCED). -/
def State.outputPhase (s : State) (t : Nat) : State :=
  let v := s.task t
  let dir := s.rd Reg.cycleDioDir
  let drive (s : State) (p : Nat) (b : Bool) : State :=
    if p < 32 ∧ field dir p 1 = 1 then s.setBit Reg.cycleDioOut p b else s
  let s := v.dio.foldl (fun s e => drive s e.1 e.2) s
  let s := v.pubs.foldl (fun s e => if e.1 < 64 then s.fillPub e.1 e.2 else s) s
  let s := v.eif.foldl (fun s e => if e.1 < 32 then s.wrBoth (fun L => Reg.laneEif L e.1) e.2 else s) s
  s.forces.foldl (fun s f =>
    if f.kind = 2 then drive s f.index (decide (f.value ≠ 0))
    else if f.kind = 4 then s.wrBoth (fun L => Reg.laneEif L f.index) f.value
    else s) s

/-- Each DIO output takes its safe value (R342). -/
def State.safePads (s : State) : State :=
  (List.range 32).foldl (fun s p =>
    if s.bit Reg.cycleDioDir p then
      match s.fld (if p < 16 then Reg.cycleDioSafe0 else Reg.cycleDioSafe1) (2 * (p % 16)) 2 with
      | 0 => s.setBit Reg.cycleDioOut p false
      | 1 => s.setBit Reg.cycleDioOut p true
      | _ => s
    else s) s

/-- Safe values of R342: each DIO output and each engine-interface word. -/
def State.safeValues (s : State) : State :=
  (List.range 32).foldl (fun s w =>
    if s.bit Reg.cycleEifHold w then s else s.wrBoth (fun L => Reg.laneEif L w) (s.rd (Reg.cycleEifSafe w))) s.safePads

/-- The program has left RUNNING (R338, R339, R342, R344, R372): no work, safe values, core contexts and queued causes
emptied, and the mode target STANDBY where the program gives the targets (log entry 61, DEDUCED; log entry 96, DEDUCED).
-/
def State.leaveProgram (s : State) (st : Nat) : State :=
  let s := { s with cyc := { s.cyc with tasks := [],
                                        calls := [], causes := [], stop := none },
                    memx := { s.memx with maps := s.memx.maps.filter (fun m => m.ctx < 128) } }
  let s := (s.put Reg.cycleCores 16 16 0).put Reg.cycleErr 24 7 0
  let s := ((s.setBit Reg.cycleStatus 4 false).setPrgState st).safeValues
  if s.keySource = 1 then s.setTarget .standby else s

/-- The program enters HALTED (R342, R347); a PRG_STOP under way is answered OK (R338) (log entry 63, DEDUCED). -/
def State.haltProgram (s : State) : State :=
  let stop := s.cyc.stop
  let s := s.leaveProgram 6
  match stop with
  | some p => s.finishLate 0x0302 p .ok []
  | none => s

/-! ### Requests of blocks -/

/-- What a block's request is answered, and its effect (R334, R412). -/
def State.request334 (s : State) : BlockReq → Nat × State
  | .mode code =>
    let s : State := { s with cyc := { s.cyc with modeSent := some code } }
    match s.modeCheck .program code with
    | some st => (st.code, s)
    | none => (0, s.acceptTarget code)
  | .profile j t =>
    match s.profileCheck .program j t with
    | some st => (st.code, s)
    | none => (0, s.setProfile j t)
  | .tripClear i =>
    match s.clearRefused i with
    | some c => (c, s)
    | none => (0, s.clearTrip i)
  | .shutter q o v =>
    match s.shutCheck .program q with
    | some st => (st.code, s)
    | none =>
      let give (o : ShutOrder) : Nat × State := if s.admits q o then (0, s.order q o) else (Status.notPermitted.code, s)
      match o with
      | 0 => give (.arm (field v 0 1 == 1))
      | 1 => give .trigger
      | 2 => give .stop
      | 3 =>
        if (s.rd (Reg.shutSSeq q)).toNat < v.toNat then (Status.outOfRange.code, s) else (0, s.releaseRecords q v.toNat)
      | _ => (Status.outOfRange.code, s)

/-- BLOCK_ERROR of call `i` (R333). -/
def State.blockError (s : State) (i : Nat) : State := (s.raise 0x0A02 []).queueCause 0x02 i

/-- A call sends the request of its block type, a MODE block only where the target differs from the last one it sent (R334,
R412). -/
def State.sends (s : State) (c : Call) : BlockReq → Bool
  | .mode code => c.type == 0x42 && s.cyc.modeSent != some code
  | .profile _ _ => c.type == 0x43
  | .tripClear _ => c.type == 0x45
  | .shutter _ _ _ => c.type == 0x5C

/-- What call `c` hands to its task's output phase: the pads, words and publications that its block names (R324, R332). -/
def State.keepOutputs (s : State) (c : Call) (e : BlockEffect) : State :=
  let v := s.task c.task
  let g := s.inForce
  s.setTask c.task { v with
    dio := v.dio ++ e.dio.filter (fun x => (g.drives c).contains x.1)
    eif := v.eif ++ e.eif.filter (fun x => (g.eifs c).contains x.1)
    pubs := v.pubs ++ (if c.type = 0x49 ∨ c.type = 0x4A then e.pubs else []) }

/-- Words a release writes, with the forces on them (R329, R352). -/
def State.releaseWords (s : State) (l : List (Nat × Word)) : State :=
  (l.foldl (fun s e => s.putProgWord e.1 e.2) s).forceWords (fun w => l.any (fun e => e.1 == w))

/-- The outputs of run `q` of call `c` are released as a whole (R329, R333, R334). -/
def State.releaseCall (s : State) (q : CallRun) (c : Call) (e : BlockEffect) : State :=
  let i := q.index
  if e.failed then (s.releaseWords [(enoAt c q.outAt, 0)]).blockError i
  else
    let s := s.keepOutputs c e
    match e.req.filter (s.sends c) with
    | none => s.releaseWords e.outs
    | some r =>
      let (code, s) := s.request334 r
      if code = 0 then s.releaseWords (e.outs ++ [(statusAt c q.outAt, 0)])
      else (s.releaseWords [(statusAt c q.outAt, word code), (enoAt c q.outAt, 0)]).blockError i

/-- The task's cycle or run ends (R324, R341). -/
def State.endCycle (s : State) (t elapsed : Nat) : State :=
  let v := s.task t
  let s := s.outputPhase t
  let s := s.setTask t { v with running := false, overs := if v.overran then v.overs else 0, overran := false, dio := [], eif := [], pubs := [] }
  let s := s.put (Reg.cycleTaskTime t) 0 16 (min elapsed 0xFFFF)
  let s := s.put (Reg.cycleTaskTime t) 16 16 (max (s.fld (Reg.cycleTaskTime t) 16 16) (min elapsed 0xFFFF))
  if t = 8 then s.setBit Reg.cycleStatus 4 false else s

/-- Completed calls of task `t` are released in table order; after the last, the output phase follows (R324, R329). -/
def State.releaseLoop (s : State) (t elapsed : Nat) : Nat → State
  | 0 => s
  | n + 1 =>
    match ((s.inForce.callsOf t).drop (s.task t).released).head? with
    | none => if (s.task t).running then s.endCycle t elapsed else s
    | some i =>
      match s.cyc.calls.find? (fun r => r.index == i), s.inForce.calls[i]? with
      | some r, some c =>
        match r.effect with
        | some e =>
          let s := { s with cyc := { s.cyc with calls := s.cyc.calls.filter (fun r => r.index != i) } }
          let s := s.setTask t { s.task t with released := (s.task t).released + 1 }
          (s.releaseCall r c e).releaseLoop t elapsed n
        | none => s
      | _, _ => s

/-- Release of all that can be released in task `t`. -/
def State.release (s : State) (t elapsed : Nat) : State := s.releaseLoop t elapsed ((s.inForce.callsOf t).length + 1)

/-- What a discarded call hands back: nothing. -/
def BlockEffect.nothing : BlockEffect :=
  { outs := [], dio := [], eif := [], pubs := [], req := none, measure := none, failed := false }

/-- Call `i` ends its run on its core with this effect. -/
def State.endCall (s : State) (i : Nat) (e : BlockEffect) : State :=
  match s.cyc.calls.find? (fun r => r.index == i) with
  | some r =>
    let s := s.setBit Reg.cycleCores (16 + r.core) false
    { s with cyc := { s.cyc with calls := s.cyc.calls.map (fun r => if r.index = i then { r with effect := some e } else r) } }
  | none => s

/-- Call `i` is discarded: CALL_DISCARDED, queued; the cycle goes on (R345). -/
def State.discardCall (s : State) (i elapsed : Nat) : State :=
  let t := match s.inForce.calls[i]? with | some c => c.task | none => 0
  ((((s.endCall i BlockEffect.nothing).raise 0x0A03 []).queueCause 0x03 i).release t elapsed)

/-- The age of call `i`'s cycle in units of 50 µs, as the program tick shows it. -/
def State.callAge (s : State) (i : Nat) : Nat :=
  match s.inForce.calls[i]? with | some c => 20 * (s.tick - (s.task c.task).start) | none => 0

/-- The call that runs on core `c`. -/
def State.callOn (s : State) (c : Nat) : Option Nat :=
  (s.cyc.calls.find? (fun r => r.core == c && r.effect.isNone)).map CallRun.index

/-- The work in flight of core `c`'s context is discarded (R34, R345). -/
def State.discardCore (s : State) (c : Nat) : State :=
  match s.callOn c with
  | some i => s.discardCall i (s.callAge i)
  | none => s

/-- Core `c` is taken out of service (R347). -/
def State.loseCore (s : State) (c : Nat) : State :=
  if ¬ s.bit Reg.cycleCores c then s else
  let s := s.setBit Reg.cycleCores c false
  let s := s.put Reg.cycleStatus 8 5 (s.fld Reg.cycleStatus 8 5 - 1)
  let s := ((s.discardCore c).raise 0x0A06 []).queueCause 0x06 c
  if s.fld Reg.cycleCores 0 16 = 0 ∧ s.prgRuns then s.haltProgram else s

/-- A context's number as MEM_FAULT_INFO and MEM_TF_INFO show it: 255 for SYSTEM or none. -/
def ctxCode (c : Nat) : Nat := if c < 144 then c else 255

/-- A translation fault is recorded and reported (R376). -/
def State.translationFault (s : State) (ctx a reason : Nat) (write : Bool) : State :=
  let s := s.wr Reg.memTfAddr (word a)
  let s := s.wr Reg.memTfInfo (word (bitNat write + reason * 2 + ctxCode ctx * 2 ^ 12))
  s.raise 0x0B02 []

/-! ### Stations -/

/-- Subscription `j` (R501) (log entry 75, DEDUCED). -/
def State.subAt (s : State) (j : Nat) : FabSub := sparseGet (fun _ => FabSub.idle) s.fab.subs j

/-- Station `n` is lost: STATION_LOST, queued, once per station (R346) (log entry 75, DEDUCED). -/
def State.loseStation (s : State) (n : Nat) : State :=
  if sparseGet (fun _ => false) s.cyc.stations n then s
  else
    let s := { s with cyc := { s.cyc with stations := sparseSet (fun _ => false) s.cyc.stations n true } }
    (s.raise 0x0A04 []).queueCause 0x04 n

/-- Station `n`'s stream is valid again (R346). -/
def State.returnStation (s : State) (n : Nat) : State :=
  if sparseGet (fun _ => false) s.cyc.stations n then
    let s := { s with cyc := { s.cyc with stations := sparseSet (fun _ => false) s.cyc.stations n false } }
    (s.raise 0x0A05 []).queueCause 0x05 n
  else s

/-- A CYCLE register takes its fixed value (R356). The pads of a program that is STOPPED or HALTED carry their safe values
(R354). -/
def State.applyCycle (s : State) (a : Nat) (v : Word) : State :=
  let s := s.wr a v
  if (a = Reg.cycleDioSafe0 ∨ a = Reg.cycleDioSafe1) ∧ (s.prgState = 5 ∨ s.prgState = 6) then s.safePads else s

end Sys2Proof.Machine
end

