-- ==== Sys2Proof/Machine/Measure.lean ====
section
/-! DEFINITION. What the rules say of the outputs of two block types: the per-record measurements of SHUT_ARM (R412) and
the cause that EVENT_RD returns (R344). -/

namespace Sys2Proof.Machine

/-! ### The samples of a record -/

/-- The segment of shutter `q` that holds record `seq`, one of the latest (R395, R397). -/
def State.recordSeg (s : State) (q seq : Nat) : Nat :=
  let n := s.segments q
  (s.fld (Reg.shutSState q) 2 13 + n * 4096 - 1 - ((s.rd (Reg.shutSSeq q)).toNat - seq)) % n

/-- Record `seq` of shutter `q` has been overwritten (R406, R412): another has been closed in its segment, or is being
written there. -/
def State.overwritten (s : State) (q seq : Nat) : Bool :=
  let age := (s.rd (Reg.shutSSeq q)).toNat - seq + 1
  let writes : Bool := s.shutState q = 1 ∨ s.shutState q = 2
  decide (s.segments q < age) || (writes && age == s.segments q)

/-- The number of samples of record `seq`, as its header says (R397). -/
def State.recordLength (s : State) (q seq : Nat) : Nat :=
  let base := s.segBase q (s.recordSeg q seq)
  leAt (s.rdBytes (base + 20) 8) 0 4 + leAt (s.rdBytes (base + 20) 8) 4 4

/-- Sample `j` of channel slot `i` in record `seq`, none where it is invalid (R392, R396). -/
def State.recordSample (s : State) (q seq i j : Nat) : Option Int :=
  let base := s.segBase q (s.recordSeg q seq)
  let start := leAt (s.rdBytes (base + 28) 4) 0 4
  let k := (start + j) % (s.shutLead q + s.shutPost q)
  let w := bytesWord (s.rdBytes (base + 64 + 4 * (s.shutWords q * k + i)) 4)
  if field w 24 1 = 1 then some (signedOf 24 (field w 0 24)) else none

/-! ### The measurements -/

/-- A sum of integers accumulated in binary64 (R412). -/
def sum64 (l : List Int) : Nat := l.foldl (fun a v => fmt64.add a (to64 (F32.ofInt v))) 0

/-- The sum of their squares accumulated in binary64. -/
def squares64 (l : List Int) : Nat := l.foldl (fun a v => fmt64.fma (to64 (F32.ofInt v)) (to64 (F32.ofInt v)) a) 0

/-- Positions, in 1/256 sample, of the rising crossings of level `L` with hysteresis `h` (R399, R400). -/
def risings (L h : Int) : Nat → Bool → Option Int → List (Option Int) → List Nat
  | _, _, _, [] => []
  | k, low, _, none :: vs => risings L h (k + 1) low none vs
  | k, low, prev, some b :: vs =>
    match prev with
    | some a =>
      if low && decide (L ≤ b) && decide (a < L) then
        (256 * (k - 1) + crossFrac L a b) :: risings L h (k + 1) (decide (b ≤ L - h)) (some b) vs
      else risings L h (k + 1) (low || decide (b ≤ L - h)) (some b) vs
    | none => risings L h (k + 1) (low || decide (b ≤ L - h)) (some b) vs

/-- PERIOD of shutter `q`'s samples `vs` (R412), whose valid ones are `l`: the crossings of their mean. -/
def State.periodOf (s : State) (q : Nat) (vs : List (Option Int)) (l : List Int) (lo hi : Int) : Word :=
  let n : Int := l.length
  let xs := risings (32 * l.foldl (· + ·) 0) (n * (hi - lo)) 0 false none (vs.map (fun v => v.map (32 * n * ·)))
  match xs, xs.getLast? with
  | a :: _ :: _, some b =>
    let (f, d) := s.outRate (s.slotByte q 0 % 128) (s.shutPreset q)
    F32.rat ((b - a) * d * (s.fld (Reg.shutSCfg q) 8 16 + 1)) ((xs.length - 1) * 256 * f)
  | _, _ => F32.zero

/-- MIN, MAX, MEAN, RMS, AMPL and PERIOD of samples `vs` of shutter `q` (R412); with no valid sample among them the rule
states no values, and they are free (log entry 5, DESIGN CHOICE). -/
def State.recordMeasures (s : State) (q : Nat) (vs : List (Option Int)) : List Word × State :=
  let l := vs.filterMap id
  match l.min?, l.max? with
  | some lo, some hi =>
    let n := to64 (F32.ofInt l.length)
    ([F32.ofInt lo, F32.ofInt hi, to32 (fmt64.div (sum64 l) n), to32 (fmt64.sqrt (fmt64.div (squares64 l) n)),
      F32.rat (hi - lo).toNat 2, s.periodOf q vs l lo hi], s)
  | _, _ => (List.range 6).foldl (fun (a : List Word × State) _ => let (w, s) := a.2.freshWord; (a.1 ++ [w], s)) ([], s)

/-- The measurement that call `i` goes on with for what it asks: the one under way, unless that is complete and a newer
record has closed, or another range is asked for; else one of the latest closed record (R412) (log entry 123, DEDUCED).
-/
def State.measureFor (s : State) (i : Nat) (m : Measure) : Measuring :=
  let new : Measuring := { call := i, asks := m, seq := (s.rd (Reg.shutSSeq m.shutter)).toNat, runs := 0, done := false }
  match s.cyc.meas.find? (fun x => x.call == i) with
  | some x => if x.asks = m ∧ (x.seq = new.seq ∨ ¬ x.done) then x else new
  | none => new

/-- The words that call `i` releases for the outputs at `places` (MIN, MAX, MEAN, RMS, AMPL, PERIOD and MDONE), or none
where its record has been overwritten before MDONE (R412). An execution processes at most 1,024 samples, in two
passes (log entry 123, DEDUCED). -/
def State.measureRun (s : State) (i : Nat) (m : Measure) (places : List Nat) : Option (List (Nat × Word)) × State :=
  let x := s.measureFor i m
  let q := m.shutter
  let keep (s : State) (x : Measuring) : State :=
    { s with cyc := { s.cyc with meas := s.cyc.meas.filter (fun y => y.call != i) ++ [x] } }
  if x.seq = 0 then (some ((places.drop 6).map (fun p => (p, 0))), s)
  else if x.done then (some [], s)
  else if s.overwritten q x.seq then
    (none, { s with cyc := { s.cyc with meas := s.cyc.meas.filter (fun y => y.call != i) } })
  else
    let last := min m.last (s.recordLength q x.seq - 1)
    let n := last + 1 - m.first
    let x := { x with runs := x.runs + 1 }
    if x.runs < 2 * ((n + 1023) / 1024) then (some ((places.drop 6).map (fun p => (p, 0))), keep s x)
    else
      let (ws, s) := s.recordMeasures q ((List.range n).map (fun k => s.recordSample q x.seq m.slot (m.first + k)))
      (some (places.zip (ws ++ [1])), keep s { x with done := true })

/-- What a completed call hands back with the outputs that the rules give: the measurements of SHUT_ARM (R412), and the
code and index of the error task's cause where EVENT_RD runs in it (R344). -/
def State.ruledOuts (s : State) (q : CallRun) (c : Call) (e : BlockEffect) : BlockEffect × State :=
  let places := (Config.blockType c.type).named.map (q.outAt + ·)
  if c.type = 0x5A ∧ c.task = 8 then
    ({ e with outs := e.outs ++ places.zip [word s.cyc.cause.1, word s.cyc.cause.2] }, s)
  else match e.measure with
    | some m =>
      if c.type = 0x5C ∧ m.shutter < 8 then
        match s.measureRun q.index m places with
        | (some outs, s) => ({ e with outs := e.outs ++ outs }, s)
        | (none, s) => ({ e with failed := true }, s)
      else (e, s)
    | none => (e, s)

end Sys2Proof.Machine
end

