-- ==== Sys2Proof/Machine/CycleRows.lean ====
section
/-! DEFINITION. The commands of the cycle program: start points, the watchdog, grants and completions, the error task,
loading, starting, stopping, forces, the key switch and the host link (R323 to R355). -/

namespace Sys2Proof.Machine

/-! ### Tasks -/

/-- What an item of the input image holds at the latch, `pads` being the DIO levels as the program reads them (R324): the
latest valid value of a subscription (R501), or its substitute while its station is lost (R346). -/
def State.imageItem (s : State) (pads : Word) : Config.ImageItem → Word
  | .pads => pads
  | .key => word (s.fld Reg.cycleKey 0 2)
  | .remote j w lost =>
    let v := word (leAt (s.subAt j).value (4 * w) 4)
    if sparseGet (fun _ => false) s.cyc.stations j then (match lost with | .last => v | .zero => 0 | .value u => u) else v
  | .valid j => word (bitNat (!sparseGet (fun _ => false) s.cyc.stations j))
  | .held w => s.progWord w

/-- The input image of task `t`: what each of its blocks asks for. -/
def State.taskImage (s : State) (t : Nat) (pads : Word) : List (Nat × Word) :=
  (s.inForce.calls.filter (fun c => c.task == t)).flatMap (fun c =>
    (Config.blockImage c.type ((List.range c.length).map (fun k => s.progWord (c.instance_ + k)))).map
      (fun e => (e.1, s.imageItem pads e.2)))

/-- A task's input latch (R324): the input image with the forces on inputs, and the forces on program words (R352). -/
def State.latchInputs (s : State) (t : Nat) (dio : Word) : State :=
  let forced := bitsOf 32 (fun p => match s.forceOn 1 p with | some v => decide (v ≠ 0) | none => field (s.dioPads dio) p 1 == 1)
  let kept := (s.taskImage t (word forced)).filter (fun e => (s.forceOn 5 e.1).isNone)
  let fixed := (s.forces.filter (fun f => f.kind == 5)).map (fun f => (f.index, f.value))
  let s := s.wr Reg.cycleDioIn (s.dioPads dio)
  let s := s.setTask t { s.task t with dioIn := word forced, key := s.fld Reg.cycleKey 0 2, image := kept ++ fixed }
  s.forceWords (fun _ => true)

/-- A start point of task `t` falls at this tick (R323). -/
def State.isStart (s : State) (t : Nat) : Bool :=
  let w := s.inForce.taskWord t
  let first := s.cyc.startTick + field w 10 10
  field w 31 1 == 1 && decide (first ≤ s.tick) && decide ((s.tick - first) % field w 0 10 = 0)
    && decide ((s.task t).point ≠ s.tick + 1)

/-- The start point finds the cycle incomplete: CYCLE_OVERRUN, counted and queued; the start point is skipped (R340). -/
def State.overrun (s : State) (t : Nat) : State :=
  let v := s.task t
  let s := s.setTask t { v with overs := v.overs + 1, overran := true }
  ((s.countUp (Reg.cycleTaskOvr t) 0 16 1).raise 0x0A00 []).queueCause 0x01 t

/-- Task `t` starts a cycle: its input image is latched and its first calls become ready (R324, R327) (log entry 63,
DEDUCED). -/
def State.startCycle (s : State) (t : Nat) (dio : Word) : State :=
  let s := s.setTask t { s.task t with running := true, start := s.tick, overran := false, released := 0, dio := [], eif := [], pubs := [] }
  (s.latchInputs t dio).release t 0

/-- TASK_START_POINT (R324): `dio` holds the pad levels. Tasks of one tick come in task order (R325). -/
def execTaskStartPoint (t : Nat) (dio : Word) (s : State) : Host.Outcome State Fault Refusal :=
  .next (if t < 8 ∧ s.prgRuns ∧ s.isStart t ∧ (List.range t).all (fun u => !s.isStart u) then
    let s := s.setTask t { s.task t with point := s.tick + 1, limit := s.fld Reg.cycleWdCfg 0 4 + 1 }
    if (s.task t).running then s.overrun t
    else if s.prgState = 3 then s.startCycle t dio
    else s
  else s)

/-- Whether the watchdog trips for task `t`, 8 being the error task (R341). -/
def State.watchdogDue (s : State) (t : Nat) : Bool :=
  let v := s.task t
  v.running &&
    (if t = 8 then decide (v.start + v.limit ≤ s.tick)
     else decide (t < 8) &&
      (decide (v.limit ≤ v.overs) || decide (v.start + 2 * field (s.inForce.taskWord t) 0 10 ≤ s.tick)))

/-- The watchdog trips for task `t` if it must (R341, R342) (log entry 62, DEDUCED). -/
def State.programWatchdog (s : State) (t : Nat) : State :=
  if s.prgRuns ∧ s.watchdogDue t then (s.raise 0x0A01 []).haltProgram else s

/-- PROGRAM_WATCHDOG (R341, R342) (log entry 62, DEDUCED). -/
def execProgramWatchdog (t : Nat) (s : State) : Host.Outcome State Fault Refusal := .next (s.programWatchdog t)

/-- Call `i` is granted to core `c` and reads its inputs (R328, R329). One whose reading meets a marked page or leaves the
region is discarded (R361, R376, R345). -/
def State.grant (s : State) (i c : Nat) : State :=
  let k : Call := (s.inForce.calls[i]?).getD { type := 0, task := 0, convoy := none, instance_ := 0, length := 0 }
  let (refs, outAt) := s.refs k
  let run : CallRun := { index := i, core := c, inputs := refs.map (s.readInput k.task), outAt := outAt, effect := none }
  let s := (({ s with cyc := { s.cyc with calls := s.cyc.calls ++ [run] } }).setBit Reg.cycleCores (16 + c) true).countSource
    0x8210 1
  let words := refs.filterMap InputRef.region
  match words.find? (fun w => decide (s.inForce.words ≤ w)) with
  | some w => (s.translationFault (128 + c) (4 * w) 0 false).discardCall i (s.callAge i)
  | none => if words.any (fun w => s.pageMarked (s.inForce.wordAt w)) then s.discardCall i (s.callAge i) else s

/-- DISPATCH_GRANT (R328): free core `c` is granted the ready call of the highest priority. -/
def execDispatchGrant (c : Nat) (s : State) : Host.Outcome State Fault Refusal :=
  .next (if c < 16 ∧ s.prgRuns ∧ s.bit Reg.cycleCores c ∧ ¬ s.bit Reg.cycleCores (16 + c) then
    match s.nextCall with
    | some i => s.grant i c
    | none => s
  else s)

/-- What run `q` of call `c` hands back when its block computes `e`: only ENO while EN is 0 (R333), and no word outside its
own record (R322). -/
def CallRun.result (q : CallRun) (c : Call) (e : BlockEffect) : BlockEffect :=
  if q.inputs[(Config.blockType c.type).en]? = some 0 then { BlockEffect.nothing with outs := [(enoAt c q.outAt, 0)] }
  else { e with outs := e.outs.filter (fun w => decide (c.instance_ ≤ w.1) && decide (w.1 < c.instance_ + c.length)) }

/-- Run `r` of call `c` completes: its results stand, and the calls it held back are released; a core's write to a marked
page discards it (R329, R361). `corrected` counts the errors that ECC corrected in its accesses (R38). -/
def State.completeCall (s : State) (r : CallRun) (c : Call) (e : BlockEffect) (elapsed cycles corrected : Nat) : State :=
  let t := c.task
  let (e, s) := s.ruledOuts r c (r.result c e)
  let s := (s.countSource (0x8200 + r.core) cycles).countUp Reg.memEccCorr 0 16 corrected
  if e.outs.any (fun w => s.pageMarked (s.inForce.wordAt w.1)) then s.discardCall r.index elapsed
  else (s.endCall r.index e).release t elapsed

/-- BLOCK_CALL_COMPLETE (R329): call `i` completes with its results; `rest` is the time since the latest program tick in
units of 50 µs, `cycles` the CLK_CTL cycles it ran (log entry 120, DESIGN CHOICE). -/
def execBlockCallComplete (i : Nat) (e : BlockEffect) (rest cycles corrected : Nat) (s : State) :
    Host.Outcome State Fault Refusal :=
  .next (match s.cyc.calls.find? (fun r => r.index == i && r.effect.isNone), s.inForce.calls[i]? with
    | some r, some c => s.completeCall r c e (s.callAge i + min rest 19) cycles corrected
    | _, _ => s)

/-- The error task runs for cause `c`, the others in `cs` wait (R344) (log entry 62, DEDUCED). -/
def State.startError (s : State) (c : Nat × Nat) (cs : List (Nat × Nat)) (dio : Word) : State :=
  let s := { s with cyc := { s.cyc with causes := cs, cause := c } }
  let s := (s.put Reg.cycleErr 24 7 cs.length).setBit Reg.cycleStatus 4 true
  let s := s.setTask 8 { s.task 8 with running := true, start := s.tick, overran := false, released := 0, dio := [],
                                       eif := [], pubs := [], limit := s.fld Reg.cycleWdCfg 4 7 }
  (s.latchInputs 8 dio).release 8 0

/-- ERROR_TASK_RUN (R344): the error task runs for the oldest cause (log entry 96, DEDUCED). -/
def execErrorTaskRun (dio : Word) (s : State) : Host.Outcome State Fault Refusal :=
  .next (match s.cyc.causes with
    | c :: cs => if s.prgState = 3 ∧ ¬ (s.task 8).running then s.startError c cs dio else s
    | [] => s)

/-- The last chunk: the loader's checks (R336). -/
def State.checkImage (s : State) (p : Packet) : State :=
  match loadCheck s.cyc.image with
  | some (n, i) => (({ s with cyc := { s.cyc with image := [], loaded := none } }).setPrgState 0).finish 0x0300 p .outOfRange
      (n16 n ++ n16 i)
  | none => (({ s with cyc := { s.cyc with loaded := some (parseProgram s.cyc.image) } }).setPrgState 2).finish
      0x0300 p .ok []

/-- PRG_LOAD's checks and effect (R336). -/
def State.runLoad (s : State) (p : Packet) : State :=
  let offset := leAt p.payload 0 4
  let bytes := p.payload.drop 8
  match s.leaseCheck 4 0 p with
  | some st => s.finish 0x0300 p st []
  | none =>
    if s.prgRuns then s.finish 0x0300 p .notPermitted []
    else if offset ≠ 0 ∧ (s.prgState ≠ 1 ∨ offset ≠ s.cyc.image.length) then s.finish 0x0300 p .outOfRange []
    else
      let image := if offset = 0 then bytes else s.cyc.image ++ bytes
      let s := ({ s with cyc := { s.cyc with image := image } }).setPrgState 1
      if leAt p.payload 4 1 % 2 = 1 then s.checkImage p else s.finish 0x0300 p .ok []

/-- PRG_LOAD (R336). -/
def execPrgLoad (p : Packet) (s : State) : Host.Outcome State Fault Refusal :=
  .next (s.command 0x0300 p (decide (8 ≤ p.payload.length) && decide (p.payload.length ≤ 4096))
    (fun s => s.runLoad p))

/-- The claims of a program (R322, R337): its granules and its DIO pads, DIO0 having pad index 300 (R575) (log entry 38,
DEDUCED). -/
def Program.claims (g : Program) : List Claim :=
  ((List.range g.size).map (fun i => ({ kind := 4, granule := g.first + i, ownerKind := 7, ownerIdx := 0 } : Claim)))
    ++ (indicesWhere 32 (fun p => field g.pads p 1 == 1)).map
      (fun p => ({ kind := 1, granule := 300 + p, ownerKind := 7, ownerIdx := 0 } : Claim))

/-- The first collision of a list of claims (R26). -/
def State.collision (s : State) (cs : List Claim) : Option Claim :=
  cs.findSome? (fun c => (s.claimOf c.kind c.granule).filter
    (fun d => d.ownerKind != c.ownerKind || d.ownerIdx != c.ownerIdx))

/-- The payload of a CONFLICT reply (R27). -/
def conflictBytes (c : Claim) : List Byte := n8 c.kind ++ n16 c.granule ++ n8 c.ownerKind ++ n16 c.ownerIdx

/-- A FILM claim meets a marked page (R362). -/
def State.claimMarked (s : State) (c : Claim) : Bool :=
  c.kind == 4 && (List.range 16).any (fun k => s.bankBit (Reg.memBadpage 0) (16 * c.granule + k))

/-- The program enters RUNNING (R323, R337, R372). -/
def State.startProgram (s : State) (g : Program) (cold : Bool) : State :=
  let s := { s with ledger := s.ledger.filter (fun c => c.ownerKind != 7 || g.claims.contains c) }
  let s := g.claims.foldl State.addClaim s
  let maps := (List.range 16).map (fun c =>
    ({ ctx := 128 + c, vaddr := 0, daddr := g.first * 0x10000, size := g.size * 0x10000, write := true } : Mapping))
  let s := { s with cyc := { s.cyc with prog := some g, tasks := [], calls := [], cause := (0, 0),
                                        startTick := s.tick + 1, stop := none },
                    memx := { s.memx with maps := s.memx.maps.filter (fun (m : Mapping) => decide (m.ctx < 128)) ++ maps } }
  let s := ((s.wr Reg.cyclePrgId g.tableId).wr Reg.cyclePrgCrc g.crc).wr Reg.cycleDioDir g.outPads
  let s := s.wr Reg.cycleDioOut (s.rd Reg.cycleDioOut &&& g.outPads)
  let s := (List.range 9).foldl (fun s t => (s.wr (Reg.cycleTaskCfg t) (g.taskWord t)).put (Reg.cycleTaskTime t) 16 16 0) s
  let s := s.setPrgState 3
  if cold then
    let lo := g.first * 0x10000
    let hi := lo + g.size * 0x10000
    let s := { s with mem := s.mem.filter (fun e => decide (e.1 < lo) || decide (hi ≤ e.1)),
                      cyc := { s.cyc with forces := [], modeSent := none, meas := [] } }
    let s := (s.wr Reg.cycleForce 0).setBit Reg.cycleStatus 3 false
    g.initial.foldl (fun s e => s.putProgWord e.1 e.2) s
  else s

/-- PRG_START's checks and effect (R337). -/
def State.runStart (s : State) (p : Packet) : State :=
  let warm := leAt p.payload 0 1 % 2 = 1
  match s.leaseCheck 4 0 p with
  | some st => s.finish 0x0301 p st []
  | none =>
    if s.prgState ≠ 2 ∧ s.prgState ≠ 5 ∧ s.prgState ≠ 6 then s.finish 0x0301 p .notPermitted []
    else match s.cyc.loaded with
      | none => s.finish 0x0301 p .notPermitted []
      | some g =>
        if warm ∧ (s.prgState = 2 ∨ g.crc ≠ s.inForce.crc) then s.finish 0x0301 p .notPermitted []
        else match s.collision g.claims with
          | some c => s.finish 0x0301 p .conflict (conflictBytes c)
          | none =>
            if g.claims.any s.claimMarked then s.finish 0x0301 p .faultLasting []
            else (s.startProgram g (decide (¬ warm))).finish 0x0301 p .ok []

/-- PRG_START (R337). -/
def execPrgStart (p : Packet) (s : State) : Host.Outcome State Fault Refusal :=
  .next (s.command 0x0301 p (decide (p.payload.length = 4)) (fun s => s.runStart p))

/-- What PRG_STOP does (R338). -/
def State.runPrgStop (s : State) (p : Packet) : State :=
  match s.leaseCheck 4 0 p with
  | some st => s.finish 0x0302 p st []
  | none =>
    if s.prgState ≠ 3 then s.finish 0x0302 p .notPermitted []
    else (({ s with cyc := { s.cyc with stop := some p } }).setPrgState 4).pend 0x0302 p

/-- PRG_STOP (R338). -/
def execPrgStop (p : Packet) (s : State) : Host.Outcome State Fault Refusal :=
  .next (s.command 0x0302 p (decide (p.payload = [])) (fun s => s.runPrgStop p))

/-- PROGRAM_STOPPED (R338): every cycle in progress has completed (log entry 96, DEDUCED). -/
def execProgramStopped (s : State) : Host.Outcome State Fault Refusal :=
  .next (if s.prgState = 4 ∧ (List.range 9).all (fun t => !(s.task t).running) then
    match s.cyc.stop with
    | some p => (s.leaveProgram 5).finishLate 0x0302 p .ok []
    | none => s.leaveProgram 5
  else s)

/-! ### Forces -/

/-- CYCLE_FORCE and FORCE_LED show the forces held; FORCE_CHANGED is raised and the change audited (R355). -/
def State.showForces (s : State) (p : Packet) (what : Nat) : State :=
  let n := s.cyc.forces.length
  let s := (s.put Reg.cycleForce 0 9 n).setBit Reg.cycleForce 9 (decide (n ≠ 0))
  ((s.setBit Reg.cycleStatus 3 (decide (n ≠ 0))).raise 0x0A0A []).audit p.session (s.role p.session) .force what n

/-- Checks of R352 on a force. -/
def State.forceCheck (s : State) (kind index : Nat) (v : Word) : Option Status :=
  if kind = 1 ∨ kind = 2 then (if index < 32 ∧ v.toNat ≤ 1 then none else some .outOfRange)
  else if kind = 3 then (if index < s.inForce.words then none else some .outOfRange)
  else if kind = 4 then
    (if index < 30 then none else if index < 32 then some .notPermitted else some .outOfRange)
  else if kind = 5 then (if index < 4096 then none else some .outOfRange)
  else some .outOfRange

/-- FORCE_SET's checks and effect (R352). -/
def State.runForceSet (s : State) (p : Packet) : State :=
  let kind := leAt p.payload 0 1
  let index := leAt p.payload 2 2
  let v := word (leAt p.payload 4 4)
  match s.leaseCheck 5 0 p with
  | some st => s.finish 0x0303 p st []
  | none =>
    match s.forceCheck kind index v with
    | some st => s.finish 0x0303 p st []
    | none =>
      let held := s.cyc.forces.any (fun f => f.kind == kind && f.index == index)
      if ¬ held ∧ 256 ≤ s.cyc.forces.length then s.finish 0x0303 p .busy []
      else
        let f : Force := { kind := kind, index := index, value := v }
        let fs := if held then s.cyc.forces.map (fun g => if g.kind = kind ∧ g.index = index then f else g)
          else s.cyc.forces ++ [f]
        ((({ s with cyc := { s.cyc with forces := fs } }).showForces p 1)).finish 0x0303 p .ok []

/-- FORCE_SET (R352). -/
def execForceSet (p : Packet) (s : State) : Host.Outcome State Fault Refusal :=
  .next (s.command 0x0303 p (decide (p.payload.length = 8)) (fun s => s.runForceSet p))

/-- FORCE_CLEAR's effect (R354). -/
def State.runForceClear (s : State) (p : Packet) : State :=
  let kind := leAt p.payload 0 1
  let index := leAt p.payload 2 2
  match s.leaseCheck 5 0 p with
  | some st => s.finish 0x0304 p st []
  | none =>
    let fs := if kind = 0xFF then [] else s.cyc.forces.filter (fun f => f.kind != kind || f.index != index)
    ((({ s with cyc := { s.cyc with forces := fs } }).showForces p 0)).finish 0x0304 p .ok []

/-- FORCE_CLEAR (R354). -/
def execForceClear (p : Packet) (s : State) : Host.Outcome State Fault Refusal :=
  .next (s.command 0x0304 p (decide (p.payload.length = 4)) (fun s => s.runForceClear p))

/-! ### The key switch and the host link -/

/-- The position that the debounced levels give (R348). -/
def keyPosition (run stop : Bool) : Nat := if stop then 2 else if run then 1 else 0

/-- KEY_CHANGE (R348): these levels have been stable for 20 ms. At STOP the target is STANDBY (R349, R351). -/
def execKeyChange (run stop : Bool) (s : State) : Host.Outcome State Fault Refusal :=
  .next (
    let old := s.fld Reg.cycleKey 0 2
    let new := keyPosition run stop
    let s := (s.setBit Reg.cycleKey 2 run).setBit Reg.cycleKey 3 stop
    if old = new then s
    else
      let s := if new = 1 then { s with cyc := { s.cyc with modeSent := none } } else s
      let s := ((s.put Reg.cycleKey 0 2 new).showSource).raise 0x0A09 []
      if new = 2 then s.setTarget .standby else s)

/-- The host link is lost if host_timeout has passed since the latest command that keeps it alive (R350). -/
def State.hostLinkLost (s : State) : State :=
  if s.hostAlive ∧ s.cyc.hostTick + s.fld Reg.cycleKeyCfg 0 10 * 100 ≤ s.tick then
    (((s.setBit Reg.cycleKey 4 false).showSource).raise 0x0A07 []).queueCause 0x07 0
  else s

/-- HOST_LINK_LOST (R350). -/
def execHostLinkLost (s : State) : Host.Outcome State Fault Refusal := .next s.hostLinkLost

end Sys2Proof.Machine
end

