-- ==== Sys2Proof/Machine/Session.lean ====
section
/-! DEFINITION. The rows of SCP's front and of sessions: packets refused before their opcode runs (R415), resent packets
(R425), and the opcodes 0x0000 to 0x0004 (R423 to R426, R439, R547). -/

namespace Sys2Proof.Machine

/-- INVALID_PACKET (R415): a packet fails the check of `step`, 1 to 6; at steps 4 to 6 the module's own checks decide. -/
def execInvalidPacket (step opcode : Nat) (p : Packet) (s : State) : Host.Outcome State Fault Refusal :=
  .next (if ¬ s.serves p.chan then s
    else if step = 1 then s.countUp Reg.hostDrop 0 16 1
    else if s.commandFull p.chan then s.turnAway opcode p
    else if step = 2 then s.refuse opcode p .badLength [] false
    else if step = 3 then s.refuse opcode p .badCrc [] false
    else match s.judge opcode p with
      | .refuse st payload tagged => s.refused opcode p st payload tagged
      | _ => s)

/-- DUPLICATE_PACKET (R425): the latest reply of the consumed packet is sent again; nothing is executed. -/
def execDuplicatePacket (opcode : Nat) (p : Packet) (s : State) : Host.Outcome State Fault Refusal :=
  .next (if ¬ s.serves p.chan then s
    else if s.commandFull p.chan then s.turnAway opcode p
    else match s.judge opcode p with
      | .resend { reply := some r, .. } => s.emit r
      | _ => s)

/-- BAD_OPCODE (R428): an opcode outside the table consumes its seq and is refused. -/
def execBadOpcode (opcode : Nat) (p : Packet) (s : State) : Host.Outcome State Fault Refusal :=
  .next (if opRow opcode = none then s.command opcode p true id else s)

/-! ### SESSION_OPEN -/

/-- session_timeout in ms (R443). -/
def State.sessionTimeout (s : State) : Nat := s.fld Reg.hostCfg 0 10 * 1000

/-- The session that an open by the same client with the same tag from the same binding made within 1 s (R423). -/
def State.openedAgain (s : State) (p : Packet) : Option Nat :=
  (List.range 128).find? (fun n =>
    let v := s.session n
    s.isOpen n && s.sessChan n == p.chan && v.srcIp == p.srcIp && v.srcPort == p.srcPort
      && v.client == word (leAt p.payload 0 4) && v.openTag == p.tag && decide (s.tick ≤ v.openTick + 1000))

/-- The lowest session number closed for at least 10 s (R423) (log entry 47, DEDUCED). -/
def State.freeSession (s : State) : Option Nat :=
  (List.range 128).find? (fun n => !s.isOpen n && decide ((s.session n).readyTick ≤ s.tick))

/-- The reply payload of SESSION_OPEN. -/
def State.openReply (s : State) (n chan : Nat) : List Byte := n8 n ++ n8 chan ++ n16 0 ++ n32 s.sessionTimeout

/-- Session `n` opens for the packet: unauthenticated, OBSERVER, its first seq 1 (R423). -/
def State.openSession (s : State) (n : Nat) (p : Packet) : State :=
  let client := word (leAt p.payload 0 4)
  let s := s.setSession n
    { Session.closed with client := client, openTag := p.tag, openTick := s.tick, srcIp := p.srcIp,
                          srcPort := p.srcPort, lastTick := s.tick }
  let s := s.wr (Reg.hostSess n) (word (1 + p.chan * 2 ^ 2 + 1 * 2 ^ 13))
  let s := s.setBit (Reg.hostSessions (n / 32)) (n % 32) true
  let s := s.put Reg.hostStatus 8 8 (s.fld Reg.hostStatus 8 8 + 1)
  (s.raise 0x0D00 []).audit n observer .sessionOpen client.toNat 0

/-- SESSION_OPEN's own checks and effect (log entry 16, DEDUCED; log entry 47, DEDUCED). -/
def State.runOpen (s : State) (p : Packet) : State :=
  if p.payload.length ≠ 4 then s.refuse 0 p .badLength [] false
  else match s.openedAgain p with
    | some n => s.refuse 0 p .ok (s.openReply n p.chan) false
    | none =>
      match s.freeSession with
      | none => s.refuse 0 p .busy [] false
      | some n => (s.openSession n p).refuse 0 p .ok (s.openReply n p.chan) false

/-- SESSION_OPEN (R423); in a session it is refused (log entry 16, DEDUCED). -/
def execSessionOpen (p : Packet) (s : State) : Host.Outcome State Fault Refusal :=
  .next (if p.session = 0xFF then
      (if ¬ s.serves p.chan then s
       else if s.commandFull p.chan then s.turnAway 0 p
       else if p.auth ≠ .absent then s.refuse 0 p .authFailed [] false
       else s.runOpen p)
    else s.command 0 p true (fun s => s.finish 0 p .notPermitted []))

/-! ### SESSION_AUTH -/

/-- The credential in slot `i` (R545). -/
def State.cred (s : State) (i : Nat) : Cred := sparseGet (fun _ => Cred.empty) s.sec.creds i

/-- A failure of R547 counts in SEC_AUTH_FAIL. -/
def State.failAuth (s : State) (p : Packet) (st : Status) : State :=
  (s.countUp Reg.secAuthFail 0 16 1).finish 1 p st []

/-- The 224 bytes of phase 1's reply: the module's ephemeral key, its nonce and its signature, which no rule computes. -/
def State.freshBytes (s : State) (n : Nat) : List Byte := (List.range n).map (Config.freeByte s.fresh)

/-- Phase 1 of SESSION_AUTH (R547) (log entry 50, DEDUCED). -/
def State.runAuth1 (s : State) (p : Packet) : State :=
  let i := leAt p.payload 1 1
  if s.isAuth p.session then s.failAuth p .notPermitted
  else if leAt p.payload 0 1 ≠ 1 then s.failAuth p .outOfRange
  else if ¬ (s.cred i).enabled then s.failAuth p .authFailed
  else
    let (nonce, s) := s.freshKey
    let (key, s) := s.freshKey
    let reply := s.freshBytes 224
    let s := { s with fresh := s.fresh + 1 }
    let s := s.setSession p.session
      { s.session p.session with phase1 := some { slot := i, nonce := nonce, key := key, tick := s.tick } }
    s.finish 1 p .ok reply

/-- SESSION_AUTH, phase 1. -/
def execSessionAuthPhase1 (p : Packet) (s : State) : Host.Outcome State Fault Refusal :=
  .next (if leAt p.payload 0 1 = 2 then s
    else s.command 1 p (decide (p.payload.length = 132)) (fun s => s.runAuth1 p))

/-- Phase 2 of SESSION_AUTH (R547): `sigOk` says whether the host's signature verifies. -/
def State.runAuth2 (s : State) (p : Packet) (sigOk : Bool) : State :=
  let v := s.session p.session
  if s.isAuth p.session then s.failAuth p .notPermitted
  else match v.phase1 with
    | none => s.failAuth p .notPermitted
    | some a =>
      let s := s.setSession p.session { v with phase1 := none }
      if a.tick + 5000 < s.tick then s.failAuth p .timeout
      else if ¬ sigOk then s.failAuth p .authFailed
      else
        let role := (s.cred a.slot).role
        let s := s.setSession p.session
          { s.session p.session with key := some a.key, credential := a.slot, counter := 0 }
        let s := (s.put (Reg.hostSess p.session) 0 2 2).put (Reg.hostSess p.session) 5 2 role
        (s.audit p.session role .sessionAuth a.slot 0).finish 1 p .ok []

/-- SESSION_AUTH, phase 2 (log entry 93, DESIGN CHOICE). -/
def execSessionAuthPhase2 (p : Packet) (sigOk : Bool) (s : State) : Host.Outcome State Fault Refusal :=
  .next (if leAt p.payload 0 1 ≠ 2 then s
    else s.command 1 p (decide (p.payload.length = 100)) (fun s => s.runAuth2 p sigOk) (.flag sigOk))

/-! ### The other session opcodes -/

/-- What SESSION_CLOSE does (R426). -/
def State.runClose (s : State) (p : Packet) : State :=
  (s.finish 2 p .ok []).endSession p.session .close

/-- SESSION_CLOSE (R426). -/
def execSessionClose (p : Packet) (s : State) : Host.Outcome State Fault Refusal :=
  .next (s.command 2 p (decide (p.payload = [])) (fun s => s.runClose p))

/-- Every lease of session `n` is renewed for its own duration (R439). -/
def State.renewLeases (s : State) (n : Nat) : State :=
  (List.range 256).foldl (fun s i =>
    if s.leaseKind i ≠ 0 ∧ s.leaseSession i = n
    then s.put (Reg.hostLeaseB i) 16 16 (sparseGet (fun _ => 0) s.leaseDur i) else s) s

/-- What SESSION_KEEPALIVE does (R439). -/
def State.runKeepalive (s : State) (p : Packet) : State :=
  (s.renewLeases p.session).finish 3 p .ok []

/-- SESSION_KEEPALIVE (R439). -/
def execSessionKeepalive (p : Packet) (s : State) : Host.Outcome State Fault Refusal :=
  .next (s.command 3 p (decide (p.payload = [])) (fun s => s.runKeepalive p))

/-- SESSION_INFO's payload: the HOST_SESSs word and an entry for each lease held (R428). -/
def State.sessionInfo (s : State) (n : Nat) : List Byte :=
  wordBytes (s.rd (Reg.hostSess n)) ++ (List.range 256).flatMap (fun i =>
    if s.leaseKind i ≠ 0 ∧ s.leaseSession i = n then
      n8 (s.leaseKind i) ++ n8 0 ++ n16 (s.leaseIndex i) ++ n16 (s.leaseHandle i) ++ n16 (s.leaseLeft i)
    else [])

/-- What SESSION_INFO does (R428). -/
def State.runInfo (s : State) (p : Packet) : State :=
  s.finish 4 p .ok (s.sessionInfo p.session)

/-- SESSION_INFO (R428). -/
def execSessionInfo (p : Packet) (s : State) : Host.Outcome State Fault Refusal :=
  .next (s.command 4 p (decide (p.payload = [])) (fun s => s.runInfo p))

/-- SESSION_IDLE_CLOSE (R426): no packet of the session has passed step 6 for session_timeout, counted in 1 ms ticks. -/
def execSessionIdleClose (n : Nat) (s : State) : Host.Outcome State Fault Refusal :=
  .next (if s.isOpen n ∧ (s.session n).lastTick + s.sessionTimeout ≤ s.tick then s.endSession n .idle else s)

/-- Sessions whose idle time passed at an earlier tick and that no packet of that tick kept open close (R30, R426) (log
entry 99, DESIGN CHOICE). -/
def State.idlePassed (s : State) : State :=
  (List.range 128).foldl (fun s n =>
    if s.isOpen n ∧ (s.session n).lastTick + s.sessionTimeout ≤ s.tick then s.endSession n .idle else s) s

/-- command_timeout in ms (R443). -/
def State.commandTimeout (s : State) : Nat := s.fld Reg.hostCfg 10 10 * 100

/-- A command has not started within command_timeout of its arrival (R442). -/
def State.timedOut (s : State) (f : InFlight) : Bool := !f.started && decide (f.tick + s.commandTimeout ≤ s.tick)

/-- A command that has not started is answered TIMEOUT, without effect (R442). -/
def State.timeOut (s : State) (f : InFlight) : State :=
  ((s.popUnit (2 * f.packet.chan)).finish f.opcode f.packet .timeout []).raise 0x0D07 []

/-- Commands whose time passed at an earlier tick and that did not start in it time out (R30, R442) (log entry 99,
DESIGN CHOICE). -/
def State.timeoutPassed (s : State) : State := (s.inflight.filter s.timedOut).foldl State.timeOut s

/-- COMMAND_TIMEOUT (R442): a command that has not started within command_timeout is answered TIMEOUT. -/
def execCommandTimeout (session seq : Nat) (s : State) : Host.Outcome State Fault Refusal :=
  .next (match s.inflight.find? (fun f => s.timedOut f && f.packet.session == session && f.packet.seq == seq) with
    | some f => s.timeOut f
    | none => s)

end Sys2Proof.Machine
end

