-- ==== Sys2Proof/Machine/Redundancy.lean ====
section
/-! DEFINITION. Self-diagnosis, the state CRC comparison, the lane change and the way back into step (R205 to R226). -/

namespace Sys2Proof.Machine

/-- Lane `l`'s hidden redundancy part. -/
def State.redOf (s : State) (l : Nat) : RedSt := sparseGet (fun _ => RedSt.idle) s.red l

def State.setRed (s : State) (l : Nat) (r : RedSt) : State := { s with red := sparseSet (fun _ => RedSt.idle) s.red l r }

/-- Standby lane `l` is out of step: both counts start again and a copy is pending (R210, R215, R223). -/
def State.outOfStep (s : State) (l : Nat) : State :=
  let s := (s.setStepCount 0 0).setStepCount 1 0
  let s := s.setBit (Reg.laneRedStatus l) 10 true
  s.setRed l { s.redOf l with syncing := false }

/-- Lane `l` diagnoses itself faulty (R211, R214). -/
def State.selfFault (s : State) (f : LaneFault) : State :=
  if s.computes f.lane then
    let s := s.wr (Reg.laneRedDiag f.lane)
      (word (f.code % 16 + f.unit % 64 * 16 + f.phase % 16 * 1024 + bitNat f.lasting * 16384))
    let s := s.wr (Reg.laneRedFaultSample f.lane) (s.rd (Reg.laneSample f.lane))
    let s := s.setRed f.lane { s.redOf f.lane with faulty := true }
    s.raiseRed f.lane 2 []
  else s

/-- Whether the last fault and the count of failures let a failed lane recover (R225) (log entry 57, DEDUCED). -/
def State.mayRecover (s : State) (l : Nat) : Bool :=
  s.bit (Reg.laneRedCfg l) 0 && decide (s.fld (Reg.laneRedStatus l) 16 4 ≤ s.fld (Reg.laneRedCfg l) 1 3)
    && !s.bit (Reg.laneRedDiag l) 14 && !(s.redOf l).bootFailed

/-- The compares staged in lane `l`'s generator are withheld (R216). -/
def State.dropStaged (s : State) (l : Nat) : State :=
  (List.range 48).foldl (fun s u => s.setBit (Reg.pwmCuStaged l u) 31 false) s

/-- Lane `l`'s role becomes FAILED at cycle 375; its compares are withheld, and its wait for recovery runs (R214, R216,
R225). -/
def State.failLane (s : State) (l : Nat) : State :=
  let a := Reg.laneRedStatus l
  let s := ((s.setBit a 0 false).setBit a 1 false).setBit a 2 false
  let s := ((s.setBit a 8 true).setBit a 10 false).setBit a 11 false
  let s := (s.countUp a 16 4 1).dropStaged l
  s.setRed l { s.redOf l with faulty := false, syncing := false, coefLeft := 0, waiting := !(s.redOf l).bootFailed }

/-- A standby diagnosed faulty is FAILED at the end of the sample (R214). -/
def State.failStandby (s : State) (l : Nat) : State :=
  if s.isStandby l && (s.redOf l).faulty then s.failLane l else s

/-! ### The state CRC -/

/-- The words of the registers `fs` of lane `l` as bytes. -/
def State.regBytes (s : State) (l : Nat) (fs : List (Nat → Nat)) : List Byte := wordsBytes (fs.map (fun f => s.rd (f l)))

/-- A binary64 number as little-endian bytes. -/
def doubleBytes (x : Nat) : List Byte := (List.range 8).map (fun i => BitVec.ofNat 8 (x / 2 ^ (8 * i)))

/-- The running timers of the mode machine (R208 item 2). -/
def State.modeTimers (s : State) : List Nat :=
  let w := s.modes.wait
  [w.inMode, w.band, w.out, w.charging.getD 0, w.route, w.dead, w.live, w.ramp, s.modes.brk.closeTime,
   s.modes.brk.openTime, s.modes.stop.time]

/-- Items 1 to 4 of R208: the sample count; the mode and its timers; the transform stage; the profile outputs. -/
def State.crcModes (s : State) (l : Nat) : List Byte :=
  s.regBytes l [Reg.laneSample, Reg.laneMode] ++ s.modeTimers.flatMap Config.crcField
  ++ s.regBytes l [Reg.laneXfOmega, Reg.laneXfTheta, Reg.laneXfPf, Reg.laneXfQf]
  ++ wordBytes s.lane.omegaBf ++ wordBytes s.lane.phiPrev ++ s.regBytes l [Reg.laneXfE]
  ++ Config.crcField (bitNat (s.bit (Reg.laneStatus l) 2)) ++ Config.crcField (s.modes.wait.tfc.getD 0)
  ++ (List.range 16).flatMap (fun j =>
      doubleBytes (s.pg j).p ++ doubleBytes (s.pg j).v ++ doubleBytes (s.pg j).a)

/-- Items 5 to 7 of R208: the laws; their coefficient CRCs; the coefficient queue. -/
def State.crcLaws (s : State) (l : Nat) : List Byte :=
  (List.range 4).flatMap (fun k =>
      s.regBytes l ((List.range 24).map (fun i L => Reg.laneLawXhat L k i)
        ++ (List.range 12).map (fun j L => Reg.laneLawUapp L k j))
      ++ Config.crcField (s.fld (Reg.laneLawStatus l k) 2 7) ++ s.regBytes l [fun L => Reg.laneLawSample L k])
  ++ s.regBytes l ((List.range 4).map (fun k L => Reg.laneLawCoefCrc L k))
  ++ Config.crcField s.lane.queue.length ++ Config.crcField s.lane.head

/-- Items 8 and 9 of R208: the staged compares and trip latches of the lane's generator; the counters of the timebases at
cycle `at357`. -/
def State.crcPwm (s : State) (l at357 : Nat) : List Byte :=
  (List.range 48).flatMap (fun u => Config.crcField (s.fld (Reg.pwmCuStaged l u) 0 24))
  ++ s.regBytes l [Reg.pwmTripLatch0, fun L => Reg.pwmTripLatch0 L + 4, fun L => Reg.pwmTripLatch0 L + 8]
  ++ (List.range 12).flatMap (fun t => wordBytes (if s.tbRuns t then s.tbCount t at357 else 0))

/-- The state CRC of lane `l` in the sample whose aperture was at `now`, formed at CLK_CTL cycle 357 (R208) (log entry
115, DESIGN CHOICE). -/
def State.laneCrc (s : State) (l now : Nat) : Word :=
  crc32c (s.crcModes l ++ s.crcLaws l ++ s.crcPwm l (now + 571))

/-- The state CRCs of lanes A and B: that of a standby which a fault no mechanism detects has altered (`agree` false) is
a free value (R208) (log entry 13, DEDUCED). -/
def State.laneCrcs (s : State) (now : Nat) (agree : Bool) : (Word × Word) × State :=
  let c := s.laneCrc 0 now
  let d := s.laneCrc 1 now
  if agree then ((c, d), s)
  else
    let (w, s) := s.freshWord
    (if s.isStandby 0 then (w, d) else (c, w), s)

/-- Lane `l` has, or has not, received its peer's CRC `peer` at cycle 364 (R215) (log entry 116, DEDUCED). -/
def State.receiveCrc (s : State) (l : Nat) (got : Bool) (peer : Word) : State :=
  if ¬ s.computes l then s
  else
    let s := s.setBit (Reg.laneRedStatus l) 12 got
    if got then (if s.computes (1 - l) then s.wr (Reg.laneRedPeerCrc l) peer else s) else s.raiseRed l 5 []

/-- Lane `l` is faulty by its peer's lane-link watchdog (R211). -/
def State.lostPeer (s : State) (l : Nat) : Bool := (s.redOf l).faulty && s.fld (Reg.laneRedDiag l) 0 4 == 5

/-- The exchange and comparison of the state CRCs at cycles 357 to 364 (R208 to R210, R215). `agree`: no undetected fault
has altered the standby's state; `linkA`, `linkB`: the lane received its peer's CRC. -/
def State.compareCrc (s : State) (now : Nat) (agree linkA linkB : Bool) : State :=
  let ((c, d), s) := s.laneCrcs now agree
  let s := if s.computes 0 then s.wr (Reg.laneRedCrc 0) c else s
  let s := if s.computes 1 then s.wr (Reg.laneRedCrc 1) d else s
  let s := (s.receiveCrc 0 linkA d).receiveCrc 1 linkB c
  if ¬ (s.computes 0 ∧ s.computes 1) then s
  else
    let sb := if s.isStandby 0 then 0 else 1
    if ¬ linkA ∨ ¬ linkB then (if s.lostPeer (1 - sb) then s else s.outOfStep sb)
    else if s.bit (Reg.laneRedStatus sb) 10 ∨ s.bit (Reg.laneRedStatus sb) 11 then s
    else if (s.redOf 0).faulty ∨ (s.redOf 1).faulty then s
    else if c = d then
      (s.setStepCount 0 (min 31 (s.stepCount 0 + 1))).setStepCount 1 (min 31 (s.stepCount 1 + 1))
    else
      let s := (s.raiseRed 0 1 []).raiseRed 1 1 []
      let s := (s.countUp (Reg.laneRedDisagree 0) 0 16 1).countUp (Reg.laneRedDisagree 1) 0 16 1
      s.outOfStep sb

/-- The coefficient copy moves on by one sample (R223) (log entry 58, DEDUCED). -/
def State.copyCoefs (s : State) : State :=
  [0, 1].foldl (fun s l =>
    let r := s.redOf l
    if s.bit (Reg.laneRedStatus l) 11 then s.setRed l { r with coefLeft := r.coefLeft - 1 } else s) s

/-- The registers of the dynamic state that a resynchronisation copies to the standby (R208, R223). -/
def dynamicRegs : List (Nat → Nat) :=
  [Reg.laneStatus, Reg.laneBase, Reg.laneSample, Reg.laneQueue, Reg.laneNumeric, Reg.laneXfOmega, Reg.laneXfTheta,
   Reg.laneXfPf, Reg.laneXfQf, Reg.laneXfE, Reg.laneXfImag, Reg.laneXfInmag, Reg.laneMode, Reg.lanePgStatus,
   Reg.lanePgOfs0, Reg.lanePgOfs3, Reg.laneModeVb, Reg.laneModeDf, Reg.laneModeDphi, Reg.laneModeTime]
  ++ (List.range 32).map (fun w L => Reg.laneEif L w)
  ++ (List.range 16).flatMap (fun j =>
      [fun L => Reg.lanePgTgt L j, fun L => Reg.lanePgPos L j, fun L => Reg.lanePgVel L j])
  ++ (List.range 4).flatMap (fun l =>
      [fun L => Reg.laneLawStatus L l, fun L => Reg.laneLawSample L l]
      ++ (List.range 24).map (fun i L => Reg.laneLawXhat L l i)
      ++ (List.range 12).map (fun j L => Reg.laneLawUapp L l j))
  ++ (List.range 48).map (fun u L => Reg.pwmCuStaged L u)

/-- The coefficient CRCs differ between the lanes (R223). -/
def State.coefsDiffer (s : State) : Bool :=
  (List.range 4).any (fun l => s.rd (Reg.laneLawCoefCrc 0 l) != s.rd (Reg.laneLawCoefCrc 1 l))

/-- The lane change (R216, R217, R221, R222): the ACTIVE lane `a` gives up the token at the update point `now`. `forced`:
it has failed; otherwise the change is commanded (R226). A standby in step and clean takes over in the sequence of
`LaneHold`; otherwise every channel is released at once, SAFELIGHT follows with cause 0x06, and a standby that is not
FAILED takes the token at cycle 16 with its own state. -/
def State.laneChange (s : State) (a now : Nat) (forced : Bool) : State :=
  let b := 1 - a
  let s := (s.reach now).pwmCycle now
  let heir := s.isStandby b && !(s.redOf b).faulty
  let hold : LaneHold :=
    { start := now, heir := b, forced := forced, inStep := true, token := false, offs := false, latched := [] }
  let give := fun (s : State) =>
    if forced then s.failLane a
    else (s.setBit (Reg.laneRedStatus a) 0 false).setBit (Reg.laneRedStatus a) 1 true
  if heir && s.inStep b then
    let cmds := (List.range 48).map (fun c => (c, s.outCmd c))
    let s := give s
    { s with pwm := { s.pwm with hold := some { hold with latched := cmds } } }
  else
    let s := s.raiseRed a 3 []
    let s := State.rejudge { s with pwm := { s.pwm with noLane := true, relDue := [] } }
    let s := if heir then (s.setBit (Reg.laneRedStatus b) 10 false).setBit (Reg.laneRedStatus b) 11 false else s
    let s := s.openDecision.safelight 6
    let g := s.modes.stage
    let s := s.setStage { g with gateFall := g.gateReq }
    let s := (give s).failStandby b
    let s : State := if heir then { s with pwm := { s.pwm with relDue := [], hold := some { hold with inStep := false } } } else s
    s.busUpdate

/-! ### Commands of the lanes -/

/-- ACTIVE_LANE_FAILED: the ACTIVE lane, diagnosed faulty, becomes FAILED at the update point `now` of the schedule, or
at any moment while the schedule timebase is stopped (R214, R216 to R222) (log entry 13, DEDUCED). -/
def execActiveLaneFailed (now : Nat) (s : State) : Host.Outcome State Fault Refusal :=
  .next (if ¬ (s.pwm.now ≤ now ∧ (s.schedPoint now || !s.schedRuns)) then s
    else if s.isActive 0 && (s.redOf 0).faulty then s.laneChange 0 now true
    else if s.isActive 1 && (s.redOf 1).faulty then s.laneChange 1 now true
    else s)

/-- A commanded lane change takes place (R226). -/
def State.commandedChange (s : State) (now : Nat) : State :=
  let s := { s with modes := { s.modes with changeDue := false } }
  if s.isActive 0 then s.laneChange 0 now (s.redOf 0).faulty
  else if s.isActive 1 then s.laneChange 1 now (s.redOf 1).faulty else s

/-- UPDATE_POINT: an update point of timebase `t` at cycle `now` (R233, R238, R249). At an update point of the schedule
a commanded lane change takes place first, and a lane diagnosed faulty loads nothing (R216, R226) (log entry 4, DESIGN
CHOICE). -/
def execUpdatePoint (t now : Nat) (s : State) : Host.Outcome State Fault Refusal :=
  .next (if s.pwm.now ≤ now ∧ s.isUpdate t now then
    let s := s.reach now
    let s := if (s.tbAt t now).2 = 0 then s.changeTb t now else s
    if s.isUpdate t now then
      let sched := s.schedPoint now
      let s := if sched && s.modes.changeDue then s.commandedChange now else s
      s.updatePoint t now ([0, 1].filter (fun l => !(sched && (s.redOf l).faulty)))
    else s.pwmCycle now
  else s)

/-- LANE_LINK_WATCHDOG: lane `l` has missed its peer's heartbeat for 8 CLK_CTL cycles and records the peer's loss with
code 0x5 (R211, R214). -/
def execLaneLinkWatchdog (l : Nat) (s : State) : Host.Outcome State Fault Refusal :=
  .next (if l < 2 ∧ s.computes l ∧ s.computes (1 - l) ∧ ¬ (s.redOf (1 - l)).faulty then
    s.selfFault { lane := 1 - l, code := 5, unit := 0, phase := 0, lasting := false }
  else s)

/-- LANE_RECOVERY_START: 1 ms after lane `l` failed it starts its built-in self-test, where R225 then lets it; otherwise it
stays FAILED until module reset. -/
def execLaneRecoveryStart (l : Nat) (s : State) : Host.Outcome State Fault Refusal :=
  .next (if l < 2 ∧ s.isFailed l ∧ (s.redOf l).waiting then
    let s := s.finishHold
    let may := s.mayRecover l
    let s := s.setRed l { s.redOf l with waiting := false }
    if ¬ may then s else
    (s.setBit (Reg.laneRedStatus l) 8 false).setBit (Reg.laneRedStatus l) 9 true
  else s)

/-- LANE_RECOVERED: the self-test of recovering lane `l` ends; on a pass it is a standby out of step, on a failure
FAILED until module reset (R225). -/
def execLaneRecovered (l : Nat) (pass : Bool) (s : State) : Host.Outcome State Fault Refusal :=
  .next (if l < 2 ∧ s.isRecovering l then
    let s := s.setBit (Reg.laneRedStatus l) 9 false
    if pass then ((s.setBit (Reg.laneRedStatus l) 1 true).outOfStep l).raiseRed l 6 []
    else s.setBit (Reg.laneRedStatus l) 8 true
  else s)

/-- RESYNC_COPY: the dynamic state is copied to standby lane `l`; where coefficient CRCs differ the coefficients follow
over 126 samples; the step count starts when the last part completes (R223, R224) (log entry 58, DEDUCED). -/
def execResyncCopy (l : Nat) (s : State) : Host.Outcome State Fault Refusal :=
  .next (let s := s.finishHold
    if l < 2 ∧ s.isStandby l ∧ s.isActive (1 - l) then
    let a := Reg.laneRedStatus l
    if s.bit a 10 then
      let s := dynamicRegs.foldl (fun s f => s.wr (f l) (s.rd (f (1 - l)))) s
      let s := (s.setBit a 10 false).setStepCount l 0
      if s.coefsDiffer then (s.setBit a 11 true).setRed l { s.redOf l with coefLeft := 126 }
      else s.setRed l { s.redOf l with syncing := true }
    else if s.bit a 11 ∧ (s.redOf l).coefLeft = 0 then
      let s := (List.range 4).foldl (fun s k =>
        s.wr (Reg.laneLawCoefCrc l k) (s.rd (Reg.laneLawCoefCrc (1 - l) k))) s
      let s := (s.setBit a 11 false).setStepCount l 0
      s.setRed l { s.redOf l with syncing := true }
    else s
  else s)

/-- LANE_RESYNC_DONE: the step count of standby lane `l` has reached 16 after a copy (R224). -/
def execLaneResyncDone (l : Nat) (s : State) : Host.Outcome State Fault Refusal :=
  .next (if l < 2 ∧ s.isStandby l ∧ (s.redOf l).syncing ∧ 16 ≤ s.stepCount l then
    (s.setRed l { s.redOf l with syncing := false }).raiseRed l 4 []
  else s)

end Sys2Proof.Machine
end

