-- ==== Sys2Proof/Machine/Sample.lean ====
section
/-! DEFINITION. The base sample (SAMPLE_SCHEDULE, R14, R139 to R145) and the internal 1 µs boundary, with fixed changes
of the lane registers at their boundaries (R172, R204, R227) and the spill records of R171. -/

namespace Sys2Proof.Machine

/-! ### Fixed changes of lane registers -/

/-- Whether `a` lies in a LANE block. -/
def isLaneReg (a : Nat) : Bool := decide (0x10030000 ≤ a ∧ a < 0x10050000)

/-- The law whose register block holds `a`, if one does. -/
def lawOfReg (a : Nat) : Option Nat :=
  let o := a % 0x10000
  if isLaneReg a ∧ 0x1000 ≤ o ∧ o < 0x2000 then some ((o - 0x1000) / 0x400) else none

/-- Running state of the schedule, the transform stage and the laws, as LANE_STATUS, LANE_BASE and LANE_LAWl_STATUS
show it. -/
def State.showLane (s : State) : State :=
  let run := s.schedRuns
  let s := s.lsetBit Reg.laneStatus 0 run
  let s := s.lsetBit Reg.laneStatus 1 (run && s.xfOn && s.lawOn s.vmoLaw)
  let s := (List.range 4).foldl (fun s l =>
    (s.lsetBit Reg.laneStatus (4 + l) (run && s.lawOn l)).lsetBit (fun L => Reg.laneLawStatus L l) 0 (run && s.lawOn l)) s
  let s := s.eachLane (fun s l => s.setBit (Reg.laneStatus l) 12 (s.bit (Reg.laneSpillCfg l) 0))
  s.lwr Reg.laneBase (if run then word s.baseInterval else 0)

/-- A spill register of lane `l` takes its fixed value. A new region, or one that the next slot no longer lies in, is
filled from its start; records buffered while spill is disabled are not written (R171) (log entry 112, DESIGN CHOICE). -/
def State.applySpill (s : State) (l a : Nat) (v : Word) : State :=
  let s := s.wr a v
  let off := !s.bit (Reg.laneSpillCfg l) 0
  let moved := a == Reg.laneSpillAddr l
  let s : State := if off then
      { s with lane := { s.lane with spill := sparseSet (fun _ => []) s.lane.spill l [],
                                     spillPos := sparseSet (fun _ => 0) s.lane.spillPos l 0 } }
    else if moved then { s with lane := { s.lane with spillPos := sparseSet (fun _ => 0) s.lane.spillPos l 0 } }
    else s
  if moved ∨ 512 * s.fld (Reg.laneSpillCfg l) 11 5 ≤ s.fld (Reg.laneSpillWp l) 0 16 then s.put (Reg.laneSpillWp l) 0 16 0 else s

/-- A lane register takes its fixed value, in both lanes except for a spill register (R172). -/
def State.applyLane (s : State) (a : Nat) (v : Word) : State :=
  if a = Reg.laneSpillCfg 0 ∨ a = Reg.laneSpillAddr 0 then s.applySpill 0 a v
  else if a = Reg.laneSpillCfg 1 ∨ a = Reg.laneSpillAddr 1 then s.applySpill 1 a v
  else (s.wr a v).wr (a + 0x10000) v

/-- Every law that `s` has enabled and `old` had not loads its preset, as the set has applied to it (R141). -/
def State.loadEnabled (s old : State) : State :=
  (List.range 4).foldl (fun s l => if s.lawOn l ∧ ¬ old.lawOn l then s.loadPreset l else s) s

/-- Whether a fixed change of lane register `a` takes effect at base sample `n`: a law's at its next sample, the
transform stage's at the next sample of vmo_law, as that of the black-start ramp (R77), every other at the next base
sample (R172, R204) (log entry 113, DEDUCED). -/
def State.laneItemDue (s : State) (n a : Nat) : Bool :=
  isLaneReg a &&
  (match lawOfReg a with
   | some l => s.lawDue l n || !s.lawOn l
   | none =>
     let o := a % 0x10000
     if (0x100 ≤ o ∧ o < 0x200) ∨ o = 0x814 then s.lawDue s.vmoLaw n || !s.lawOn s.vmoLaw || !s.xfOn else true)

/-! ### Lane spill -/

/-- Spill records buffered in lane `l`. -/
def State.spillBuf (s : State) (l : Nat) : List (List Word) := sparseGet (fun _ => []) s.lane.spill l

/-- The record of R171. -/
def State.spillRecord (s : State) (l : Nat) : List Word :=
  let law := s.fld (Reg.laneSpillCfg l) 1 2
  [s.rd (Reg.laneSample l), s.rd (Reg.laneStatus l), s.rd (Reg.laneXfOmega l), s.rd (Reg.laneXfTheta l),
   s.rd (Reg.laneXfPf l), s.rd (Reg.laneXfQf l), s.rd (Reg.laneXfE l), s.rd (Reg.laneXfImag l)]
  ++ (List.range 24).map (fun i => s.rd (Reg.laneLawXhat l law i))

/-- Lane `l` queues its spill record, or drops and counts it (R171). -/
def State.spill (s : State) (l : Nat) : State :=
  let c := s.rd (Reg.laneSpillCfg l)
  if s.holdsResults l && field c 0 1 == 1 && (s.rd (Reg.laneSample l)).toNat % (field c 3 8 + 1) == 0 then
    let q := s.spillBuf l
    if q.length < 4 then
      { s with lane := { s.lane with spill := sparseSet (fun _ => []) s.lane.spill l (q ++ [s.spillRecord l]),
                                     spillRun := sparseSet (fun _ => false) s.lane.spillRun l false } }
    else
      let run := sparseGet (fun _ => false) s.lane.spillRun l
      let s := s.countUp (Reg.laneSpillDrop l) 0 16 1
      let s := { s with lane := { s.lane with spillRun := sparseSet (fun _ => false) s.lane.spillRun l true } }
      if run then s else s.raiseLane 7 [word l]
  else s

/-! ### The base sample -/

/-- Whether the base sample whose aperture is at CLK_PWM cycle `now` runs: its update point, 600 ns on, is one of the
schedule (R14, R143), and it lies no earlier than the timebase settings in force (R592). -/
def State.sampleAt (s : State) (now : Nat) : Bool := s.someLane && decide (s.pwm.now ≤ now) && s.schedPoint (now + 600)

/-- The count of R203 at a sample of vmo_law: p_set and q_set have arrived and |p_f| and |q_f| lie within unload_band; in
RIDE_THROUGH it stays 0 (R190). -/
def State.countUnload (s : State) : State :=
  let band := F32.rat (s.fld (Reg.laneModeStop 0) 8 8) 100
  let ok := s.mode == .gridForming && s.unloading && s.pgAtRest 2 && s.pgAtRest 3
    && F32.le (F32.abs (s.lrd Reg.laneXfPf)) band && F32.le (F32.abs (s.lrd Reg.laneXfQf)) band
  s.setStop { s.modes.stop with count := if ok then s.modes.stop.count + 1 else 0 }

/-- Self-diagnosis and CRC comparison at the end of a base sample; a standby diagnosed faulty becomes FAILED (R208 to
R215). -/
def State.endSample (s : State) (now : Nat) (diag : List LaneFault) (agree linkA linkB : Bool) : State :=
  let s := diag.foldl State.selfFault s
  (((s.compareCrc now agree linkA linkB).copyCoefs).failStandby 0).failStandby 1

/-- Sample `n` begins: fixed lane changes take effect, LANE_SAMPLE counts, and the profile generator steps. -/
def State.startSample (s : State) (n : Nat) : State :=
  let s := s.openDecision
  let s := ((s.takeItems (s.laneItemDue n) State.applyLane).loadEnabled s).showLane
  let s := s.lwr Reg.laneSample (word n)
  ((s.countSource 0x8001 1).countSource 0x8002 1).retarget.profileStep

/-- The transform stage, where its law `vmo` is due, the due laws, and the spill of sample `n`. -/
def State.computeSample (s : State) (n : Nat) (vmo : Bool) : State :=
  let s := if vmo then { s with modes := { s.modes with thetaK := s.lrd Reg.laneXfTheta } } else s
  let (s, bad) := s.runSample n
  let s := if bad.isSome then { s with modes := { s.modes with causes := s.modes.causes ++ [2] } } else s
  let s := if vmo then s.countUnload else s
  ((s.spill 0).spill 1).endOwned

/-- SAMPLE_SCHEDULE: the base sample whose aperture closes at CLK_PWM cycle `now` runs its fixed schedule in both lanes:
coefficient words, profile step, transform stage, laws, compares, spill, state CRC and the mode decision (R14, R139 to
R185). `corrected`: errors of lane memory that ECC corrects in it (R212); `diag`: what the lanes' self-diagnosis found;
`agree`, `linkA`, `linkB`: the CRC exchange (log entry 13, DEDUCED). -/
def execSampleSchedule (now corrected : Nat) (diag : List LaneFault) (agree linkA linkB : Bool) (s : State) :
    Host.Outcome State Fault Refusal :=
  .next (if s.sampleAt now then
    let s := (s.reach now).countUp Reg.memEccCorr 0 16 corrected
    let n := (s.lrd Reg.laneSample + 1).toNat
    let s := s.startSample n
    let vmo := s.xfOn && s.lawDue s.vmoLaw n
    let s := s.computeSample n vmo
    let s := (s.advance s.baseInterval).decideMode (vmo && s.lane.limitReached)
    s.endSample now diag agree linkA linkB
  else s)

/-- INTERNAL_1US_BOUNDARY: while the schedule timebase is stopped the mode machine decides here, and lane faults take
effect; a law that is disabled or stopped takes its coefficient words (R160, R184, R214). -/
def execInternal1usBoundary (s : State) : Host.Outcome State Fault Refusal :=
  .next (
    let s := s.finishHold
    let stopped := !s.schedRuns
    let s := (List.range 4).foldl (fun s l =>
      if stopped || !s.lawOn l then (s.applyWords l).showCoefCrc l else s) s
    if stopped && s.someLane then
      let s := s.openDecision.showLane
      let s := (s.advance 1000).decideMode false
      (s.failStandby 0).failStandby 1
    else s)

end Sys2Proof.Machine
end

