-- ==== Sys2Proof/Machine/Mem.lean ====
section
/-! DEFINITION. Memory faults and where they land (R31 to R38, R361 to R363), bank arbitration and its writers (R364 to
R369), accesses through contexts (R371 to R376), DMA (R377 to R382), and rings (R383, R387). -/

namespace Sys2Proof.Machine

/-! ### Faults -/

/-- The fields of MEM_FAULT_INFO (R390). -/
def Retry.info (r : Retry) (lasting : Bool) : Word :=
  word (r.region % 8 + bitNat lasting * 2 ^ 3 + bitNat r.dma * 2 ^ 4 + (if r.dma then r.channel % 128 else 0) * 2 ^ 5
    + ctxCode r.ctx * 2 ^ 12)

/-- any_marked of MEM_STATUS: a page, descriptor, slot or row is marked or retired. -/
def State.showMarked (s : State) : State :=
  s.setBit Reg.memStatus 1 ((List.range 128).any (fun w => s.rd (Reg.memBadpage w) != 0) || s.memx.retired
    || s.conv.rowDue != [] || decide (s.fld Reg.memPool 16 7 < 64) || decide (s.fld Reg.memStatus 8 8 < 64))

def State.dmaCh (s : State) (k : Nat) : DmaCh := sparseGet (fun _ => DmaCh.idle) s.memx.dma k
def State.setDmaCh (s : State) (k : Nat) (v : DmaCh) : State :=
  { s with memx := { s.memx with dma := sparseSet (fun _ => DmaCh.idle) s.memx.dma k v } }

/-- Registers of channel `k` = 32·e + n. -/
def dmaCfg (k : Nat) : Nat := Reg.memDmaChCfg (k / 32) (k % 32)
def dmaStat (k : Nat) : Nat := Reg.memDmaChStat (k / 32) (k % 32)
def dmaDone (k : Nat) : Nat := Reg.memDmaChDone (k / 32) (k % 32)

/-- The context channel `k` is bound to; 255 is SYSTEM. -/
def State.dmaCtx (s : State) (k : Nat) : Nat := if s.fld (dmaCfg k) 3 8 = 255 then systemCtx else s.fld (dmaCfg k) 3 8

def State.dmaState (s : State) (k : Nat) : Nat := s.fld (dmaStat k) 0 3
def State.setDmaState (s : State) (k st : Nat) : State := s.put (dmaStat k) 0 3 st

/-- The fields of CHn_STAT that show the chain: transfers pending and bytes moved. -/
def State.showDma (s : State) (k : Nat) : State :=
  let v := s.dmaCh k
  (s.put (dmaStat k) 3 8 v.xfers.length).put (dmaStat k) 11 21 (min (v.moved / 64) (2 ^ 21 - 1))

/-- A completion report of channel `k` to the session that started the chain (R380, R417). -/
def State.report (s : State) (k index : Nat) (st : Status) : State :=
  match (s.dmaCh k).packet with
  | some p =>
    if s.isOpen p.session then
      s.notify p.session 0x0504 p.tag st (n8 (k / 32) ++ n8 (k % 32) ++ n16 index)
    else s
  | none => s

/-- `n` words from context address `a` become free values where they are shared SRAM that the context may write (R35). -/
def State.loseWords (s : State) (ctx a : Nat) : Nat → State
  | 0 => s
  | n + 1 =>
    let s := match s.place ctx a with
      | .sram d true => if s.pageMarked d then s else
        let (w, s) := s.freshWord
        s.wrBytes d (wordBytes w)
      | _ => s
    s.loseWords ctx (a + 4) n

/-- Every transfer of channel `k`'s chain that is not complete is discarded, in payload order, leaves its destination
range undefined, and the channel enters `st` (R35, R380 to R382) (log entry 66, DEDUCED; log entry 5, DESIGN CHOICE). -/
def State.discardChain (s : State) (k st : Nat) : State :=
  let v := s.dmaCh k
  let s := v.xfers.foldl (fun s x => s.loseWords (s.dmaCtx k) x.dst (x.len / 4)) s
  let s := (List.range v.xfers.length).foldl (fun s i =>
    (s.countUp (dmaDone k) 16 16 1).report k (v.index + i) .discarded) s
  let s : State := { s with memx := { s.memx with
    retries := s.memx.retries.map (fun r => if r.dma ∧ r.channel = k then { r with burst := none } else r) } }
  ((s.setDmaCh k DmaCh.idle).showDma k).setDmaState k st

/-- A lasting fault of channel `k`: it is marked, its chain discarded, and it enters FAULTED (R381) (log entry 66,
DEDUCED). -/
def State.faultChannel (s : State) (k : Nat) : State :=
  (s.setBit (Reg.memDmaFault (k / 32)) (k % 32) true).discardChain k 4

/-- The work in flight of a context is discarded (R34, R35). -/
def State.discardContext (s : State) (ctx : Nat) : State :=
  if ctx < 128 then s.discardFlight ctx else if ctx < 144 then s.discardCore (ctx - 128) else s

/-- Page `p` holds shared SRAM that one of the `n` words from context address `a` stands for. -/
def State.wordsMeet (s : State) (p ctx a : Nat) : Nat → Bool
  | 0 => false
  | n + 1 => (match s.place ctx a with | .sram d _ => d / 0x1000 == p | _ => false) || s.wordsMeet p ctx (a + 4) n

/-- Channel `k`'s transfer under way has used page `p`. -/
def State.dmaUsed (s : State) (p k : Nat) : Bool :=
  let v := s.dmaCh k
  match v.xfers with
  | [] => false
  | x :: _ => s.wordsMeet p (s.dmaCtx k) x.src (v.moved / 4) || s.wordsMeet p (s.dmaCtx k) x.dst (v.moved / 4)

/-- The call that core `c` runs has its instance record on page `p`. -/
def State.callUsed (s : State) (p c : Nat) : Bool :=
  s.cyc.calls.any (fun r => r.core == c && r.effect.isNone && match s.inForce.calls[r.index]? with
    | some k =>
      let a := s.inForce.first * 0x10000 + 4 * k.instance_
      decide (a < (p + 1) * 0x1000) && decide (p * 0x1000 < a + 4 * k.length)
    | none => false)

/-- Other work in flight that used page `p` is discarded (R34). -/
def State.discardUsers (s : State) (p : Nat) : State :=
  let s := (List.range 128).foldl (fun s k => if s.dmaUsed p k then s.discardChain k 0 else s) s
  (List.range 16).foldl (fun s c => if s.callUsed p c then s.discardCore c else s) s

/-- A descriptor of the pool, or for `slot` a frame slot, is retired (R361). -/
def State.retire (s : State) (slot : Bool) : State :=
  if slot then { s with memx := { s.memx with retired := true } }
  else
    let n := s.fld Reg.memPool 16 7
    if n = 0 then s.put Reg.memPool 0 13 (s.sharedFree - 1)
    else (s.put Reg.memPool 16 7 (n - 1)).put Reg.memStatus 2 6 (min 63 (n - 1))

/-- Where a lasting fault lands (R361): `r.channel` is the lane, the staging row's channel, 1 for a frame slot, or the
DMA channel. -/
def State.land (s : State) (r : Retry) : State :=
  match r.region with
  | 0 =>
    let page := r.addr / 0x1000
    let s := if r.marks ∧ r.addr < memSize then (s.setBankBit (Reg.memBadpage 0) page true) else s
    let s := if r.dma then s.faultChannel r.channel else s.discardContext r.ctx
    if r.marks ∧ r.addr < memSize then s.discardUsers page else s
  | 1 => s.loseCore (r.ctx - 128)
  | 2 => s
  | 3 => (s.setDiag { s.safe.diag with memLasting := true }).latchLockout 8 0
  | 4 => s.retire (decide (r.channel = 1))
  | _ =>
    if s.conv.rowDue.contains r.channel then s
    else { s with conv := { s.conv with rowDue := s.conv.rowDue ++ [r.channel] } }

/-- An access that a region of R357 can have: shared SRAM outside marked pages, a core's, a lane's, a channel's. -/
def State.canFail (s : State) (region addr ctx : Nat) (dma : Bool) (channel : Nat) : Bool :=
  match region with
  | 0 => decide (addr < memSize) && !s.pageMarked addr && (!dma || decide (channel < 128))
  | 1 => decide (128 ≤ ctx) && decide (ctx < 144)
  | 2 => decide (channel < 2)
  | 5 => decide (channel < 80)
  | r => decide (r < 5)

/-- UNCORRECTABLE_ERROR (R31): an access to a region of R357 has failed and is retried; `channel` as for `State.land`.
A lane diagnoses itself faulty at once, whatever the retry brings (R212); a read of conversion staging delivers its sample
as invalid (R361). -/
def execUncorrectableError (region addr ctx : Nat) (dma : Bool) (channel : Nat) (s : State) :
    Host.Outcome State Fault Refusal :=
  .next (if ¬ s.canFail region addr ctx dma channel then s
    else
      let r : Retry :=
        { region := region, addr := addr, ctx := ctx, dma := dma, channel := channel, marks := true, burst := none }
      let s := { s with memx := { s.memx with retries := s.memx.retries ++ [r] } }
      let s := if region = 2 then
          s.selfFault { lane := channel, code := 2, unit := 0, phase := 0, lasting := false }
        else s
      if region = 5 then s.setStaged channel { s.staged channel with valid := false } else s)

/-- SCRUB_ACCESS (R360): the next block has `corrected` corrected errors, and an uncorrectable one where `bad`. -/
def execScrubAccess (corrected : Nat) (bad : Bool) (s : State) : Host.Outcome State Fault Refusal :=
  .next (
    let a := s.memx.scrub
    let s := s.countUp Reg.memEccCorr 0 16 corrected
    let s := { s with memx := { s.memx with scrub := (a + 64) % memSize } }
    if bad ∧ ¬ s.pageMarked a then
      let r : Retry := { region := 0, addr := a, ctx := 255, dma := false, channel := 0, marks := true, burst := none }
      { s with memx := { s.memx with retries := s.memx.retries ++ [r] } }
    else s)

/-- Writing `v` to MEM_BADPAGEw: a zeroing pass starts over each marked page whose bit is 1 (R363). -/
def State.clearPages (s : State) (w : Nat) (v : Word) : State :=
  let ps := (indicesWhere 32 (fun i => field v i 1 == 1 && s.bit (Reg.memBadpage w) i)).map (fun i => 32 * w + i)
  { s with memx := { s.memx with clearing := s.memx.clearing ++ ps.filter (fun p => !s.memx.clearing.contains p) } }

/-- BADPAGE_CLEAR_DONE (R363): the pass over page `p` is complete. -/
def execBadpageClearDone (p : Nat) (s : State) : Host.Outcome State Fault Refusal :=
  .next (if s.memx.clearing.contains p then
    let s := { s with mem := s.mem.filter (fun e => e.1 / 0x1000 != p),
                      memx := { s.memx with clearing := s.memx.clearing.filter (· != p) } }
    (s.setBankBit (Reg.memBadpage 0) p false).showMarked
  else s)

/-! ### Bank arbitration and its writers -/

/-- The age level of requester `q` = 16·class + index at bank `b`. -/
def State.age (s : State) (b q : Nat) : Nat := sparseGet (fun _ => 0) s.memx.ages (64 * b + q)
def State.setAge (s : State) (b q n : Nat) : State :=
  { s with memx := { s.memx with ages := sparseSet (fun _ => 0) s.memx.ages (64 * b + q) n } }

/-- Requester `x` is granted before `y` (R366): a higher class, then a higher level, then a lower index. -/
def State.before (s : State) (b x y : Nat) : Bool :=
  if x / 16 ≠ y / 16 then decide (x / 16 < y / 16)
  else if s.age b x ≠ s.age b y then decide (s.age b y < s.age b x)
  else decide (x < y)

/-- Requesters of R365: the fault-record writer; film writer and spills; cores; the BULK requesters. -/
def requester (q : Nat) : Bool := q == 0 || (16 ≤ q && q < 19) || (32 ≤ q && q < 48) || (48 ≤ q && q < 56)

/-- The bank of lane `l`'s next spill record. -/
def State.spillBank (s : State) (l : Nat) : Nat :=
  (s.fld (Reg.laneSpillAddr l) 0 8 * 0x10000 + 128 * s.fld (Reg.laneSpillWp l) 0 16) / 0x100000

/-- Lane `l`'s oldest spill record goes on by `beats` beats of 8 bytes, where its page is not marked; its last beat
advances WP (R40, R171, R362). -/
def State.writeSpill (s : State) (l beats : Nat) : State :=
  match s.spillBuf l with
  | [] => s
  | r :: rs =>
    let at_ := sparseGet (fun _ => 0) s.lane.spillPos l
    let wp := s.fld (Reg.laneSpillWp l) 0 16
    let (s, _) := s.writerStore (s.fld (Reg.laneSpillAddr l) 0 8 * 0x10000 + 128 * wp + 8 * at_)
      (((wordsBytes r).drop (8 * at_)).take (8 * beats))
    let at_ := at_ + beats
    let s : State := { s with lane := { s.lane with spillPos := sparseSet (fun _ => 0) s.lane.spillPos l (if at_ < 16 then at_ else 0) } }
    if at_ < 16 then s
    else
      let s : State := { s with lane := { s.lane with spill := sparseSet (fun _ => []) s.lane.spill l rs } }
      s.put (Reg.laneSpillWp l) 0 16 ((wp + 1) % (512 * s.fld (Reg.laneSpillCfg l) 11 5))

/-- The requester that wins bank `b` among `q` and `rest` (R366). -/
def State.winner (s : State) (b q : Nat) (rest : List Nat) : Nat :=
  rest.foldl (fun w x => if s.before b x w then x else w) q

/-- Requester `win` of `qs` is granted bank `b`: it starts over at age 0 while the others age; a withdrawn winner transfers
nothing and costs a dead cycle (R369), another transfers `beats` beats, at most 8, after `wait` CLK_CTL cycles (R40,
R364); the fault-record writer holds the bank for the 32 of its record (R368). -/
def State.grantBank (s : State) (b : Nat) (qs : List Nat) (win : Nat) (withdrawn : Bool) (beats wait : Nat) : State :=
  let s := qs.foldl (fun s x => if x = win then s.setAge b x 0 else s.setAge b x (min 7 (s.age b x + 1))) s
  let beats := if win = 0 then 32 else max 1 (min beats 8)
  let waits := qs.any (fun x => decide (48 ≤ x) && x != win)
  let s := if waits then s.countSource (0x8150 + b) (if withdrawn then 1 else beats) else s
  if withdrawn then s.countSource (0x8140 + b) 1 else
  let s := s.countBeats b (win / 16) (win % 16) beats wait
  if win = 17 ∨ win = 18 then s.writeSpill (win - 17) beats else s

/-- Requester `q` may request bank `b` (R365): a film writer not where the bank holds film (R367), a lane spill only with
a record for this bank (R171). -/
def State.mayRequest (s : State) (b q : Nat) : Bool :=
  requester q && !(q == 16 && s.bankHoldsFilm b)
    && !((q == 17 || q == 18) && (s.spillBuf (q - 17) == [] || s.spillBank (q - 17) != b))

/-- BANK_GRANT (R366): bank `b`'s arbiter decides among the requesters `qs`, written 16·class + index. -/
def execBankGrant (b : Nat) (qs : List Nat) (withdrawn : Bool) (beats wait : Nat) (s : State) :
    Host.Outcome State Fault Refusal :=
  .next (match qs.filter (s.mayRequest b) with
    | [] => s
    | q :: rest => if b < 16 then s.grantBank b (q :: rest) (s.winner b q rest) withdrawn beats wait else s)

/-- FAULT_RECORD_WRITE (R368): the oldest record goes to the slot PERF_FR_STAT names. -/
def execFaultRecordWrite (s : State) : Host.Outcome State Fault Refusal :=
  .next (match s.memx.records with
    | [] => s
    | r :: rs =>
      let s := { s with memx := { s.memx with records := rs } }
      let (s, _) := s.writerStore (s.fld Reg.memFrCfg 0 8 * 0x10000 + 256 * s.fld Reg.perfFrStat 0 8) (wordsBytes r)
      s.countWrap Reg.perfFrStat 0 8 1)

/-! ### Accesses through a context -/

/-- Why an access to a word fails. -/
inductive WordFault where
  /-- A translation fault (R376): reason 0 unmapped, 1 write not permitted. -/
  | translation (reason : Nat)
  | unassigned
  | marked
  deriving DecidableEq, Repr

/-- Whether an access of context `ctx` to the word at `a` fails (R20, R361, R376) (log entry 17, DEDUCED). -/
def State.wordFault (s : State) (ctx a : Nat) (write : Bool) : Option WordFault :=
  match s.place ctx a with
  | .sram d w => if write && !w then some (.translation 1) else if s.pageMarked d then some .marked else none
  | .reg r => if !write && inSec r && s.secHidden ctx then some (.translation 0) else none
  | .host _ => none
  | .unmapped => some (.translation 0)
  | .unassigned => some .unassigned

/-- The first word of `n` from `a` that fails, with its address. -/
def State.rangeFault (s : State) (ctx a n : Nat) (write : Bool) : Option (Nat × WordFault) :=
  (List.range n).findSome? (fun i => (s.wordFault ctx (a + 4 * i) write).map (fun f => (a + 4 * i, f)))

/-- The word at context address `a`; a word of host memory is given by `h`. -/
def State.readWord (s : State) (ctx a : Nat) (h : Word) : Word × State :=
  match s.place ctx a with
  | .sram d _ => (bytesWord (s.rdBytes d 4), s)
  | .reg r => (s.readReg r, s.clearRc r)
  | .host _ => (h, s)
  | _ => (0, s)

/-- `n` words from context address `a`. -/
def State.readWords (s : State) (ctx a : Nat) : Nat → List Byte → List Byte × State
  | 0, _ => ([], s)
  | n + 1, h =>
    let (v, s) := s.readWord ctx a (bytesWord h)
    let (bs, s) := s.readWords ctx (a + 4) n (h.drop 4)
    (wordBytes v ++ bs, s)

/-- Bytes written into host memory at an offset of a channel's host window (R419) (log entry 91, DEDUCED). -/
def State.writeHost (s : State) (ctx offset : Nat) (bs : List Byte) : State :=
  { s with busOut := (s.sessChan ctx, offset, bs) :: s.busOut }

/-- `corrected` errors that ECC corrects in the shared SRAM among `n` words from context address `a` (R38). -/
def State.countEcc (s : State) (ctx a n corrected : Nat) : State :=
  if (List.range n).any (fun i => match s.place ctx (a + 4 * i) with | .sram _ _ => true | _ => false) then
    s.countUp Reg.memEccCorr 0 16 corrected
  else s

/-- MEM_READ's checks and reply (R6, R20, R373, R376, R441). -/
def State.runMemRead (s : State) (p : Packet) (host : List Byte) (corrected : Nat) : State :=
  let a := leAt p.payload 0 4
  let n := leAt p.payload 4 4
  if a % 4 ≠ 0 ∨ n % 4 ≠ 0 ∨ n < 4 ∨ 4088 < n then s.finish 0x0500 p .outOfRange []
  else match s.rangeFault p.session a (n / 4) false with
    | some (x, .translation r) => (s.translationFault p.session x r false).discardFlight p.session
    | some (_, .unassigned) => s.finish 0x0500 p .outOfRange []
    | some (_, .marked) => s.finish 0x0500 p .faultLasting []
    | none =>
      let (bs, s) := (s.countEcc p.session a (n / 4) corrected).readWords p.session a (n / 4) host
      s.finish 0x0500 p .ok bs

/-- MEM_READ (R373): `host` holds what host memory gives for the words of the range in order, `corrected` the errors
that ECC corrects (R38). -/
def execMemRead (p : Packet) (host : List Byte) (corrected : Nat) (s : State) : Host.Outcome State Fault Refusal :=
  .next (s.command 0x0500 p (decide (p.payload.length = 8)) (fun s => s.runMemRead p host corrected) (.host host corrected))

/-- Two ranges of addresses overlap (log entry 65, DEDUCED). -/
def overlaps (a n b m : Nat) : Bool := decide (a < b + m) && decide (b < a + n)

/-- MEM_MAP's checks and effect (R374, R419) (log entry 65, DEDUCED). -/
def State.runMap (s : State) (p : Packet) : State :=
  let va := leAt p.payload 0 4
  let da := leAt p.payload 4 4
  let n := leAt p.payload 8 4
  let flags := leAt p.payload 12 4
  let page := if flags / 2 % 2 = 1 then 0x200000 else 0x1000
  let mine := s.memx.maps.filter (fun m => m.ctx == p.session)
  if va % page ≠ 0 ∨ da % page ≠ 0 ∨ n % page ≠ 0 ∨ n = 0 ∨ 2 ^ 32 < va + n
      ∨ mine.any (fun m => overlaps va n m.vaddr m.size) ∨ overlaps va n 0x10000000 0x110000
      ∨ overlaps va n 0x80000000 (s.hostWindow p.session) then s.finish 0x0502 p .outOfRange []
  else if memSize < da + n then s.finish 0x0502 p .notPermitted []
  else if 1024 ≤ mine.length then s.finish 0x0502 p .busy []
  else
    let m : Mapping := { ctx := p.session, vaddr := va, daddr := da, size := n, write := flags % 2 == 1 }
    ({ s with memx := { s.memx with maps := s.memx.maps ++ [m] } }).finish 0x0502 p .ok []

/-- MEM_MAP (R374). -/
def execMemMap (p : Packet) (s : State) : Host.Outcome State Fault Refusal :=
  .next (s.command 0x0502 p (decide (p.payload.length = 16)) (fun s => s.runMap p))

/-- MEM_UNMAP's check and effect (R375) (log entry 17, DEDUCED). -/
def State.runUnmap (s : State) (p : Packet) : State :=
  let va := leAt p.payload 0 4
  let n := leAt p.payload 4 4
  let hit (m : Mapping) : Bool := m.ctx == p.session && overlaps va n m.vaddr m.size
  let inside (m : Mapping) : Bool := decide (va ≤ m.vaddr) && decide (m.vaddr + m.size ≤ va + n)
  let ms := s.memx.maps.filter hit
  if ms = [] ∨ ¬ ms.all inside ∨ ms.foldl (fun a m => a + m.size) 0 ≠ n then s.finish 0x0503 p .outOfRange []
  else ({ s with memx := { s.memx with maps := s.memx.maps.filter (fun m => !hit m) } }).finish 0x0503 p .ok []

/-- MEM_UNMAP (R375). -/
def execMemUnmap (p : Packet) (s : State) : Host.Outcome State Fault Refusal :=
  .next (s.command 0x0503 p (decide (p.payload.length = 8)) (fun s => s.runUnmap p))

/-! ### DMA -/

/-- The transfers of a DMA_START payload (R378). -/
def dmaXfers (bs : List Byte) : List DmaXfer :=
  (List.range (leAt bs 2 2)).map (fun i =>
    { src := leAt bs (4 + 16 * i) 4, dst := leAt bs (8 + 16 * i) 4, len := leAt bs (12 + 16 * i) 4,
      report := leAt bs (16 + 16 * i) 4 % 2 == 1 })

/-- A transfer R378 allows. -/
def DmaXfer.ok (x : DmaXfer) : Bool :=
  decide (4 ≤ x.len) && decide (x.len ≤ 16777216) && x.len % 4 == 0 && x.src % 4 == 0 && x.dst % 4 == 0

/-- The channel an opcode names, where the sending session owns it (R377). -/
def State.ownChannel (s : State) (p : Packet) : Option Nat :=
  let e := leAt p.payload 0 1
  let n := leAt p.payload 1 1
  let k := 32 * e + n
  if e < 4 ∧ n < 32 ∧ s.bit (dmaCfg k) 0 ∧ s.fld (dmaCfg k) 3 8 = p.session then some k else none

/-- DMA_START's checks in order and its effect (R378). -/
def State.runDmaStart (s : State) (p : Packet) : State :=
  match s.ownChannel p with
  | none => s.finish 0x0504 p .notPermitted []
  | some k =>
    let xs := dmaXfers p.payload
    if s.bit (Reg.memDmaFault (k / 32)) (k % 32) then s.finish 0x0504 p .faultLasting []
    else if s.dmaState k ≠ 0 then s.finish 0x0504 p .busy []
    else if xs = [] ∨ 255 < xs.length ∨ ¬ xs.all DmaXfer.ok then s.finish 0x0504 p .outOfRange []
    else
      let s := s.setDmaCh k { xfers := xs, moved := 0, index := 0, packet := some p }
      ((s.setDmaState k 1).showDma k).finish 0x0504 p .ok []

/-- DMA_START (R378): a changed channel holds it back (R435). -/
def execDmaStart (p : Packet) (s : State) : Host.Outcome State Fault Refusal :=
  .next (s.command 0x0504 p
    (decide (4 ≤ p.payload.length) && decide (p.payload.length = 4 + 16 * leAt p.payload 2 2)) (fun s => s.runDmaStart p))

/-- DMA_ABORT's check and effect (R382). -/
def State.runDmaAbort (s : State) (p : Packet) : State :=
  match s.ownChannel p with
  | none => s.finish 0x0505 p .notPermitted []
  | some k =>
    let s := if s.dmaState k = 1 ∨ s.dmaState k = 2 then s.discardChain k 0 else s
    s.finish 0x0505 p .ok []

/-- DMA_ABORT (R382): a burst being one command of the model, the next burst boundary is now. -/
def execDmaAbort (p : Packet) (s : State) : Host.Outcome State Fault Refusal :=
  .next (s.command 0x0505 p (decide (p.payload.length = 4)) (fun s => s.runDmaAbort p))

/-- What DMA_STATUS does (R373) (log entry 54, DEDUCED). -/
def State.runDmaStatus (s : State) (p : Packet) : State :=
  let e := leAt p.payload 0 1
  let n := leAt p.payload 1 1
  if 4 ≤ e ∨ 32 ≤ n then s.finish 0x0506 p .outOfRange []
  else
    let k := 32 * e + n
    (s.clearRc (dmaDone k)).finish 0x0506 p .ok (wordsBytes [s.rd (dmaStat k), s.rd (dmaDone k)])

/-- DMA_STATUS (R373). -/
def execDmaStatus (p : Packet) (s : State) : Host.Outcome State Fault Refusal :=
  .next (s.command 0x0506 p (decide (p.payload.length = 4)) (fun s => s.runDmaStatus p))

/-- The retry of a burst of channel `k` is under way. -/
def State.dmaRetries (s : State) (k : Nat) : Bool := s.memx.retries.any (fun r => r.dma && r.channel == k && r.burst.isSome)

/-- The channels of engine `e` with work. -/
def State.dmaReady (s : State) (e : Nat) : List Nat :=
  ((List.range 32).map (32 * e + ·)).filter (fun k => (s.dmaState k == 1 || s.dmaState k == 2) && !s.dmaRetries k)

def State.dmaPrio (s : State) (k : Nat) : Nat := s.fld (dmaCfg k) 1 2

/-- The channel whose burst is next in engine `e` (R379): the lowest priority number, then in turn after the channel
whose burst was last. -/
def State.dmaNext (s : State) (e : Nat) : Option Nat :=
  let ks := s.dmaReady e
  match (ks.map s.dmaPrio).min? with
  | none => none
  | some m =>
    let best := ks.filter (fun k => s.dmaPrio k == m)
    match best.find? (fun k => decide (sparseGet (fun _ => 0) s.memx.turns e ≤ k)) with
    | some k => some k
    | none => best.head?

/-- Channel `k` takes its engine; the channel it pre-empts reports PREEMPTED (R379). -/
def State.takeEngine (s : State) (k : Nat) : State :=
  let e := k / 32
  let last := sparseGet (fun _ => 0) s.memx.turns e
  let s := if 0 < last ∧ last - 1 ≠ k ∧ s.dmaState (last - 1) = 1 ∧ s.dmaPrio k < s.dmaPrio (last - 1) then
      (s.setDmaState (last - 1) 2).countSource (0x8224 + e) 1
    else s
  let s := { s with memx := { s.memx with turns := sparseSet (fun _ => 0) s.memx.turns e (k + 1) } }
  (s.setDmaState k 1).countSource (0x8220 + e) 1

/-- Words stored from context address `a` on; a DMA write to a register has no effect (log entry 54, DEDUCED). -/
def State.storeWords (s : State) (ctx a : Nat) : List Word → State
  | [] => s
  | v :: vs =>
    let s := match s.place ctx a with
      | .sram d _ => s.wrBytes d (wordBytes v)
      | .host o => s.writeHost ctx o (wordBytes v)
      | _ => s
    s.storeWords ctx (a + 4) vs

/-- The first transfer of channel `k` is complete (R380). -/
def State.endTransferDma (s : State) (k : Nat) (x : DmaXfer) : State :=
  let v := s.dmaCh k
  let s := s.countUp (dmaDone k) 0 16 1
  let s := if x.report then s.report k v.index .ok else s
  let rest := v.xfers.drop 1
  if rest = [] then ((s.setDmaCh k DmaCh.idle).showDma k).setDmaState k 0
  else (s.setDmaCh k { v with xfers := rest, moved := 0, index := v.index + 1 }).showDma k

/-- A burst of `n` bytes of transfer `x` moves (R379). -/
def State.moveBurst (s : State) (k n : Nat) (x : DmaXfer) (host : List Byte) : State :=
  let ctx := s.dmaCtx k
  let v := s.dmaCh k
  let (bs, s) := s.readWords ctx (x.src + v.moved) (n / 4) host
  let s := s.storeWords ctx (x.dst + v.moved) (bytesWords (n / 4) bs)
  if v.moved + n = x.len then s.endTransferDma k x
  else (s.setDmaCh k { v with moved := v.moved + n }).showDma k

/-- Channel `k` moves one burst of its transfer `x`; `host` holds what host memory gives. `err`: 1 the source reads an
uncorrectable error, 2 the burst ends with an error response; either is retried (R379, R381). -/
def State.burst (s : State) (k : Nat) (x : DmaXfer) (err : Nat) (host : List Byte) : State :=
  let s := s.takeEngine k
  let v := s.dmaCh k
  let ctx := s.dmaCtx k
  let src := x.src + v.moved
  let dst := x.dst + v.moved
  let n := min (x.len - v.moved) (64 - src % 64)
  let fault : Option (Nat × Bool × WordFault) :=
    match s.rangeFault ctx src (n / 4) false with
    | some (a, f) => some (a, false, f)
    | none => (s.rangeFault ctx dst (n / 4) true).map (fun f => (f.1, true, f.2))
  match fault with
  | some (_, _, .marked) => s.faultChannel k
  | some (a, w, .translation r) => (s.translationFault ctx a r w).discardChain k 0
  | some (a, w, .unassigned) => (s.translationFault ctx a 0 w).discardChain k 0
  | none =>
    if err = 0 then s.moveBurst k n x host
    else
      let addr := match s.place ctx src with
        | .sram d _ => d
        | _ => src
      let at_ := if err = 2 then (match s.place ctx dst with | .host _ => dst | _ => src) else addr
      let marks : Bool := err == 1 && (match s.place ctx src with | .sram _ _ => true | _ => false)
      let r : Retry := { region := 0, addr := at_, ctx := ctx, dma := true, channel := k, marks := marks,
                         burst := some { xfer := x, moved := v.moved, host := host } }
      { s with memx := { s.memx with retries := s.memx.retries ++ [r] } }

/-- The burst that a retry carried out moves its data, as if the first attempt had succeeded (R32). -/
def State.resumeBurst (s : State) (r : Retry) : State :=
  match r.burst, (s.dmaCh r.channel).xfers with
  | some b, x :: _ =>
    if x = b.xfer ∧ (s.dmaCh r.channel).moved = b.moved then
      s.moveBurst r.channel (min (x.len - b.moved) (64 - (x.src + b.moved) % 64)) x b.host
    else s
  | _, _ => s

/-- The retry `r` ends (R32, R33): a transient, after which its work continues, or a lasting fault that lands on its resource. The outcome classifies the fault of a
lane that has diagnosed itself (R212). -/
def State.endRetry (s : State) (r : Retry) (ok : Bool) : State :=
  let s := (s.wr Reg.memFaultAddr (word r.addr)).wr Reg.memFaultInfo (r.info (!ok))
  let s := if r.region = 2 ∧ r.channel < 2 then
      (if s.fld (Reg.laneRedDiag r.channel) 0 4 = 2 then s.setBit (Reg.laneRedDiag r.channel) 14 (!ok) else s)
    else s
  if ok then
    let s := s.countUp Reg.memFaults 0 16 1
    let s := if r.region = 3 then s.countUp Reg.safeDiag 16 16 1 else s
    (s.raiseTransient 0x0B (word r.addr) (r.info false)).resumeBurst r
  else
    let s := s.countUp Reg.memFaults 16 16 1
    let s := s.raiseLasting 0x0B (word r.addr) (r.info true)
    (s.land r).showMarked

/-- RETRY_RESULT (R32, R33): the oldest retry ends (log entry 8, DESIGN CHOICE). -/
def execRetryResult (ok : Bool) (s : State) : Host.Outcome State Fault Refusal :=
  .next (match s.memx.retries with
    | [] => s
    | r :: rs => State.endRetry { s with memx := { s.memx with retries := rs } } r ok)

/-- `corrected` errors that ECC corrects in the shared SRAM of the next burst of channel `k` (R38). -/
def State.countBurst (s : State) (k : Nat) (x : DmaXfer) (corrected : Nat) : State :=
  let at_ := (s.dmaCh k).moved
  let n := min (x.len - at_) (64 - (x.src + at_) % 64) / 4
  let sram (a : Nat) : Bool := (List.range n).any (fun i =>
    match s.place (s.dmaCtx k) (a + at_ + 4 * i) with | .sram _ _ => true | _ => false)
  if sram x.src || sram x.dst then s.countUp Reg.memEccCorr 0 16 corrected else s

/-- DMA_BURST (R379): engine `e` moves one burst of the channel whose turn it is; ECC corrects `corrected` errors of
shared SRAM in it (R38). -/
def execDmaBurst (e err : Nat) (host : List Byte) (corrected : Nat) (s : State) : Host.Outcome State Fault Refusal :=
  .next (if 4 ≤ e then s else match s.dmaNext e with
    | none => s
    | some k =>
      match (s.dmaCh k).xfers with
      | [] => s
      | x :: _ => (s.countBurst k x corrected).burst k x err host)

/-- Writing `v` to MEM_DMAe_FAULT: the marks are cleared and the channels return to IDLE (R381). -/
def State.clearChannels (s : State) (e : Nat) (v : Word) : State :=
  (List.range 32).foldl (fun s n =>
    if field v n 1 = 1 ∧ s.bit (Reg.memDmaFault e) n then
      (s.setBit (Reg.memDmaFault e) n false).setDmaState (32 * e + n) 0
    else s) s

/-! ### Rings -/

/-- DESCRIPTOR_ALLOCATION (R387): the allocator serves or refuses the request of ring `r` for a unit. -/
def execDescriptorAllocation (r n : Nat) (bytes : List Byte) (s : State) : Host.Outcome State Fault Refusal :=
  .next (if 16 ≤ r ∧ r < 64 ∧ ¬ (32 ≤ r ∧ r < 40) ∧ s.ringEnabled r ∧ 1 ≤ n ∧ bytes.length ≤ 56 * n then s.offer r n bytes
    else s)

/-- Words 0 to 15 of the `i`-th descriptor of a unit in ring `r`, its data inline (R384) (log entry 121, DEDUCED). -/
def RingUnit.descriptor (u : RingUnit) (r i : Nat) : List Word :=
  let part := (u.bytes.drop (56 * i)).take 56
  [word (part.length + r % 64 * 2 ^ 16 + bitNat (decide (i + 1 < u.descs)) * 2 ^ 23), word ((u.seq + i) % 2 ^ 16)]
    ++ bytesWords 14 (part ++ List.replicate (56 - part.length) 0)

/-- The descriptors of ring `r` as its consumer reads them, oldest first (R383, R384). -/
def State.descriptors (s : State) (r : Nat) : List (List Word) :=
  (s.ring r).units.flatMap (fun u => (List.range u.descs).map (u.descriptor r))

/-- `n` descriptors returned from the head of a queue. -/
def retireDescs : Nat → List RingUnit → List RingUnit
  | _, [] => []
  | n, u :: us =>
    if u.descs ≤ n then retireDescs (n - u.descs) us
    else { descs := u.descs - n, seq := (u.seq + n) % 2 ^ 16, bytes := u.bytes.drop (56 * n) } :: us

/-- RING_HEAD_ADVANCE (R383): the consumer returns `n` descriptors of ring `r`, which go back to the pool at once. The
transports advance rings 0 to 15 themselves. -/
def execRingHeadAdvance (r n : Nat) (s : State) : Host.Outcome State Fault Refusal :=
  .next (if 16 ≤ r ∧ r < 64 ∧ n ≤ s.ringFill r then
    (s.setRing r { s.ring r with units := retireDescs n (s.ring r).units }).setFill r (s.ringFill r - n)
  else s)

/-- A MEM register takes its fixed value (R390). -/
def State.applyMem (s : State) (a : Nat) (v : Word) : State :=
  if 0x100A0400 ≤ a ∧ a < 0x100A0800 then
    let r := (a - 0x100A0400) / 0x10
    let old := s.fld a 4 13
    let s := s.wr a v
    let s := s.put Reg.memPool 0 13 (s.sharedFree + old - field v 4 13)
    s.setFill r (s.ringFill r)
  else if a = Reg.memFrCfg then s.wr a v
  else s.wr a v

end Sys2Proof.Machine
end

