-- ==== Sys2Proof/Machine/Net.lean ====
section
/-! DEFINITION. Time (R450 to R463), Ethernet (R444 to R449) and CAN (R464 to R469). -/

namespace Sys2Proof.Machine

def State.setNet (s : State) (n : NetSt) : State := { s with net := n }

/-! ### The time counter -/

/-- The counter and the linear nanosecond count take a value (R450, R451). -/
def State.setTime (s : State) (t : Nat) : State :=
  let ns := t / 2 ^ 32
  let sec := ns / 1000000000 % 2 ^ 48
  let lin := ns % 2 ^ 48
  let s := s.setNet { s.net with fracLow := t % 2 ^ 16 }
  let s := (s.wr Reg.netTcSecLo (word sec)).wr Reg.netTcSecHi (word (sec / 2 ^ 32))
  let s := (s.wr Reg.netTcNs (word (ns % 1000000000))).wr Reg.netTcFrac (word (t / 2 ^ 16 % 2 ^ 16))
  (s.wr Reg.netTcLinLo (word lin)).wr Reg.netTcLinHi (word (lin / 2 ^ 32))

/-- The counter advances by `n` CLK_PER ticks, slewing by 2^-10 ns in each while something is left to slew (R450,
R454) (log entry 122, DESIGN CHOICE). -/
def State.advanceTime (s : State) (n : Nat) : State :=
  let most : Int := n * 2 ^ 22
  let part := clampInt (-most) most s.net.slew
  let t : Int := (s.timeTotal + n * s.timeInc : Nat) + part
  (s.setTime t.toNat).setNet { (s.setTime t.toNat).net with slew := s.net.slew - part, moved := false }

/-- The counter is moved to a time, not by its ticks. -/
def State.moveTime (s : State) (t : Nat) : State := (s.setTime t).setNet { (s.setTime t).net with moved := true }

/-- The counter is stepped by `ns`, with TIME_STEP and the linear counts before and after (R454, R455). -/
def State.stepTime (s : State) (ns : Int) : State :=
  let before := s.linearNs
  let wrap : Int := (2 ^ 48 * 1000000000 * 2 ^ 32 : Nat)
  let t : Int := ((s.timeTotal : Int) + ns * 2 ^ 32) % wrap
  let s := s.moveTime t.toNat
  s.raise 0x0E03 [word before, word (before / 2 ^ 32), word s.linearNs, word (s.linearNs / 2 ^ 32)]

/-- The counter slews by `ns` (R454, R455). -/
def State.slewTime (s : State) (ns : Int) : State := s.setNet { s.net with slew := ns * 2 ^ 32 }

def State.timeState (s : State) : Nat := s.fld Reg.netStatus 0 2
def State.timeSource (s : State) : Nat := s.fld Reg.netStatus 2 2

/-- The source is PTP on one of the ports. -/
def State.ptpSource (s : State) : Bool := s.timeSource == 1 || s.timeSource == 2

/-- The host sets the time: no source, or the fabric on its surveyor (R455, R499). -/
def State.hostSetsTime (s : State) : Bool := s.timeSource == 0 || (s.timeSource == 3 && s.isSurveyor)

/-- Whether the transparent clock runs (R462). -/
def State.tcWanted (s : State) : Bool :=
  s.bit Reg.netTimeCfg 3 && s.bit Reg.netTimeCfg 5
    && (!s.net.seenStandby || s.bit Reg.netTimeCfg 4 || decide (s.timeState ≠ 1))

/-- The bridge, and the mode of the transparent clock with TC_MODE_CHANGE (R446, R462, R463). -/
def State.tcUpdate (s : State) : State :=
  let past : Bool := s.mode ≠ .off ∧ s.mode ≠ .safelight ∧ s.mode ≠ .lockout
  let s := if past then s.setNet { s.net with seenStandby := true } else s
  let s := s.setBit Reg.netStatus 5 (s.bit Reg.netTimeCfg 5)
  let on := s.tcWanted
  if on = s.bit Reg.netStatus 4 then s else (s.setBit Reg.netStatus 4 on).raise 0x0E05 []

/-- The increment held to 4.5 to 5.5 ns. -/
def clampInc (ns frac : Nat) : Nat :=
  max (4 * 2 ^ 32 + 2 ^ 31) (min (5 * 2 ^ 32 + 2 ^ 31) (ns * 2 ^ 32 + frac))

/-- A synchronisation finds that the counter must move by `offset` ns (R454); the servo chooses the increment (log entry
67, DEDUCED). -/
def State.syncTime (s : State) (offset : Int) (incNs incFrac : Nat) : State :=
  let inc := clampInc incNs incFrac
  let s := (s.wr Reg.netTcIncNs (word (inc / 2 ^ 32))).wr Reg.netTcIncFrac (word inc)
  let s := s.wr Reg.netPtpOfs (word (codeOf 32 (clampInt (-(2 ^ 31)) (2 ^ 31 - 1) offset)))
  let size := offset.natAbs
  let s := s.setNet
    { s.net with good := if size ≤ 10 * s.fld Reg.netTimeCfg 8 8 then s.net.good + 1 else 0 }
  if s.fld Reg.netPtpCfg 17 15 * 1000 < size then s.stepTime offset else s.slewTime offset

/-- A Sync of the source in use (R461). -/
def State.hearSync (s : State) : State := s.setNet { s.net with syncTick := s.tick }

/-- PTP_SYNC (R454): a synchronisation to a PTP master, whose messages give the port state and the UTC offset. -/
def execPtpSync (offset : Int) (incNs incFrac portState utc : Nat) (s : State) : Host.Outcome State Fault Refusal :=
  .next (if s.ptpSource then
      ((s.hearSync.put Reg.netPtpStat 0 4 portState).put Reg.netPtpStat 16 16 utc).syncTime offset incNs incFrac
    else s)

/-- TIME_LOCKED (R452): 16 consecutive synchronisations within lock_thr. -/
def execTimeLocked (s : State) : Host.Outcome State Fault Refusal :=
  .next (if s.timeState ≠ 1 ∧ 16 ≤ s.net.good ∧ s.timeSource ≠ 0 then
    ((s.put Reg.netStatus 0 2 1).raise 0x0E00 []).tcUpdate
  else s)

/-- The time source is lost (R452, R460, R461); with failover the other port is used. -/
def State.loseTime (s : State) : State :=
  if s.timeSource = 0 then s
  else
    let locked : Bool := s.timeState = 1
    let src := s.timeSource
    let s := s.setNet { s.net with good := 0, holdTick := if locked then s.tick else s.net.holdTick,
                                   syncTick := s.tick, announced := none }
    let s := if s.bit Reg.netTimeCfg 2 ∧ src ≠ 3 then s.put Reg.netStatus 2 2 (3 - src) else s
    if locked then ((s.put Reg.netStatus 0 2 2).raise 0x0E01 []).tcUpdate else s

/-- No Announce of the selected master for ann_timeout announce intervals, or no Sync for as many intervals of
2^log_sync s, counted in module ticks (R461) (log entry 124, DEDUCED). -/
def State.sourceSilent (s : State) : Bool :=
  let n := s.fld Reg.netPtpCfg 8 4
  s.ptpSource &&
    ((match s.net.announced with | some (t, ms) => decide (0 < ms) && decide (t + n * ms ≤ s.tick) | none => false)
      || decide (n * 1000 ≤ (s.tick - s.net.syncTick) * 2 ^ ((16 - s.fld Reg.netPtpCfg 12 4) % 16)))

/-- TIME_SOURCE_LOST (R452, R461); the loss of the fabric's time comes with CYCLE_LOST (R500). -/
def execTimeSourceLost (s : State) : Host.Outcome State Fault Refusal := .next (if s.sourceSilent then s.loseTime else s)

/-- TIME_FREE (R452): holdover has passed. -/
def execTimeFree (s : State) : Host.Outcome State Fault Refusal :=
  .next (if s.timeState = 2 ∧ s.net.holdTick + s.fld Reg.netTimeCfg 16 12 * 1000 ≤ s.tick then
    ((s.put Reg.netStatus 0 2 0).raise 0x0E02 []).tcUpdate
  else s)

/-- Why a write of NET_TC_ADJ or NET_TC_SETSEC is refused (R455). -/
def State.timeWriteCheck (s : State) (p : Packet) : Option Status :=
  match s.leaseCheck 8 0 p with
  | some st => some st
  | none => if s.hostSetsTime then none else some .notPermitted

/-- The effect of a write to NET_TC_ADJ (R455). -/
def State.adjustTime (s : State) (v : Word) : State :=
  let ns : Int := if field v 30 1 = 1 then -(field v 0 30 : Int) else field v 0 30
  if field v 31 1 = 1 then s.stepTime ns else s.slewTime ns

/-- The effect of a write to NET_TC_SETSEC (R455) (log entry 97, DEDUCED). -/
def State.setSeconds (s : State) (v : Word) : State := s.moveTime (v.toNat * (1000000000 * 2 ^ 32))

/-! ### Comparators -/

/-- The target of comparator `k`. -/
def State.cmpTarget (s : State) (k : Nat) : Nat :=
  (s.rd (Reg.netCmpTgtLo k)).toNat + s.fld (Reg.netCmpTgtHi k) 0 16 * 2 ^ 32

/-- d of R457. -/
def State.cmpDistance (s : State) (k dt : Nat) : Int := signedOf 48 (s.linearAt dt + 2 ^ 48 - s.cmpTarget k)

/-- Comparator `k` fires (R457, R458); the contact sheet's comparator asks for one (R568). -/
def State.fireCmp (s : State) (k dt : Nat) : State :=
  let count := s.linearAt dt
  let d := (s.cmpDistance k dt).toNat
  let s := (s.setBit Reg.netCmpLatch k true).raise 0x0E04 [word k, word count, word (count / 2 ^ 32)]
  let s : State :=
    if s.bit Reg.perfCsCfg 0 ∧ s.fld Reg.perfCsCfg 1 4 = k then { s with perf := { s.perf with sheet := true } } else s
  if s.bit (Reg.netCmpCfg k) 1 then
    let per := max 1 (s.rd (Reg.netCmpPer k)).toNat
    let n := d / per + 1
    let t := (s.cmpTarget k + n * per) % 2 ^ 48
    let s := (s.wr (Reg.netCmpTgtLo k) (word t)).wr (Reg.netCmpTgtHi k) (word (t / 2 ^ 32))
    s.countUp (Reg.netCmpCfg k) 8 16 (n - 1)
  else s.setBit (Reg.netCmpCfg k) 0 false

/-- Comparator `k` fires `dt` CLK_PER ticks after the latest module tick: the first tick at which its target is reached,
where the counter has not been moved since (R457, R459). -/
def State.cmpDue (s : State) (k dt : Nat) : Bool :=
  decide (k < 16) && s.bit (Reg.netCmpCfg k) 0 && decide (0 ≤ s.cmpDistance k dt)
    && (dt == 0 || s.net.moved || decide (s.cmpDistance k (dt - 1) < 0))

/-- TIME_MATCH (R457): `dt` CLK_PER ticks after the latest module tick. -/
def execTimeMatch (k dt : Nat) (s : State) : Host.Outcome State Fault Refusal :=
  .next (if s.cmpDue k dt then s.fireCmp k dt else s)

/-! ### Ethernet -/

/-- The internal corrections of R449 in ns: transmit and receive, by interface mode. -/
def ethCorrection : Nat → Nat × Nat
  | 1 => (12, 20) | 2 => (18, 26) | 3 => (6, 10) | 4 => (42, 58) | 5 => (36, 50) | _ => (0, 0)

/-- The transmit timestamp of port `p` in 2^-32 ns (R449). -/
def State.txStamp (s : State) (p dt : Nat) : Nat :=
  s.timeAt dt + ((ethCorrection (s.fld (Reg.netEthCfg p) 0 3)).1 + s.fld (Reg.netEthLat p) 0 12) * 2 ^ 32

/-- The receive timestamp of port `p` in 2^-32 ns (R449). -/
def State.rxStamp (s : State) (p dt : Nat) : Nat :=
  s.timeAt dt + (ethCorrection (s.fld (Reg.netEthCfg p) 0 3)).2 * 2 ^ 32 - s.fld (Reg.netEthLat p) 16 12 * 2 ^ 32

/-- The three words of a timestamp: nanoseconds, seconds, and the rest of the seconds with the fraction (R448). -/
def stampWords (t : Nat) : List Word :=
  let sec := t / 2 ^ 32 / 1000000000
  [word (t / 2 ^ 32 % 1000000000), word sec, word (sec / 2 ^ 32 % 2 ^ 16 + t / 2 ^ 16 % 2 ^ 16 * 2 ^ 16)]

/-- The words of the timestamp of a CAN frame that has never been on the bus: R448 writes one back and no rule gives it
(log entry 5, DESIGN CHOICE). -/
def State.freeStamp (s : State) : List Word × State :=
  let (a, s) := s.freshWord
  let (b, s) := s.freshWord
  let (c, s) := s.freshWord
  ([a, b, c], s)

/-- The port's own MAC address in the order of a frame (R445). -/
def State.ownMac (s : State) (p : Nat) : List Byte :=
  ((wordBytes (s.rd (Reg.netEthMacHi p))).take 2).reverse ++ (wordBytes (s.rd (Reg.netEthMacLo p))).reverse

/-- The frame's destination is the port's own MAC address (R446). -/
def State.forPort (s : State) (p : Nat) (f : EthFrame) : Bool := f.bytes.take 6 == s.ownMac p

/-- A frame that a port accepts: 64 to 1,522 bytes with a good FCS (R444) (log entry 124, DEDUCED). -/
def ethGood (f : EthFrame) : Bool := f.fcs && decide (64 ≤ f.bytes.length) && decide (f.bytes.length ≤ 1522)

/-- A frame dropped on port `p` is counted (R445, R446). -/
def State.dropEth (s : State) (p : Nat) : State := s.countUp (Reg.netEthErr p) 16 16 1

/-- Frames waiting in the bridge to leave port `p`. -/
def State.bridgeQ (s : State) (p : Nat) : List BridgeFrame := sparseGet (fun _ => []) s.net.bridge p
def State.setBridgeQ (s : State) (p : Nat) (l : List BridgeFrame) : State :=
  s.setNet { s.net with bridge := sparseSet (fun _ => []) s.net.bridge p l }

/-- A frame received on port `p` is forwarded to the other port (R446). -/
def State.forward (s : State) (p : Nat) (f : EthFrame) (dt : Nat) : State :=
  let q := s.bridgeQ (1 - p)
  if q.length < 32 then
    s.setBridgeQ (1 - p) (q ++ [({ kind := f.kind, key := f.key, rx := s.rxStamp p dt, tc := s.bit Reg.netStatus 4,
                                    bytes := f.bytes } : BridgeFrame)])
  else s.dropEth p

/-- The frame is given to firmware through ring 58 (R447). -/
def State.toFirmware (s : State) (f : EthFrame) : State :=
  if s.ringEnabled 58 then s.offer 58 (inlineDescs f.bytes.length) f.bytes else s

/-- A Sync, or an Announce of the selected master, on port `p` where that is the source in use (R461). -/
def State.hearSource (s : State) (p : Nat) (k : EthKind) : State :=
  if p + 1 ≠ s.timeSource then s
  else match k with
    | .sync _ => s.hearSync
    | .announce ms => s.setNet { s.net with announced := some (s.tick, ms) }
    | _ => s

/-- A PTP message on port `p` (R445, R446, R460, R462). -/
def State.takePtp (s : State) (p : Nat) (f : EthFrame) (dt : Nat) : State :=
  let s := if s.bit (Reg.netEthCfg p) 20 then (s.hearSource p f.kind).toFirmware f
    else if s.forPort p f then s.dropEth p else s
  if s.bit Reg.netStatus 4 then s.forward p f dt else s

/-- A fragment of an SCP datagram (R420): at most 4 reassemblies in progress per port. -/
def State.takeFragment (s : State) (p key : Nat) (last : Bool) : State :=
  let mine := s.net.reasm.filter (fun r => r.1 == p)
  if mine.any (fun r => r.2.1 == key) then
    (if last then s.setNet { s.net with reasm := s.net.reasm.filter (fun r => !(r.1 == p && r.2.1 == key)) } else s)
  else if mine.length < 4 then s.setNet { s.net with reasm := s.net.reasm ++ [(p, key, s.tick)] }
  else s.dropEth p

/-- A good frame arrives: PTP messages go to the time counter, a frame for the other port is forwarded, and one of this
port's own goes where its kind says (R420, R445, R446). -/
def State.takeEth (s : State) (p : Nat) (f : EthFrame) (dt : Nat) : State :=
  let s := s.countUp (Reg.netEthRxcnt p) 0 32 1
  let ip : Bool := s.rd (Reg.netEthIp p) ≠ 0
  match f.kind with
  | .sync _ | .followUp | .delayReq | .announce _ | .ptp => s.takePtp p f dt
  | .scp | .fragment _ | .arpIcmp | .other =>
    let own := s.forPort p f
    let s := if ¬ own ∧ s.bit Reg.netStatus 5 then s.forward p f dt else s
    if ¬ own then (if f.kind = .arpIcmp ∧ ip then s.toFirmware f else s)
    else if ¬ ip then s.dropEth p
    else match f.kind with
      | .fragment last => s.takeFragment p f.key last
      | .arpIcmp => s.toFirmware f
      | .other => s.dropEth p
      | _ => s

/-- ETH_FRAME_RECEIVED (R445, R446): on port `p`, `dt` CLK_PER ticks after the latest module tick. -/
def execEthFrameReceived (p : Nat) (f : EthFrame) (dt : Nat) (s : State) : Host.Outcome State Fault Refusal :=
  .next (if 2 ≤ p ∨ s.fld (Reg.netEthCfg p) 0 3 = 0 ∨ ¬ s.bit (Reg.netEthStat p) 0 then s
    else if ¬ ethGood f then s.countUp (Reg.netEthErr p) 0 16 1
    else s.takeEth p f dt)

/-- A completion with the words of its timestamp is delivered to the producer of ring `r` (R448). -/
def State.complete (s : State) (r status : Nat) (stamp : List Word) : State :=
  match (s.ring r).units with
  | [] => s
  | u :: _ =>
    let c : Completion := { ring := r, seq := u.seq, status := status, stamp := stamp }
    (s.setNet { s.net with done := c :: s.net.done }).popUnit r

/-- The correction that a bridged frame takes as it leaves (R462, R463). -/
def State.residence (s : State) (f : BridgeFrame) (tx : Nat) : Nat × State :=
  let stay := (tx - f.rx) / 2 ^ 32
  if ¬ f.tc then (0, s)
  else match f.kind with
    | .sync false | .delayReq => (stay, s.countUp Reg.netTcCount 0 16 1)
    | .sync true =>
      (0, if s.net.held.length < 16 then s.setNet { s.net with held := s.net.held ++ [(f.key, stay)] } else s)
    | .followUp =>
      match s.net.held.find? (fun h => h.1 == f.key) with
      | some h =>
        (h.2, (s.setNet { s.net with held := s.net.held.filter (fun g => g.1 != f.key) }).countUp Reg.netTcCount 0 16 1)
      | none => (0, s.countUp Reg.netTcCount 16 16 1)
    | _ => (0, s)

/-- ETH_FRAME_SENT (R448): a frame has left port `p`: for `what` 0 one of the oldest reply of its channel, the last one
where `last`; for 1 the oldest unit of its transmit ring; for 2 the oldest bridged frame. -/
def State.frameSent (s : State) (p what dt : Nat) (tsReq last : Bool) : State :=
  let s := s.countUp (Reg.netEthTxcnt p) 0 32 1
  match what with
  | 0 => if last then s.sendReply (5 + p) else s
  | 1 => s.complete (56 + p) 0 (if tsReq then stampWords (s.txStamp p dt) else [])
  | _ =>
    match s.bridgeQ p with
    | [] => s
    | f :: fs =>
      let (c, s) := s.residence f (s.txStamp p dt)
      let s := s.setBridgeQ p fs
      s.setNet { s.net with out := ({ port := p, corr := c, bytes := f.bytes } : NetOut) :: s.net.out }

/-- Whether port `p` has such a frame to send. -/
def State.hasFrame (s : State) (p what : Nat) : Bool :=
  decide (p < 2) && decide (s.fld (Reg.netEthCfg p) 0 3 ≠ 0) && s.bit (Reg.netEthStat p) 0 &&
    (match what with
     | 0 => decide (s.waitingReplies (5 + p) ≠ [])
     | 1 => decide ((s.ring (56 + p)).units ≠ [])
     | _ => decide (s.bridgeQ p ≠ []))

/-- What an ETHp pad does: held as an input with its pull-down, driven by the port, read by it, or both in turn. -/
inductive EthUse where
  | held
  | drives
  | takes
  | both
  deriving DecidableEq, Repr

/-- The use of pad `n` of a port, numbered in the ball order of R579, in an interface mode as NET_ETHp_CFG codes it. -/
def ethUse (mode n : Nat) : EthUse :=
  let when (modes : List Nat) (u : EthUse) : EthUse := if modes.contains mode then u else .held
  if n < 2 then when [1, 2, 3] .drives
  else if n < 4 then when [1, 3] .drives
  else if n < 5 then when [1, 2, 3] .drives
  else if n < 6 then (if mode = 3 then .drives else when [1, 2] .takes)
  else if n < 8 then when [1, 2, 3] .takes
  else if n < 10 then when [1, 3] .takes
  else if n < 11 then when [1, 3] .takes
  else if n < 12 then when [1, 2] .takes
  else if n < 13 then when [1, 3] .takes
  else if n < 14 then when [1, 2] .takes
  else if n < 15 then when [1] .takes
  else if n < 16 then when [1, 2, 3, 4, 5] .drives
  else if n < 17 then when [1, 2, 3, 4, 5] .both
  else if n < 19 then when [4, 5] .drives
  else if n < 21 then when [4, 5] .takes
  else .held

/-- What pad `n` of port `p` does in the mode in force (R579). -/
def State.ethPad (s : State) (p n : Nat) : EthUse := ethUse (s.fld (Reg.netEthCfg p) 0 3) n

/-- The speeds of an interface mode, coded as in NET_ETHp_CFG (R444). -/
def ethSpeeds (mode : Nat) : List Nat :=
  if mode = 1 ∨ mode = 2 then [0, 1] else if mode = 3 ∨ mode = 4 then [0, 1, 2] else if mode = 5 then [3] else []

/-- ETH_LINK_UP (R443): with the speed as coded in NET_ETHp_CFG, one of the mode's (R444). Firmware reads the link state
from the PHY over MDIO, which a port that is off does not serve (R579). -/
def execEthLinkUp (p speed : Nat) (s : State) : Host.Outcome State Fault Refusal :=
  .next (if 2 ≤ p ∨ ¬ s.ethClock ∨ s.ethPad p 16 ≠ .both ∨ ¬ (ethSpeeds (s.fld (Reg.netEthCfg p) 0 3)).contains speed then s
    else
      let s := ((s.setBit (Reg.netEthStat p) 0 true).put (Reg.netEthStat p) 1 2 speed).setBit (Reg.netEthStat p) 3
        (s.bit (Reg.netEthCfg p) 5)
      (s.setBit Reg.netStatus (6 + p) true).setBit Reg.hostStatus (5 + p) true)

/-- Port `p`'s link goes down, and its wait of 1 s starts (R420). -/
def State.ethDown (s : State) (p : Nat) : State :=
  if p < 2 ∧ s.bit (Reg.netEthStat p) 0 then
    let s := (s.setBit (Reg.netEthStat p) 0 false).setBit (Reg.netEthStat p) 3 false
    let s := (s.setBit Reg.netStatus (6 + p) false).setBit Reg.hostStatus (5 + p) false
    s.setNet { s.net with downTick := sparseSet (fun _ => 0) s.net.downTick p s.tick }
  else s

/-- ETH_LINK_DOWN (R420). -/
def execEthLinkDown (p : Nat) (s : State) : Host.Outcome State Fault Refusal := .next (s.ethDown p)

/-! ### CAN -/

def State.canSt (s : State) (n : Nat) : CanSt := sparseGet (fun _ => CanSt.idle) s.net.can n
def State.setCanSt (s : State) (n : Nat) (v : CanSt) : State :=
  s.setNet { s.net with can := sparseSet (fun _ => CanSt.idle) s.net.can n v }

def State.canFormat (s : State) (n : Nat) : Nat := s.fld (Reg.netCanCfg n) 0 2
def State.canState (s : State) (n : Nat) : Nat := s.fld (Reg.netCanStat n) 0 2

/-- The format of a frame by its flags: 1 classical, 2 FD, 3 XL. -/
def canClass (flags : Nat) : Nat := if flags / 8 % 2 = 1 then 3 else if flags % 2 = 1 then 2 else 1

/-- Lengths that a format has (R464). -/
def canLength (class_ n : Nat) : Bool :=
  match class_ with
  | 1 => decide (n ≤ 8)
  | 2 => decide (n ≤ 8) || [12, 16, 20, 24, 32, 48, 64].contains n
  | _ => decide (1 ≤ n) && decide (n ≤ 2048)

/-- The error counters of controller `n` after a frame, with CAN_ERROR_PASSIVE as it becomes error-passive (R467). -/
def State.canErrors (s : State) (n errors tec rec' : Nat) : State :=
  let was := s.bit Reg.netStatus (12 + n)
  let passive := decide (127 < tec) || decide (127 < rec')
  let s := (s.put (Reg.netCanStat n) 2 8 tec).put (Reg.netCanStat n) 10 8 (min 255 rec')
  let s := s.countUp (Reg.netCanErr n) 0 16 errors
  let s := (s.put (Reg.netCanStat n) 0 2 (bitNat passive)).setBit Reg.netStatus (12 + n) passive
  if passive && !was then s.raise 0x0E06 [] else s

/-- The bytes of words 2 on of a CAN unit (R469). -/
def State.canBytes (s : State) (n : Nat) (f : CanFrame) (dt : Nat) : List Byte :=
  wordsBytes ([word (f.id % 2 ^ 29 + bitNat f.ide * 2 ^ 29 + n * 2 ^ 30), word (f.data.length + f.flags % 64 * 2 ^ 12),
    word (f.sdt % 256 + f.vcid % 256 * 256), f.accept] ++ stampWords (s.timeAt dt)) ++ f.data

/-- Whether a frame passes controller `n`'s acceptance filters (R466). -/
def State.accepts (s : State) (n : Nat) (f : CanFrame) : Bool :=
  let xl := canClass f.flags == 3
  let hit (k : Nat) : Bool :=
    let i := s.rd (Reg.netCanFltId n k)
    let m := field (s.rd (Reg.netCanFltMask n k)) 0 29
    let m := if xl then m % 2 ^ 11 else m
    field i 31 1 == 1 && (f.id &&& m) == (field i 0 29 &&& m) && (xl || (field i 29 1 == 1) == f.ide)
  (List.range 32).any hit || s.bit (Reg.netCanCfg n) 7

/-- CAN_FRAME_RECEIVED (R464, R466): on controller `n`, after `errors` error frames and with these counters. A frame of a
format above its own lets it integrate again where pex is set, and meets an error frame otherwise. -/
def execCanFrameReceived (n : Nat) (f : CanFrame) (dt errors tec rec' : Nat) (s : State) :
    Host.Outcome State Fault Refusal :=
  .next (if 4 ≤ n ∨ s.canFormat n = 0 ∨ s.canState n = 2 then s
    else if s.canFormat n < canClass f.flags then
      (if s.bit (Reg.netCanCfg n) 2 then s.put (Reg.netCanStat n) 0 2 3 else s.canErrors n (errors + 1) tec rec')
    else
      let s := s.canErrors n errors tec rec'
      let bs := s.canBytes n f dt
      if s.accepts n f ∧ s.ringEnabled 59 then s.offer 59 (inlineDescs bs.length) bs else s)

/-- The oldest frame of controller `n`, with flags and length in `u`, has left, or for `lost` has lost arbitration or
met an error and is not sent again (R448, R467, R468) (log entry 68, DEDUCED). -/
def State.canSent (s : State) (n : Nat) (u : RingUnit) (lost : Bool) (dt errors tec rec' : Nat) : State :=
  let class_ := canClass (leAt u.bytes 4 4 / 2 ^ 12 % 64)
  let time := stampWords (s.timeAt dt)
  if s.canFormat n < class_ ∨ ¬ canLength class_ (leAt u.bytes 4 4 % 2 ^ 12) then
    s.freeStamp.2.complete (60 + n) 4 s.freeStamp.1
  else
    let s := s.canErrors n errors tec rec'
    if ¬ lost then (s.setCanSt n { s.canSt n with aborting := false }).complete (60 + n) 0 time
    else if (s.canSt n).aborting then (s.setCanSt n { s.canSt n with aborting := false }).complete (60 + n) 2 time
    else if s.bit (Reg.netCanCfg n) 5 then s.complete (60 + n) 1 time
    else s

/-- CAN_FRAME_SENT (R448, R467, R468): on a controller that sends. -/
def execCanFrameSent (n : Nat) (lost : Bool) (dt errors tec rec' : Nat) (s : State) : Host.Outcome State Fault Refusal :=
  .next (if 4 ≤ n ∨ s.canFormat n = 0 ∨ s.canState n = 2 ∨ s.bit (Reg.netCanCfg n) 3 then s
    else match (s.ring (60 + n)).units with
      | [] => s
      | u :: _ => s.canSent n u lost dt errors tec rec')

/-- Controller `n` goes off the bus; the frame on the bus, if there is one, is written back with 0x03 (R467). -/
def State.canOff (s : State) (n : Nat) (onBus : Bool) (dt : Nat) : State :=
  let s := ((s.put (Reg.netCanStat n) 0 2 2).setBit Reg.netStatus (8 + n) true).countUp (Reg.netCanErr n) 16 16 1
  let s := if onBus then s.complete (60 + n) 3 (stampWords (s.timeAt dt)) else s
  let s := s.setCanSt n { aborting := false, recovering := s.bit (Reg.netCanCfg n) 4 }
  s.raise 0x0E07 []

/-- CAN_BUS_OFF (R467): the frame on the bus, if there is one, started `dt` CLK_PER ticks after the latest module tick. -/
def execCanBusOff (n : Nat) (onBus : Bool) (dt : Nat) (s : State) : Host.Outcome State Fault Refusal :=
  .next (if 4 ≤ n ∨ s.canFormat n = 0 ∨ s.canState n = 2 then s else s.canOff n onBus dt)

/-- CAN_BUS_ON (R467): recovery completes. -/
def execCanBusOn (n : Nat) (s : State) : Host.Outcome State Fault Refusal :=
  .next (if n < 4 ∧ s.canState n = 2 ∧ ((s.canSt n).recovering ∨ s.bit (Reg.netCanCfg n) 4) then
    let s := ((s.wr (Reg.netCanStat n) 0).setBit Reg.netStatus (8 + n) false).setBit Reg.netStatus (12 + n) false
    (s.setCanSt n { s.canSt n with recovering := false }).raise 0x0E08 []
  else s)

/-- A write of NET_CANn_CMD (R467, R468). The oldest frame of an active controller is on the bus. -/
def State.canCommand (s : State) (n : Nat) (v : Word) : State :=
  let s := if field v 0 1 = 1 ∧ s.canState n = 2 then s.setCanSt n { s.canSt n with recovering := true } else s
  if field v 1 1 = 1 then
    let us := (s.ring (60 + n)).units
    let active : Bool := s.canFormat n ≠ 0 ∧ s.canState n ≠ 2 ∧ ¬ s.bit (Reg.netCanCfg n) 3 ∧ us ≠ []
    let keep := if active then us.take 1 else []
    let gone := if active then us.drop 1 else us
    let s := gone.foldl (fun s u =>
      let (w, s) := s.freeStamp
      let c : Completion := { ring := 60 + n, seq := u.seq, status := 2, stamp := w }
      s.setNet { s.net with done := c :: s.net.done }) s
    let s := (s.setRing (60 + n) { s.ring (60 + n) with units := keep }).setFill (60 + n)
      (keep.foldl (fun a u => a + u.descs) 0)
    if active then s.setCanSt n { s.canSt n with aborting := true } else s
  else s

/-- A NET register takes its fixed value (R470); a port whose mode becomes off has no link (log entry 119, DEDUCED; log
entry 67, DEDUCED). -/
def State.applyNet (s : State) (a : Nat) (v : Word) : State :=
  let s := s.wrRw a v
  if a = Reg.netTimeCfg then
    let src := field v 0 2
    if src = s.timeSource then s.tcUpdate
    else
      let s := (s.put Reg.netStatus 2 2 src).setNet
        { s.net with good := 0, slew := 0, syncTick := s.tick, announced := none }
      let s := if s.timeState = 0 then s else (s.put Reg.netStatus 0 2 0).raise 0x0E02 []
      s.tcUpdate
  else if a = Reg.netEthCfg 0 ∧ s.ethPad 0 16 = .held then s.ethDown 0
  else if a = Reg.netEthCfg 1 ∧ s.ethPad 1 16 = .held then s.ethDown 1
  else s

end Sys2Proof.Machine
end

