-- ==== Sys2Proof/Machine/FixCore.lean ====
section
/-! DEFINITION. The end of an accepted FIX set (R434): what still waits, and the final reply. -/

namespace Sys2Proof.Machine

/-- Registers of the set still wait for their boundary, or its timetable part is still on its way (R434, R493, R495). -/
def Fix.waits (x : Fix) : Bool := !x.items.isEmpty || x.table.isSome

/-- A set whose every object has applied: its final reply holds the time of the last application (R434) (log entry 122,
DESIGN CHOICE). -/
def State.closeFix (s : State) (x : Fix) : State :=
  let s := { s with fixes := s.fixes.filter (fun y => y.packet ≠ x.packet) }
  s.finishLate x.opcode x.packet .ok (wordBytes (s.rd Reg.netTcLinLo) ++ n16 (s.fld Reg.netTcLinHi 0 16) ++ n16 0)

/-- Every set that has applied everywhere ends, in the order of acceptance. -/
def State.closeFixes (s : State) : State :=
  s.fixes.foldl (fun s x => if x.waits then s else s.closeFix x) s

/-- The timetable part of the set that packet `p` fixed has been distributed, or applied. -/
def State.tableDone (s : State) (p : Packet) : State :=
  { s with fixes := s.fixes.map (fun x => if x.packet = p then { x with table := none } else x) }

end Sys2Proof.Machine
end

