-- ==== Sys2Proof/Machine/SafeRows.lean ====
section
/-! DEFINITION. Commands of SAFE: the safety tick and its rows (R291 to R307), the lattice (R287, R288, R292), the release
of LOCKOUT (R311 to R315), and the status opcodes (R316). -/

namespace Sys2Proof.Machine

/-! ### Evaluating a CONFIRM -/

/-- Remote reset is permitted: remote_en is 1 and the key switch is at REMOTE (R313). -/
def State.remoteReset (s : State) : Bool := s.bit Reg.safeLockoutCfg 8 && decide (s.fld Reg.cycleKey 0 2 = 0)

/-- Safety tick `e` lies before the present one, modulo 2^32. -/
def State.tickPast (s : State) (e : Nat) : Bool :=
  let d := ((s.rd Reg.safeTick).toNat + 2 ^ 32 - e % 2 ^ 32) % 2 ^ 32
  decide (0 < d) && decide (d < 2 ^ 31)

/-- One LOCKOUT_CONFIRM is evaluated at its tick: the checks of R314 in order, and the release. -/
def State.evalConfirm (s : State) (p : Packet) (testOk : Bool) (persist : List Nat) : State :=
  if ¬ s.isAuth p.session then s.finish 0x0903 p .authRequired []
  else if ¬ s.remoteReset then s.finish 0x0903 p .notPermitted []
  else match s.safe.arm with
    | none => s.finish 0x0903 p .notPermitted []
    | some a =>
      if a.session ≠ p.session then s.finish 0x0903 p .notPermitted []
      else if a.expired ∨ s.tickPast a.expiry then s.dropArm.finish 0x0903 p .timeout []
      else if word (leAt p.payload 0 4) ≠ s.rd Reg.safeLockoutCount ∨ word (leAt p.payload 4 4) ≠ a.challenge then
        s.dropArm.finish 0x0903 p .outOfRange []
      else
        let left := causeWord (s.standing testOk)
        let (s, ok) := s.tryRelease testOk persist
        if ok then s.finish 0x0903 p .ok [] else s.dropArm.finish 0x0903 p .notPermitted (wordBytes left)

/-- The waiting CONFIRM commands are evaluated (R314). -/
def State.evalConfirms (s : State) (testOk : Bool) (persist : List Nat) : State :=
  let ps := s.safe.confirms
  ps.foldl (fun s p => s.evalConfirm p testOk persist) { s with safe := { s.safe with confirms := [] } }

/-! ### The safety tick -/

/-- Step 1 for the local reset: the hold count and the time of one channel alone (R312). -/
def State.sampleReset (s : State) (a b : Bool) : State :=
  let r := s.safe.rst
  let lowA := r.lowA || !a
  let lowB := r.lowB || !b
  let ignored := r.ignored && (a || b)
  s.setRst
    { lowA := lowA, lowB := lowB, ignored := ignored,
      hold := if a && b && lowA && lowB && !ignored then r.hold + 1 else 0,
      aloneA := if a && !b then r.aloneA + 1 else 0, aloneB := if b && !a then r.aloneB + 1 else 0 }

/-- Step 2: the fabric cycles that have ended are judged in order, and the degraded windows run (R305, R306). -/
def State.judgeSubs (s : State) : State :=
  (List.range 16).foldl (fun s r =>
    let cs := (s.safeSub r).ended
    let s := s.setSafeSub r { s.safeSub r with ended := [] }
    let s := cs.foldl (fun s c => s.judgeCycle r c.1 c.2) s
    if s.rxState r = 1 then s.setSafeSub r { s.safeSub r with window := (s.safeSub r).window + 1 } else s) s

/-- Cause 0x07: the lattice is in demand at two consecutive ticks with every lattice-marked input in run at both
(R287, R308). -/
def State.judgeLattice (s : State) : State :=
  let d := s.safe.diag
  let odd := decide (d.demand ≠ 0)
    && (List.range 16).all (fun i => !s.latticeMarked i || s.inMode i == 0 || s.bit Reg.safeInLogic i)
  let s := s.setDiag { d with odd := if odd then d.odd + 1 else 0 }
  if odd ∧ 1 ≤ d.odd then s.latchNow 7 0 else s

/-- The test pulses of output `n`. -/
def State.outTest (s : State) (n : Nat) : OutTest := sparseGet (fun _ => OutTest.idle) s.safe.outs n

def State.setOutTest (s : State) (n : Nat) (v : OutTest) : State :=
  { s with safe := { s.safe with outs := sparseSet (fun _ => OutTest.idle) s.safe.outs n v } }

/-- Step 4: the safe outputs are driven, and an output that is off with a switch closed or voltage on its load faults
(R300 to R302). -/
def State.driveOutputs (s : State) (closedA closedB voltage : Nat) : State :=
  let s := s.put Reg.safeOutState 0 8 (bitsOf 8 s.outOn)
  let s := (s.put Reg.safeOutState 8 8 closedA).put Reg.safeOutState 16 8 closedB
  let s := (List.range 8).foldl (fun s n =>
    s.setOutTest n (if s.bit Reg.safeOutState n then { s.outTest n with age := (s.outTest n).age + 1 } else OutTest.idle)) s
  (List.range 8).foldl (fun s n =>
    if ¬ s.bit Reg.safeOutState n ∧ ¬ s.bit Reg.safeOutState (24 + n)
        ∧ (closedA / 2 ^ n % 2 = 1 ∨ closedB / 2 ^ n % 2 = 1 ∨ voltage / 2 ^ n % 2 = 1) then s.faultOutput n else s) s

/-- Ticks in 24 h (R292). -/
def testAge : Nat := 86400000

/-- Step 5: the heartbeat toggles, the bus's low time runs, and a lattice test more than 24 h old is reported (R288,
R292). -/
def State.runDiag (s : State) : State :=
  let d := s.safe.diag
  let s := s.setDiag { d with beats := d.beats + 1, busLow := if s.bit Reg.gateStatus 0 then 0 else d.busLow + 1,
                              testTick := d.testTick + 1, testDue := d.testDue || decide (testAge ≤ d.testTick) }
  if testAge ≤ d.testTick ∧ ¬ d.testDue then (s.setBit Reg.safeStatus 10 false).raise 0x090A [] else s

/-- The degraded window of subscription `r` has expired (R306). -/
def State.windowDue (s : State) (r : Nat) : Bool :=
  s.rxState r == 1 && decide (s.fld (Reg.safeRxCfg r) 17 6 * 1000 ≤ (s.safeSub r).window)

/-- A discrepancy fault of steps 1, an expired window of step 2 has still to take effect at this tick. -/
def State.tickWaits (s : State) : Bool := s.anyDisc || (List.range 16).any s.windowDue

/-- Pair `i` faults: it is held in demand, and LOCKOUT latches with cause 0x02 (R296). -/
def State.faultInput (s : State) (i : Nat) : State :=
  let s := s.setSafeIn i { s.safeIn i with faulted := true, held := true, shown := false }
  let s := (s.setBit Reg.safeInLogic i false).setBit Reg.safeInLogic (16 + i) true
  ((s.countUp Reg.safeDiscCount 0 16 1).raise 0x0905 []).latchLockout 2 i

/-- Steps 3 to 6 of a tick (R291). -/
def State.finishTick (s : State) (r : TickRest) : State :=
  let s := { s with safe := { s.safe with rest := none } }
  let s := (s.recordLattice.judgeLattice).runFunctions
  let s := s.driveOutputs r.closedA r.closedB r.voltage
  ((s.evalConfirms r.testOk r.persist).runDiag).showMirror

/-- The tick under way goes on once nothing of its first two steps is due. -/
def State.goOnTick (s : State) : State :=
  match s.safe.rest with
  | some r => if s.tickWaits then s else s.finishTick r
  | none => s

/-- A tick that still waits ends before the next: what was due in it takes effect (R295, R306). -/
def State.endTick (s : State) : State :=
  if s.safe.rest.isNone then s
  else
    let s := (List.range 16).foldl (fun s i => if s.discDue i then s.faultInput i else s) s
    let s := (List.range 16).foldl (fun s r => if s.windowDue r then s.loseSub r else s) s
    s.goOnTick

/-- The steps of the processor at one safety tick (R291): `raw` holds the SIN levels counted after 200 µs of stability,
`rstA` and `rstB` those of the reset pads; `rest` the readbacks `closedA` and `closedB`, the loads with `voltage`, and
`testOk` and `persist` as for a release. Discrepancy faults and expired windows have rows of their own, before step 3. -/
def State.safetyWork (s : State) (raw : Word) (rstA rstB : Bool) (rest : TickRest) : State :=
  let s := s.endTick
  let s : State := { s with safe := { s.safe with latched := [], rest := some rest } }
  let s := (s.wr Reg.safeTick (s.rd Reg.safeTick + 1)).wr Reg.safeInRaw raw
  let s := ((List.range 16).foldl (fun s i => s.samplePair raw i) s).sampleReset rstA rstB
  s.judgeSubs.goOnTick

/-- SAFETY_TICK (R291). Its discrepancy faults, expired windows and local reset are rows of their own (log entry 10,
DESIGN CHOICE). -/
def execSafetyTick (raw : Word) (rstA rstB : Bool) (closedA closedB voltage : Nat) (testOk : Bool) (persist : List Nat)
    (s : State) : Host.Outcome State Fault Refusal :=
  .next (if s.procOk then
    s.safetyWork raw rstA rstB
      { closedA := closedA, closedB := closedB, voltage := voltage, testOk := testOk, persist := persist }
  else s)

/-- INPUT_DISCREPANCY (R295, R296): the timer of pair `i` has reached N. -/
def execInputDiscrepancy (i : Nat) (s : State) : Host.Outcome State Fault Refusal :=
  .next (if i < 16 ∧ s.procOk ∧ s.discDue i then (s.faultInput i).goOnTick else s)

/-- SAFE_FRAME_RECEIVED (R304): a copy on `plane` (0 X, 1 Y) with the payload's fields; `inSlot`: it arrived in its
slot. -/
def State.takeSafeFrame (s : State) (plane node stream seq : Nat) (data crc : Word) (inSlot : Bool) : State :=
  if crc ≠ safeCrc (safeFrame node stream seq data) ∨ ¬ inSlot then s
  else (List.range 16).foldl (fun s r =>
    let c := s.rd (Reg.safeRxCfg r)
    if field c 0 1 = 1 ∧ field c 1 12 = node ∧ field c 13 4 = stream then
      let v := s.safeSub r
      let copy : SafeCopy := { seq := seq, data := data }
      s.setSafeSub r (if plane = 0 then { v with x := v.x.take copy } else { v with y := v.y.take copy })
    else s) s

/-- SAFE_FRAME_RECEIVED. -/
def execSafeFrameReceived (plane node stream seq : Nat) (data crc : Word) (inSlot : Bool) (s : State) :
    Host.Outcome State Fault Refusal :=
  .next (s.takeSafeFrame plane node stream seq data crc inSlot)

/-- DEGRADED_WINDOW_EXPIRY (R306). -/
def execDegradedWindowExpiry (r : Nat) (s : State) : Host.Outcome State Fault Refusal :=
  .next (if r < 16 ∧ s.procOk ∧ s.windowDue r then (s.loseSub r).goOnTick else s)

/-- The next test pulse of output `n` is due: half a test period after the latest one (R301) (log entry 118, DEDUCED). -/
def State.pulseDue (s : State) (n : Nat) : Bool :=
  s.bit Reg.safeOutState n && decide (500 * s.fld (Reg.safeOutCfg n) 11 6 ≤ (s.outTest n).age)

/-- SOUT_TEST_PULSE (R301, R302): the test pulse of switch A, or of switch B, of output `n`, which is on: its readback shows
the switch open `opened` µs and closed again `closed` µs after the pulse began. Outside test_width, or more than 100 µs
after it, the output faults. -/
def execSoutTestPulse (n : Nat) (switchB : Bool) (opened closed : Nat) (s : State) : Host.Outcome State Fault Refusal :=
  .next (if n < 8 ∧ s.procOk ∧ s.pulseDue n ∧ switchB = (s.outTest n).nextB then
    let w := 100 * s.fld (Reg.safeOutCfg n) 7 4
    let s := s.setOutTest n { age := 0, nextB := !switchB }
    if opened ≤ w ∧ closed ≤ w + 100 then s else s.faultOutput n
  else s)

/-- SOUT_OVERCURRENT (R302). -/
def execSoutOvercurrent (n : Nat) (s : State) : Host.Outcome State Fault Refusal :=
  .next (if n < 8 ∧ s.procOk ∧ ¬ s.bit Reg.safeOutState (24 + n) then s.faultOutput n else s)

/-! ### The lattice and the processor -/

/-- LATTICE_DEMAND (R287): either channel of a lattice-marked input shows demand after the 1 µs filter. -/
def execLatticeDemand (i : Nat) (s : State) : Host.Outcome State Fault Refusal :=
  .next (if i < 16 ∧ s.latticeMarked i ∧ s.safe.diag.demand / 2 ^ i % 2 = 0 then
    (s.setDiag { s.safe.diag with demand := s.safe.diag.demand + 2 ^ i }).showLattice else s)

/-- LATTICE_DEMAND_END (R287). -/
def execLatticeDemandEnd (i : Nat) (s : State) : Host.Outcome State Fault Refusal :=
  .next (if i < 16 ∧ s.safe.diag.demand / 2 ^ i % 2 = 1 then
    (s.setDiag { s.safe.diag with demand := s.safe.diag.demand - 2 ^ i }).showLattice else s)

/-- LATTICE_TEST (R292): with the bus low for at least 10 ms and the last test more than 24 h old; a failure latches LOCKOUT
with cause 0x07. -/
def execLatticeTest (ok : Bool) (s : State) : Host.Outcome State Fault Refusal :=
  .next (if s.procOk ∧ 10 ≤ s.safe.diag.busLow ∧ testAge < s.safe.diag.testTick then
    let s := s.latticeTested ok
    if ok then s else s.latchLockout 7 0
  else s)

/-- HEARTBEAT_LOST (R288): three missed ticks latch the lattice. -/
def execHeartbeatLost (s : State) : Host.Outcome State Fault Refusal :=
  .next ((s.setDiag { s.safe.diag with beats := 0 }).latticeLatches 6 0)

/-- LOCKSTEP_MISMATCH (R288, R293): the lattice latches and both cores restart; until they have, the mirror keeps its values
but proc_ok, which reads 0. -/
def execLockstepMismatch (s : State) : Host.Outcome State Fault Refusal :=
  .next (if s.procOk then
    let s := (s.countUp Reg.safeDiag 0 4 1).setBit Reg.safeStatus 8 false
    let s := s.setDiag { s.safe.diag with restarting := true, restarted := false }
    let s := (s.latticeLatches 5 0).showProc
    let shown := s.mirrorWord Reg.safeStatus &&& ~~~(word (2 ^ 8))
    { s with safe := { s.safe with rest := none, mirror := sparseSet resetValue s.safe.mirror Reg.safeStatus shown } }
  else s)

/-- PROCESSOR_RESTART_DONE (R293). -/
def execProcessorRestartDone (s : State) : Host.Outcome State Fault Refusal :=
  .next (if s.safe.diag.restarting then
    ((s.setDiag { s.safe.diag with restarting := false, restarted := true }).setBit Reg.safeStatus 8 true).showProc
  else s)

/-! ### Releasing LOCKOUT -/

/-- The hold count of the local reset has reached reset_hold (R312). -/
def State.localDue (s : State) : Bool :=
  s.procOk && s.procLatched && s.safe.rest.isNone && decide (0 < s.safe.rst.hold)
    && decide (s.fld Reg.safeLockoutCfg 0 8 * 10 ≤ s.safe.rst.hold)

/-- LOCAL_RESET (R312): the release is evaluated; after a refusal both channels must be low again. -/
def execLocalReset (testOk : Bool) (persist : List Nat) (s : State) : Host.Outcome State Fault Refusal :=
  .next (if s.localDue then
    let (s, ok) := s.tryRelease testOk persist
    (if ok then s else s.setRst { s.safe.rst with hold := 0, lowA := false, lowB := false }).showMirror
  else s)

/-- RESET_DISCREPANCY (R312): one channel has been high alone for more than 500 ms. -/
def execResetDiscrepancy (s : State) : Host.Outcome State Fault Refusal :=
  .next (if s.procOk ∧ (500 < s.safe.rst.aloneA ∨ 500 < s.safe.rst.aloneB) ∧ ¬ s.safe.rst.ignored then
    (s.setRst { s.safe.rst with ignored := true, hold := 0 }).raise 0x0904 [] else s)

/-- LOCKOUT_ARM's own checks, 2 to 6 of R313, and its arm. -/
def State.runArm (s : State) (p : Packet) (testOk : Bool) : State :=
  let other := match s.safe.arm with | some a => decide (a.session ≠ p.session) && !a.expired | none => false
  if ¬ s.remoteReset ∨ ¬ s.bit Reg.safeStatus 4 then s.finish 0x0902 p .notPermitted []
  else if word (leAt p.payload 0 4) ≠ s.rd Reg.safeLockoutCount then s.finish 0x0902 p .outOfRange []
  else if other then s.finish 0x0902 p .busy []
  else if s.standing testOk ≠ [] then s.finish 0x0902 p .notPermitted (wordBytes (causeWord (s.standing testOk)))
  else
    let (c, s) := s.freshWord
    let e := ((s.rd Reg.safeTick).toNat + 1 + s.fld Reg.safeLockoutCfg 9 4 * 1000) % 2 ^ 32
    let s := { s with safe := { s.safe with arm := some { session := p.session, challenge := c, expiry := e, expired := false } } }
    let s := (s.setBit Reg.safeStatus 7 true).put Reg.safeStatus 16 7 p.session
    s.finish 0x0902 p .ok (wordBytes c ++ n32 e)

/-- LOCKOUT_ARM (R313). -/
def execLockoutArm (p : Packet) (testOk : Bool) (s : State) : Host.Outcome State Fault Refusal :=
  .next (s.command 0x0902 p (decide (p.payload.length = 4)) (fun s => s.runArm p testOk) (.flag testOk))

/-- LOCKOUT_CONFIRM waits for the next safety tick (R314, R416). -/
def State.runConfirm (s : State) (p : Packet) : State :=
  State.pend { s with safe := { s.safe with confirms := s.safe.confirms ++ [p] } } 0x0903 p

/-- LOCKOUT_CONFIRM (R314). -/
def execLockoutConfirm (p : Packet) (s : State) : Host.Outcome State Fault Refusal :=
  .next (s.command 0x0903 p (decide (p.payload.length = 8)) (fun s => s.runConfirm p))

/-- ARM_EXPIRED (R313): confirm_window has passed; what the session confirms now is answered TIMEOUT (R314). -/
def execArmExpired (s : State) : Host.Outcome State Fault Refusal :=
  .next (match s.safe.arm with
    | some a =>
      if ¬ a.expired ∧ (s.tickPast a.expiry ∨ (s.rd Reg.safeTick).toNat = a.expiry) then
        let s := { s with safe := { s.safe with arm := some { a with expired := true } } }
        ((s.setBit Reg.safeStatus 7 false).put Reg.safeStatus 16 7 0).showMirror
      else s
    | none => s)

/-! ### Status opcodes -/

/-- `n` registers from `a`. -/
def State.rdWords (s : State) (a : Nat) : Nat → List Word
  | 0 => []
  | n + 1 => s.rd a :: s.rdWords (a + 4) n

/-- What SAFE_STATUS does (R316). -/
def State.runSafeStatus (s : State) (p : Packet) : State :=
  s.finish 0x0900 p .ok (wordsBytes ((List.range 14).map (fun k => s.mirrorWord (Reg.safeStatus + 4 * k))))

/-- SAFE_STATUS (R316): the words at 0x0000 to 0x0034, all from one tick. -/
def execSafeStatus (p : Packet) (s : State) : Host.Outcome State Fault Refusal :=
  .next (s.command 0x0900 p (decide (p.payload = [])) (fun s => s.runSafeStatus p))

/-- The contents of flash slot 2·type + slot. -/
def State.flashSlot (s : State) (k : Nat) : List Byte := sparseGet (fun _ => []) s.sec.image.slots k

/-- The active slot of an object type (R540). -/
def State.activeSlot (s : State) (type : Nat) : Nat := sparseGet (fun _ => 0) s.sec.image.active type

/-- The 336 bytes of the table in force, or of the SAFETY_PARAM body in the active flash slot as stored (R316, R317). -/
def State.paramTable (s : State) : List Byte :=
  if s.bit Reg.safeStatus 9 ∧ s.safe.diag.released then
    wordsBytes ([0x5AFE7AB1, word (1 + 336 * 2 ^ 16), s.rd Reg.safeParamId] ++ s.rdWords (Reg.safeInCfg 0) 80
      ++ [s.rd Reg.safeParamCrc])
  else
    let body := ((s.flashSlot (2 * 2 + s.activeSlot 2)).drop 256).take 336
    body ++ List.replicate (336 - body.length) 0xFF

/-- What SAFE_PARAM_READ does (R316). -/
def State.runParamRead (s : State) (p : Packet) : State :=
  s.finish 0x0901 p .ok s.paramTable

/-- SAFE_PARAM_READ (R316). -/
def execSafeParamRead (p : Packet) (s : State) : Host.Outcome State Fault Refusal :=
  .next (s.command 0x0901 p (decide (p.payload = [])) (fun s => s.runParamRead p))

end Sys2Proof.Machine
end

