-- ==== Sys2Proof/Machine/Fab.lean ====
section
/-! DEFINITION. The fabric: survey and routes (R479 to R485), the timetable's windows and admission (R486 to R491), its
changes (R493 to R497), streams (R501 to R503), and node reads (R507). -/

namespace Sys2Proof.Machine

def State.setSurvey (s : State) (v : SurveySt) : State := s.setFab { s.fab with survey := v }
def State.setTt (s : State) (v : TtSt) : State := s.setFab { s.fab with tt := v }
def State.setFabCyc (s : State) (v : FabCycSt) : State := s.setFab { s.fab with cyc := v }

/-! ### Status -/

/-- STATUS: up (an ID and route lists), and silent (R485, R496, R500). -/
def State.showFab (s : State) : State :=
  let v := s.fab.cyc
  let silent : Bool := v.lost || v.stopX || v.stopY || s.bit Reg.fabTtStat 14
  (s.setBit Reg.fabStatus 0 (decide (s.nodeId ≠ 0) && s.hasRoutes)).setBit Reg.fabStatus 4 silent

/-- The survey is under way or over. -/
def State.setSurveying (s : State) (b : Bool) : State := s.setBit Reg.fabStatus 5 b

/-! ### Election -/

/-- The best key the node knows (R479, R480). -/
def State.bestKey (s : State) : Nat := min (s.fab.survey.best.getD s.ownKey) s.ownKey

/-- Ports that are up, but for `p` (log entry 69, DEDUCED). -/
def otherPorts (p : Nat) : List Nat := [0, 1, 2, 3].filter (fun q => q ≠ p)

/-- A CLAIM of the best key floods every port but `p` (R480). -/
def State.floodClaim (s : State) (p : Nat) : State :=
  if s.bit Reg.fabCfg 0 then s.originate broadcast 0 false 4095 (.claim s.bestKey) (otherPorts p) else s

/-- A key heard on port `p`: one below every key sent so far becomes the best, starts the quiet time again, and is
forwarded; the second-lowest key is remembered for the deputy (R480) (log entry 72, DEDUCED). -/
def State.hearKey (s : State) (k p : Nat) : State :=
  let v := s.fab.survey
  if k < s.bestKey then
    ((s.setSurvey { v with best := some k, second := some s.bestKey, bestTick := s.tick }).setSurveying true).floodClaim p
  else if k ≠ s.bestKey ∧ k < v.second.getD (k + 1) then s.setSurvey { v with second := some k }
  else s

/-- The node's report (R481). -/
def State.ownReport (s : State) : NodeReport :=
  { uid := s.uid, fixed := s.fld Reg.fabCfg 16 12, remembered := s.fab.survey.remembered,
    neighbours := [0, 1, 2, 3].map (fun p => if s.portUp p then (s.port p).uid else 0) }

/-- A report reaches the surveyor. -/
def State.keepReport (s : State) (r : NodeReport) : State :=
  let v := s.fab.survey
  s.setSurvey { v with reports := v.reports.filter (fun q => q.uid ≠ r.uid) ++ [r] }

/-- SURVEY start goes out, with the surveyor's own report (R480, R481). -/
def State.startReports (s : State) : State :=
  let v := s.fab.survey
  let s := (s.setSurvey { v with reports := [], confirmed := [], waits := false }).setSurveying true
  (s.keepReport s.ownReport).sendFab broadcast (.start s.ownKey)

/-! ### IDs -/

/-- Reports in ascending unique ID. -/
def byUid (l : List NodeReport) : List NodeReport :=
  l.foldr (fun r acc => acc.takeWhile (fun q => q.uid < r.uid) ++ [r] ++ acc.dropWhile (fun q => q.uid < r.uid)) []

def validId (n : Nat) : Bool := decide (1 ≤ n ∧ n ≤ 0xFFE)

/-- IDs given at one level: `want` gives what a node asks for; the lower unique ID keeps it (R481). -/
def giveAsked (want : NodeReport → Nat) (l : List NodeReport) (ids : List (Nat × Nat)) : List (Nat × Nat) :=
  l.foldl (fun ids r =>
    if validId (want r) ∧ ¬ ids.any (fun e => e.2 == want r) then ids ++ [(r.uid, want r)] else ids) ids

/-- The lowest free ID, 0 where there is none. -/
def lowestFree (ids : List (Nat × Nat)) : Nat :=
  ((List.range 0xFFF).drop 1).find? (fun n => !ids.any (fun e => e.2 == n)) |>.getD 0

/-- The IDs of R481: fixed IDs, then remembered ones, then the lowest free. -/
def assignIds (reports : List NodeReport) : List (Nat × Nat) :=
  let l := byUid reports
  let ids := giveAsked NodeReport.fixed l []
  let ids := giveAsked NodeReport.remembered (l.filter (fun r => r.fixed == 0)) ids
  l.foldl (fun ids r => if ids.any (fun e => e.1 == r.uid) then ids else ids ++ [(r.uid, lowestFree ids)]) ids

/-- The node takes its ID; one other than it asked for raises NODE_ID_CHANGED, none FABRIC_FULL (R481). -/
def State.takeId (s : State) (id : Nat) : State :=
  let r := s.ownReport
  let want := if r.fixed ≠ 0 then r.fixed else r.remembered
  let s := s.put Reg.fabNode 0 12 id
  if id = 0 then s.raise 0x0F06 []
  else
    let s := s.setSurvey { s.fab.survey with remembered := id }
    if want ≠ 0 ∧ want ≠ id then s.raise 0x0F05 [] else s

/-- Assigned IDs, the surveyor's and the deputy's reach the node. -/
def State.takeAssignment (s : State) (ids : List (Nat × Nat)) (surveyor deputy : Nat) : State :=
  let s := match ids.find? (fun e => e.1 == s.uid) with
    | some e => if s.bit Reg.fabCfg 0 then s.takeId e.2 else s
    | none => s
  let s := (s.put Reg.fabNode 12 12 surveyor).put Reg.fabNodes 12 12 deputy
  let me := s.nodeId
  (s.setBit Reg.fabStatus 2 (decide (me ≠ 0 ∧ me = deputy))).showFab

/-! ### Routes -/

/-- Neighbours of node `u` on plane `pl` as it reported them; a node that has not reported has none. -/
def neighboursOf (l : List NodeReport) (pl u : Nat) : Nat × Nat :=
  match l.find? (fun r => r.uid == u) with
  | some r => (r.neighbours.getD (2 * pl) 0, r.neighbours.getD (2 * pl + 1) 0)
  | none => (0, 0)

/-- From node `cur`, reached from `prev`, to the end of the plane or back to `start`; the second part says which
(log entry 70, DEDUCED). -/
def walkPlane (l : List NodeReport) (pl start : Nat) : Nat → Nat → Nat → List Nat × Bool
  | 0, _, _ => ([], false)
  | n + 1, prev, cur =>
    let (a, b) := neighboursOf l pl cur
    let next := if a = prev then b else a
    if next = 0 then ([cur], false)
    else if next = start then ([cur], true)
    else
      let (rest, ring) := walkPlane l pl start n cur next
      (cur :: rest, ring)

/-- The order of the nodes on a plane, and whether it is a ring (R482). -/
def planeOrder (l : List NodeReport) (pl start : Nat) : List Nat × Bool :=
  let (a, b) := neighboursOf l pl start
  let (up, ring) := if b = 0 then ([], false) else walkPlane l pl start l.length start b
  if ring then (start :: up, true)
  else
    let (down, _) := if a = 0 then ([], false) else walkPlane l pl start l.length start a
    (down.reverse ++ [start] ++ up, false)

/-- The nodes in a line that no data frame leaves: a ring is cut at its parting link (R482) (log entry 70, DEDUCED). -/
def routeLine (r : RouteList) : List (Nat × Nat) :=
  if r.ring then r.order.drop (r.parting + 1) ++ r.order.take (r.parting + 1) else r.order

/-- Every line that a plane can form: a ring with each of its links lost (R490). -/
def routeLines (r : RouteList) : List (List Nat) :=
  if r.ring then (List.range r.order.length).map (fun k => (routeLine { r with parting := k }).map Prod.snd)
  else [r.order.map Prod.snd]

/-- The route list in force on plane `pl`. -/
def State.route (s : State) (pl : Nat) : Option RouteList := s.fab.routes.find? (fun r => r.plane == pl)

/-- The route list the surveyor makes of its reports for plane `pl`, with the parting link it chooses for a ring; a ring
that has lost one link stays a ring, parted there (R482, R484) (log entry 69, DEDUCED). -/
def State.makeRoute (s : State) (pl parting : Nat) : RouteList :=
  let v := s.fab.survey
  let (order, ring) := planeOrder v.reports pl s.uid
  let was : Bool := match s.route pl with
    | some r => r.ring && decide (r.order.length = order.length) && order.all (fun u => r.order.any (fun e => e.1 == u))
    | none => false
  let ids := order.map (fun u => (u, match v.ids.find? (fun e => e.1 == u) with | some e => e.2 | none => 0))
  { plane := pl, order := ids, ring := ring || was,
    parting := if ring then parting % max 1 order.length else order.length - 1, stop := false }

/-- The port of plane `pl` that leads to the neighbour with unique ID `u` (log entry 69, DEDUCED). -/
def State.portTo (s : State) (pl u : Nat) : Option Nat := [2 * pl, 2 * pl + 1].find? (fun p => (s.port p).uid == u)

/-- The mask bit of that port in a waymark entry. -/
def State.maskTo (s : State) (pl u : Nat) : Nat :=
  match s.portTo pl u with | some p => if p = 2 * pl then 1 else 2 | none => 0

/-- Plane `pl` of one waymark entry. -/
def State.setWay (s : State) (pl dst mask hops : Nat) : State :=
  if pl = 0 then (s.put (Reg.fabWay dst) 0 2 mask).put (Reg.fabWay dst) 4 12 hops
  else (s.put (Reg.fabWay dst) 2 2 mask).put (Reg.fabWay dst) 16 12 hops

/-- The waymark table of plane `pl` follows from its route list (R482). -/
def State.expandRoute (s : State) (r : RouteList) : State :=
  let s := (s.regs.filter (fun e => Reg.fabWay 0 ≤ e.1 ∧ e.1 ≤ Reg.fabWay 4095)).foldl
    (fun s e => s.setWay r.plane ((e.1 - Reg.fabWay 0) / 4) 0 0) s
  let line := routeLine r
  let i := line.findIdx (fun e => e.1 == s.uid)
  if line.length ≤ i then s
  else
    let uidAt (k : Nat) : Nat := (line.getD k (0, 0)).1
    let down := if i = 0 then 0 else s.maskTo r.plane (uidAt (i - 1))
    let up := if i + 1 < line.length then s.maskTo r.plane (uidAt (i + 1)) else 0
    let s := (List.range line.length).foldl (fun s j =>
      let id := (line.getD j (0, 0)).2
      if j = i ∨ id = 0 then s
      else if j < i then s.setWay r.plane id down (i - j)
      else s.setWay r.plane id up (j - i)) s
    s.setWay r.plane broadcast (down ||| up) (max i (line.length - 1 - i))

/-- Nodes of the last survey, by unique ID and node ID, this node apart. -/
def State.surveyed (s : State) : List (Nat × Nat) :=
  let all := s.fab.routes.flatMap RouteList.order
  (all.foldl (fun acc e => if acc.contains e then acc else acc ++ [e]) []).filter (fun e => e.1 ≠ s.uid)

/-- A node ID present in the last survey. -/
def State.knowsNode (s : State) (n : Nat) : Bool :=
  decide (n ≠ 0) && (s.nodeId == n || s.surveyed.any (fun e => e.2 == n))

/-- Scheduled transmission stops, or goes on, on plane `pl`, with TT_MISMATCH where it stops (R485). -/
def State.stopPlane (s : State) (pl : Nat) (b : Bool) : State :=
  let v := s.fab.cyc
  let was := if pl = 0 then v.stopX else v.stopY
  let s := s.setFabCyc (if pl = 0 then { v with stopX := b } else { v with stopY := b })
  (if b ∧ ¬ was then s.raise 0x0F08 [] else s).showFab

/-- A route list comes into force (R482, R484, R485). -/
def State.takeRoute (s : State) (r : RouteList) : State :=
  let s := s.setFab { s.fab with routes := s.fab.routes.filter (fun q => q.plane ≠ r.plane) ++ [r] }
  let s := (s.expandRoute r).setBit Reg.fabStatus (12 + r.plane) r.ring
  let s := s.put Reg.fabNodes 0 12 (s.surveyed.length + 1)
  (s.stopPlane r.plane r.stop).showFab

/-! ### Slots and admission -/

/-- A slot entry (R486). -/
structure Slot where
  index : Nat
  offset : Nat
  length : Nat
  source : Nat
  stream : Nat
  words : Nat
  planes : Nat
  deriving DecidableEq, Repr

/-- Entry `n` of a timetable copy. -/
def slotAt (t : List (Nat × Word)) (n : Nat) : Slot :=
  let a := sparseGet slotReset t (2 * n)
  let b := sparseGet slotReset t (2 * n + 1)
  { index := n, offset := field a 0 21, length := field a 21 11, source := field b 0 12, stream := field b 12 12,
    words := field b 24 6, planes := field b 30 2 }

/-- The indices a copy lists, with slot 0. -/
def listedSlots (t : List (Nat × Word)) : List Nat :=
  t.foldl (fun acc e => if acc.contains (e.1 / 2) then acc else acc ++ [e.1 / 2]) [0]

/-- The valid slots of a copy, in ascending index. -/
def validSlots (t : List (Nat × Word)) : List Slot :=
  ((listedSlots t).map (slotAt t)).filter (fun x => x.planes ≠ 0)

/-- The slot is carried on plane `pl`. -/
def Slot.onPlane (x : Slot) (pl : Nat) : Bool := decide (x.planes / 2 ^ pl % 2 = 1)

/-- A frame on plane `pl` whose end delimiter arrives `arrival` ticks into the cycle comes from the source of a slot with its
stream, no later than that slot's deadline at this node; slot 0 is any surveyor's, and what is not scheduled has no slot
(R488, R501). -/
def State.inSlot (s : State) (pl : Nat) (f : FabFrame) (arrival : Nat) : Bool :=
  let arrives (x : Slot) : Bool := decide (arrival ≤ x.offset + x.length + 90 * s.wayHops f.src pl)
  match f.body with
  | .cycle _ => arrives (slotAt s.fab.active 0)
  | .stream _ => (validSlots s.fab.active).any (fun x =>
      decide (x.index ≠ 0) && x.stream == f.stream && x.source == f.src && x.onPlane pl && arrives x)
  | _ => true

/-- The link directions slot `x` uses on a line, with its h on each: 2k from node k up to k + 1, 2k + 1 down (R488). -/
def Slot.links (x : Slot) (line : List Nat) : List (Nat × Nat) :=
  let i := line.findIdx (fun n => n == x.source)
  if line.length ≤ i then []
  else (List.range (line.length - 1)).map (fun k => if i ≤ k then (2 * k, k - i) else (2 * k + 1, i - 1 - k))

/-- Ticks of a cycle of `c`. -/
def cycleTicks (c : Nat) : Nat := 125 * c

/-- Whether two slots' windows on one link direction are less than 16 ticks apart around the cycle (R490). -/
def windowsMeet (c : Nat) (x : Slot) (hx : Nat) (y : Slot) (hy : Nat) : Bool :=
  let n := cycleTicks c
  let sx := (x.offset + 90 * hx) % n
  let sy := (y.offset + 90 * hy) % n
  decide ((sy + n - sx) % n < x.length + 16) || decide ((sx + n - sy) % n < y.length + 16)

/-- Slots as sent by a surveyor `root`. -/
def rooted (root : Nat) (l : List Slot) : List Slot := l.map (fun x => if x.index = 0 then { x with source := root } else x)

/-- Reason 2 of R490 for slot `n` on one line. -/
def windowsClash (c : Nat) (l : List Slot) (line : List Nat) (x : Slot) : Bool :=
  let mine := x.links line
  l.any (fun y => decide (y.index ≠ x.index) &&
    (y.links line).any (fun e => mine.any (fun m => m.1 == e.1 && windowsMeet c x m.2 y e.2)))

/-- Reason 3: with slot `x` and those of lower index, a link direction is more than 90 % in use. -/
def crowded (c : Nat) (l : List Slot) (line : List Nat) (x : Slot) : Bool :=
  (x.links line).any (fun m =>
    let load := (l.filter (fun y => decide (y.index ≤ x.index) && (y.links line).any (fun e => e.1 == m.1))).foldl
      (fun acc y => acc + y.length + 16) 0
    decide (9 * cycleTicks c < 10 * load))

/-- The reason for which slot `x` fails on plane `pl`, among the lines the plane can form and the two possible senders of
slot 0 (R490) (log entry 74, DEDUCED). -/
def slotFailure (c : Nat) (nodes roots : List Nat) (lines : List (List Nat)) (all : List Slot) (x : Slot) : Option Nat :=
  let w32 := 4 * x.words + 27
  if cycleTicks c < x.offset + x.length ∨ 64 * x.length < 2 * 32 * w32 + 7040 then some 1
  else if x.index ≠ 0 ∧ ¬ nodes.contains x.source then some 4
  else if lines.any (fun ln => roots.any (fun root => (rooted root all).any (fun y =>
      y.index == x.index && windowsClash c (rooted root all) ln y))) then some 2
  else if lines.any (fun ln => roots.any (fun root => (rooted root all).any (fun y =>
      y.index == x.index && crowded c (rooted root all) ln y))) then some 3
  else none

/-- The first failing slot of a copy with its plane and reason, over the planes of `planes` (R490) (log entry 74,
DEDUCED). -/
def State.admit490 (s : State) (routes : List RouteList) (t : List (Nat × Word)) (c : Nat) (planes : List Nat) :
    Option (Nat × Nat × Nat) :=
  let nodes := (routes.flatMap RouteList.order).map Prod.snd
  let roots := [s.surveyorId] ++ (if s.fld Reg.fabNodes 12 12 = 0 then [] else [s.fld Reg.fabNodes 12 12])
  let slots := validSlots t
  slots.findSome? (fun x => planes.findSome? (fun pl =>
    if x.onPlane pl then
      let lines := (routes.filter (fun r => r.plane == pl)).flatMap routeLines
      (slotFailure c nodes roots lines (slots.filter (fun y => y.onPlane pl)) x).map (fun r => (x.index, pl, r))
    else none))

/-! ### The timetable's copies -/

/-- CRC-32C over the cycle word and the 4,096 entries (R496). -/
def tableCrc (c : Nat) (t : List (Nat × Word)) : Word :=
  crc32c (wordBytes (word c) ++ (List.range 8192).flatMap (fun k => wordBytes (sparseGet slotReset t k)))

/-- FAB_TT_CRC_A and FAB_TT_CRC_S follow the copies. -/
def State.showCrcs (s : State) : State :=
  (s.wr Reg.fabTtCrcA (tableCrc s.activeCycle s.fab.active)).wr Reg.fabTtCrcS
    (tableCrc (s.fld Reg.fabTtCycle 0 14) s.fab.shadow)

/-- Entry words written into a copy. -/
def writeEntries (t : List (Nat × Word)) (l : List (Nat × Word)) : List (Nat × Word) :=
  l.foldl (fun t e => sparseSet slotReset t e.1 e.2) t

/-- The claims of slots: each slot a copy names a stream in belongs to that stream (R491). -/
def State.claimSlots (s : State) : State :=
  let owned (t : List (Nat × Word)) (n : Nat) : Nat := (slotAt t n).stream
  let keeps (c : Claim) : Bool :=
    decide (c.kind ≠ 6) || decide (c.ownerKind ≠ 0x0A) || decide (owned s.fab.active c.granule = c.ownerIdx)
      || decide (owned s.fab.shadow c.granule = c.ownerIdx)
  let s := { s with ledger := s.ledger.filter keeps }
  let claim (s : State) (n st : Nat) : State :=
    if n = 0 ∨ st = 0 then s
    else s.addClaim ({ kind := 6, granule := n, ownerKind := 0x0A, ownerIdx := st } : Claim)
  let s := (listedSlots s.fab.active).foldl (fun s n => claim s n (owned s.fab.active n)) s
  (listedSlots s.fab.shadow).foldl (fun s n => claim s n (owned s.fab.shadow n)) s

/-- Changed entries and cycle reach the shadow (R493). -/
def State.writeShadow (s : State) (l : List (Nat × Word)) (c : Option Nat) : State :=
  let s := s.setFab { s.fab with shadow := writeEntries s.fab.shadow l }
  let s := match c with | some c => s.put Reg.fabTtCycle 0 14 c | none => s
  s.claimSlots.showCrcs

/-- Every node of the last survey has confirmed the distribution (R493). -/
def State.distDone (s : State) (d : TtDist) : Bool :=
  s.surveyed.all (fun e => e.2 == 0 || d.confirmed.contains e.2)

/-- A shadow FIX of this node is distributed through the surveyor (R493). -/
def State.startDist (s : State) (p : Packet) (l : List (Nat × Word)) (c : Option Nat) : State :=
  let s := s.writeShadow l c
  let d : TtDist := { packet := p, confirmed := [], start := s.tick }
  let s := s.setTt { s.fab.tt with dist := some d, again := [] }
  if s.isSurveyor then s.sendFab broadcast (.timetable (.shadow s.nodeId l c))
  else s.sendFab s.surveyorId (.timetable (.change false l c))

/-- A direct write with boundary D reaches the node: the shadow has it at once (R495). -/
def State.takeDirect (s : State) (l : List (Nat × Word)) (d : Nat) : State :=
  let p := match s.fab.tt.direct with | some v => v.packet | none => none
  let v : TtDirect := { boundary := d, entries := l, late := false, packet := p }
  (s.writeShadow l none).setTt { (s.writeShadow l none).fab.tt with direct := some v }

/-- The surveyor announces D = C + 8 (R495). -/
def State.announceDirect (s : State) (l : List (Nat × Word)) : State :=
  let d := (s.rd Reg.fabCycle).toNat + 8
  (s.takeDirect l d).sendFab broadcast (.timetable (.direct l d))

/-- A direct FIX of this node (R495). -/
def State.startDirect (s : State) (p : Packet) (l : List (Nat × Word)) : State :=
  let v : TtDirect := { boundary := 0, entries := l, late := false, packet := some p }
  let s := s.setTt { s.fab.tt with direct := some v }
  if s.isSurveyor then s.announceDirect l else s.sendFab s.surveyorId (.timetable (.change true l none))

/-- The oldest accepted set with a timetable part to distribute goes out, one set at a time (R434, R493, R495) (log
entry 76, DEDUCED). -/
def State.startTables (s : State) : State :=
  if s.fab.tt.dist ≠ none ∨ s.fab.tt.direct ≠ none then s
  else
    match s.fixes.findSome? (fun x => x.table.map (fun t => (x.packet, t))) with
    | none => s
    | some (p, t) => if t.direct then s.startDirect p t.entries else s.startDist p t.entries t.cycle

/-- A distribution or a direct write of packet `p` has ended: its FIX goes on, and the next one begins. -/
def State.endTable (s : State) (p : Packet) : State := (s.tableDone p).closeFixes.startTables

/-- The distribution ends: nodes that have not confirmed are sent the shadow again later, and the FIX goes on (R493). -/
def State.endDist (s : State) : State :=
  match s.fab.tt.dist with
  | none => s
  | some d =>
    let late := (s.surveyed.map Prod.snd).filter (fun n => n ≠ 0 ∧ ¬ d.confirmed.contains n)
    (s.setTt { s.fab.tt with dist := none, again := late }).endTable d.packet

/-- A direct write has reached the active copy (R495). -/
def State.endDirect (s : State) : State :=
  match s.fab.tt.direct with
  | none => s
  | some d =>
    let s := s.setTt { s.fab.tt with direct := none }
    match d.packet with
    | some p => s.endTable p
    | none => s.startTables

/-- Slot `n` of the active copy is in progress at the end of a cycle: its window on some link of its planes reaches past
it (R495). -/
def State.inProgress (s : State) (n : Nat) : Bool :=
  let x := slotAt s.fab.active n
  [0, 1].any (fun pl => x.onPlane pl && (match s.route pl with
    | some r => (x.links ((routeLine r).map Prod.snd)).any (fun e =>
        decide (cycleTicks s.activeCycle < x.offset + x.length + 90 * e.2))
    | none => false))

/-- Both planes are judged again where scheduled transmission had stopped (R485). -/
def State.liftStops (s : State) : State :=
  [0, 1].foldl (fun s pl =>
    let stopped := if pl = 0 then s.fab.cyc.stopX else s.fab.cyc.stopY
    if stopped ∧ s.admit490 s.fab.routes s.fab.active s.activeCycle [pl] = none then s.stopPlane pl false else s) s

/-! ### Streams -/

def State.setSub (s : State) (j : Nat) (v : FabSub) : State :=
  s.setFab { s.fab with subs := sparseSet (fun _ => FabSub.idle) s.fab.subs j v }

/-- FAB_SUBj_CFG fields: enabled, kind (0 RIO, 1 SAFE, 2 USER), stream. -/
def State.subOn (s : State) (j : Nat) : Bool := s.bit (Reg.fabSubCfg j) 0
def State.subKind (s : State) (j : Nat) : Nat := s.fld (Reg.fabSubCfg j) 1 2
def State.subStream (s : State) (j : Nat) : Nat := s.fld (Reg.fabSubCfg j) 3 12

/-- A copy of a RIO or USER stream on plane `pl` is valid for subscription `j` (R501): in its slot, with a new seq;
plane X's copy of a cycle is used before plane Y's. A valid frame also enters the subscription's ring (log entry 75,
DEDUCED). -/
def State.takeCopy (s : State) (j pl : Nat) (f : FabFrame) (bytes : List Byte) (inSlot : Bool) : State :=
  let v := s.subAt j
  if inSlot ∧ v.ref ≠ some f.seq then
    if pl = 0 ∨ ¬ v.got then
      let first := !v.got
      let s := s.setSub j { v with value := bytes, gotX := v.gotX || pl == 0, got := true }
      let s := (s.put (Reg.fabSubStat j) 16 16 f.seq).put (Reg.fabSubStat j) 2 1 pl
      let s := s.put (Reg.fabSubStat j) 8 8 0
      let s := if s.bit (Reg.fabSubStat j) 1 then s else s.setBit (Reg.fabSubStat j) 0 true
      if first ∧ s.bit (Reg.fabSubCfg j) 15 then s.offer (50 + s.fld (Reg.fabSubCfg j) 16 3) (inlineDescs bytes.length) bytes
      else s
    else s
  else s

/-- A stream frame reaches its subscriptions; safe ones are passed to SAFE copy by copy (R503). -/
def State.takeStream (s : State) (pl : Nat) (f : FabFrame) (bytes : List Byte) (inSlot : Bool) : State :=
  (List.range 256).foldl (fun s j =>
    if s.subOn j ∧ s.subStream j = f.stream then
      if s.subKind j = 1 then
        let w := leAt bytes 0 2
        let node := w % 2 ^ 12
        let stream := w / 2 ^ 12
        if (List.range 16).any (fun r => s.bit (Reg.safeRxCfg r) 0 && s.fld (Reg.safeRxCfg r) 1 12 == node
            && s.fld (Reg.safeRxCfg r) 13 4 == stream) then
          s.takeSafeFrame pl node stream (leAt bytes 2 2) (word (leAt bytes 4 4)) (word (leAt bytes 8 4)) inSlot
        else s
      else s.takeCopy j pl f bytes inSlot
    else s) s

/-- A fabric cycle ends: each subscription's run of cycles with or without a valid copy (R502). -/
def State.endSubs (s : State) : State :=
  (List.range 256).foldl (fun s j =>
    if s.subOn j ∧ s.subKind j ≠ 1 then
      let v := s.subAt j
      let age := s.fld (Reg.fabSubStat j) 8 8
      let s := s.setSub j
        { v with ref := if v.got then some (s.fld (Reg.fabSubStat j) 16 16) else v.ref, gotX := false, got := false,
                 missed := if v.got then 0 else v.missed + 1, run := if v.got then v.run + 1 else 0 }
      s.put (Reg.fabSubStat j) 8 8 (if v.got then 1 else min 255 (age + 1))
    else s) s

/-! ### Secondary values and grants at a module -/

/-- Secondary values reach the module (R55 to R58, R504). -/
def State.takeSecondary (s : State) (sect : Nat) (offset : Word) (corr : List (Nat × Word)) : State :=
  if s.bit Reg.fabSecCfg 0 ∧ s.section = sect then
    let v := s.modes.second
    let c := match corr.find? (fun e => e.1 == s.nodeId) with | some e => e.2 | none => v.corr
    ({ s with modes := { s.modes with second :=
      { v with offset := offset, corr := c, missed := 0, got := true, lost := false } } }).put
      Reg.fabSecStat 0 8 0
  else s

/-- A grant for `sect` goes to `node`; BS_GRANTED on the grantee (R505). -/
def State.takeGrant (s : State) (sect node : Nat) : State :=
  if node = s.nodeId ∧ node ≠ 0 ∧ sect = s.section ∧ ¬ s.bit Reg.fabSecStat 8 then (s.setGrant true).raise 0x0F0D [] else s

/-- At the end of a fabric cycle the surveyor grants each section without a standing grant to the lowest requesting node
(R73, R505). -/
def State.decideGrants (s : State) : State :=
  let v := s.fab.second
  let s := s.setFab { s.fab with second := { v with requests := [] } }
  v.requests.foldl (fun s q =>
    let low := v.requests.all (fun r => r.1 ≠ q.1 || decide (q.2 ≤ r.2))
    if low ∧ ¬ s.fab.second.grants.any (fun g => g.1 == q.1) then
      let s := s.setFab { s.fab with second := { s.fab.second with grants := s.fab.second.grants ++ [q] } }
      (s.sendFab broadcast (.grant q.1 q.2)).takeGrant q.1 q.2
    else s) s

/-! ### Node reads -/

/-- The words a BAR2 read of this node returns (R6, R20, R419): registers without clearing, shared SRAM, all ones where
nothing is assigned and at an address that is not word-aligned. A marked page faults and no rule gives the word: it is
free (log entry 66, DEDUCED). -/
def State.bar2Word (s : State) (a : Nat) : Word :=
  if a % 4 ≠ 0 then word 0xFFFFFFFF
  else if a < memSize then (if s.pageMarked a then s.freshWord.1 else bytesWord (s.rdBytes a 4))
  else if inBlocks a then s.readReg a else word 0xFFFFFFFF

/-- Whether device addresses from `a` on hold `n` words (R20). -/
def deviceRange (a n : Nat) : Bool :=
  decide (a % 4 = 0) && ((decide (a < memSize) && decide (a + 4 * n ≤ memSize)) || (inBlocks a && inBlocks (a + 4 * n - 4)))

/-- Node reads that satisfy `p` end with a status and payload (R507). -/
def State.endReads (s : State) (p : NodeRead → Bool) (st : Status) (payload : List Byte) : State :=
  let l := s.fab.reads.filter p
  let s := s.setFab { s.fab with reads := s.fab.reads.filter (fun r => !p r) }
  l.foldl (fun s r => s.finishLate 0x0701 r.packet st payload) s

/-! ### Registers -/

/-- A FAB register other than the timetable's takes its fixed value (R508) (log entry 36, DEDUCED). -/
def State.applyFab (s : State) (a : Nat) (v : Word) : State :=
  let changed := s.rd a ≠ v
  let s := s.wrRw a v
  if changed ∧ Reg.fabSubCfg 0 ≤ a ∧ a < Reg.fabSubCfg 256 then
    let j := (a - Reg.fabSubCfg 0) / 8
    (s.setSub j FabSub.idle).wr (Reg.fabSubStat j) 0
  else if changed ∧ Reg.fabPubCfg 0 ≤ a ∧ a < Reg.fabPubCfg 64 then
    let i := (a - Reg.fabPubCfg 0) / 4
    s.setFab { s.fab with pubs := sparseSet (fun _ => FabPub.idle) s.fab.pubs i FabPub.idle }
  else s

end Sys2Proof.Machine
end

