-- ==== Sys2Proof/Machine/FabRows.lean ====
section
/-! DEFINITION. Commands and events of the fabric (R472 to R507): links, frames, the survey, the timetable, cycles, streams,
secondary control, and the opcodes 0x07xx. A row of a wait takes place when the wait has passed; module ticks of 1 ms
measure the waits. -/

namespace Sys2Proof.Machine

open F32

/-! ### Links -/

/-- The fields of MEM_FAULT_INFO for a fabric link (R558). -/
def linkInfo (lasting : Bool) : Word :=
  ({ region := 7, addr := 0, ctx := systemCtx, dma := false, channel := 0, marks := false, burst := none } : Retry).info lasting

/-- A change of the node's links is reported to the surveyor at once (R484). -/
def State.reportLinks (s : State) : State :=
  if s.isSurveyor then (s.keepReport s.ownReport).setSurveying true
  else if s.surveyorId ≠ 0 then s.sendFab s.surveyorId (.report s.ownReport)
  else s

/-- The link of port `p` is lost (R478): the port goes to state `st`, LINK_DOWN, and the work that used it is discarded. -/
def State.dropLink (s : State) (p st : Nat) : State :=
  let s := (s.put (Reg.fabPortStat p) 0 2 st).put (Reg.fabPortStat p) 4 12 0
  let s := (s.setBit Reg.fabStatus (8 + p) false).setPort p { s.port p with uid := 0, hello := none, again := s.tick + 1 }
  ((s.raise 0x0F01 []).endReads (fun r => r.port == p) .discarded []).reportLinks

/-- The link of port `p` is marked down for a lasting fault; the third mark within 60 s holds the port (R33, R476,
R478) (log entry 71, DEDUCED). -/
def State.markLink (s : State) (p : Nat) : State :=
  let s := s.raiseLasting 0x0F (word p) (linkInfo true)
  let marks := s.tick :: (s.port p).marks.filter (fun t => s.tick < t + 60000)
  let s := s.setPort p { s.port p with marks := marks, held := decide (3 ≤ marks.length) }
  (s.put (Reg.fabPortStat p) 16 4 (min 15 marks.length)).dropLink p 3

/-- FAB_PORTp_STAT marks counts the marks of the last 60 s. -/
def State.showMarks (s : State) : State :=
  (List.range 4).foldl (fun s p =>
    let v := s.port p
    if v.marks = [] then s
    else
      let marks := v.marks.filter (fun t => s.tick < t + 60000)
      (s.setPort p { v with marks := marks }).put (Reg.fabPortStat p) 16 4 (min 15 marks.length)) s

/-- A qualified link of port `p` comes up with delay `delay` (R472, R479, R484). -/
def State.qualify (s : State) (p delay : Nat) : State :=
  let s := ((s.put (Reg.fabPortStat p) 0 2 2).put (Reg.fabPortDelay p) 0 10 delay).setBit Reg.fabStatus (8 + p) true
  let s := (s.setPort p { s.port p with hello := none }).raise 0x0F00 []
  if s.hasSurveyor then s.setSurvey { s.fab.survey with reportDue := true }
  else if s.bit Reg.fabCfg 0 then
    ((s.setSurvey { s.fab.survey with bestTick := s.tick }).setSurveying true).floodClaim 4
  else s

/-- The link of port `p` is refused, and tried again after 1 s (R472). -/
def State.refuseLink (s : State) (p : Nat) : State :=
  ((s.put (Reg.fabPortStat p) 0 2 0).setPort p { s.port p with again := s.tick + 1000 }).raise 0x0F02 []

/-- LINK_UP (R472): training has completed and 1 ms of error-free idle has passed; the link is refused where its delay
exceeds 320 ns or the far port belongs to the other plane. -/
def execLinkUp (p delay : Nat) (samePlane : Bool) (s : State) : Host.Outcome State Fault Refusal :=
  .next (if p < 4 ∧ s.fabClock ∧ s.portState p < 2 ∧ (s.port p).again ≤ s.tick then
    if delay ≤ 320 ∧ samePlane then s.qualify p delay else s.refuseLink p
  else s)

/-- LINK_DOWN (R478): a link is lost physically. -/
def execLinkDown (p : Nat) (s : State) : Host.Outcome State Fault Refusal :=
  .next (if s.portUp p then s.dropLink p 0 else s)

/-- PORT_RETRY (R478): 1 s after its mark a port that is not held tries to qualify again (log entry 71, DEDUCED). -/
def execPortRetry (p : Nat) (s : State) : Host.Outcome State Fault Refusal :=
  .next (if p < 4 ∧ s.portState p = 3 ∧ ¬ (s.port p).held ∧ (s.port p).marks.head?.getD 0 + 1000 ≤ s.tick then
    s.put (Reg.fabPortStat p) 0 2 1 else s)

/-- The effect of a write to FAB_PORTp_CMD (R478). -/
def State.clearPort (s : State) (p : Nat) (v : Word) : State :=
  if field v 0 1 = 1 then s.setPort p { s.port p with held := false } else s

/-! ### Forwarding -/

/-- Ports a received frame goes on to: those the waymark table gives on its plane; for a survey frame without an entry, the
plane's other port; HELLO goes one hop only and CLAIM follows R480 (R475). -/
def State.onward (s : State) (p : Nat) (f : FabFrame) : List Nat :=
  let pl := p / 2
  let mine := decide (f.dst = s.nodeId) && decide (s.nodeId ≠ 0)
  let other := 2 * pl + (1 - p % 2)
  match f.body with
  | .hello .. | .claim .. | .other => []
  | b =>
    if mine then []
    else
      let way := s.wayPorts f.dst pl
      if s.hasRoutes ∧ way ≠ [] ∧ ¬ (isSurvey b ∧ f.dst = broadcast) then way.filter (fun q => q ≠ p)
      else if isSurvey b then [other] else []

/-- A forwarded copy leaves with one hop fewer, and is counted by port (R475, R564) (log entry 69, DEDUCED). -/
def State.passOn (s : State) (p : Nat) (f : FabFrame) (aborted : Bool) : State :=
  (s.onward p f).foldl (fun s q =>
    if s.portUp q then (s.sendOn { f with hops := f.hops - 1 } aborted false q).countSource (0x8240 + q) 1 else s) s

/-- A frame is dropped and counted (R475). -/
def State.dropFrame (s : State) : State := s.countUp Reg.fabErr 16 16 1

/-! ### Consumption -/

/-- A HELLO: the neighbour's ID and unique ID, and its keys; a node without an ID that hears a surveyed neighbour reports
(R479, R484). -/
def State.takeHello (s : State) (p key id best : Nat) : State :=
  let s := (s.put (Reg.fabPortStat p) 4 12 id).setPort p { s.port p with uid := key % 2 ^ 64 }
  let s := if id ≠ 0 ∧ s.nodeId = 0 then s.setSurvey { s.fab.survey with reportDue := true } else s
  (s.hearKey key p).hearKey best p

/-- SURVEY start: a node with a lower key answers with a CLAIM, and the election runs again; another node reports (R480,
R481). -/
def State.takeStart (s : State) (src key : Nat) : State :=
  if s.ownKey < key ∧ s.bit Reg.fabCfg 0 then
    let v := s.fab.survey
    ((s.setSurvey { v with best := none, second := some key, bestTick := s.tick }).setSurveying true).floodClaim 4
  else
    let v := s.fab.survey
    let s := ((s.setBit Reg.fabStatus 1 false).put Reg.fabNode 12 12 src).setSurveying true
    s.setSurvey { v with best := some key, reportDue := true }

/-- A confirmation (R482, R493) (log entry 73, DEDUCED). -/
def State.takeConfirm (s : State) (src subject plane : Nat) (right : Bool) : State :=
  if ¬ right then s
  else if subject = 1 then
    let v := s.fab.survey
    if s.isSurveyor then s.setSurvey { v with confirmed := (plane, src) :: v.confirmed } else s
  else if subject = 2 then
    match s.fab.tt.dist with
    | some d =>
      let d : TtDist := { d with confirmed := src :: d.confirmed }
      let s := s.setTt { s.fab.tt with dist := some d }
      if s.distDone d then s.endDist else s
    | none => s
  else s

/-- A timetable frame (R493 to R496). -/
def State.takeTimetable (s : State) (src : Nat) (m : TtMsg) : State :=
  match m with
  | .ask =>
    if s.isSurveyor then
      s.sendFab src (.timetable (.whole s.fab.active s.fab.shadow s.activeCycle (s.fld Reg.fabTtCycle 0 14)))
    else s
  | .whole a sh ca cs =>
    let s := s.setFab { s.fab with active := a, shadow := sh }
    ((s.put Reg.fabTtStat 0 14 ca).put Reg.fabTtCycle 0 14 cs).claimSlots.showCrcs
  | .change direct l c =>
    if ¬ s.isSurveyor then s
    else if direct then s.announceDirect l
    else ((s.writeShadow l c).sendFab broadcast (.timetable (.shadow src l c))).sendFab src (.confirm 2 0 true)
  | .shadow fixer l c =>
    if fixer = s.nodeId then s else (s.writeShadow l c).sendFab fixer (.confirm 2 0 true)
  | .direct l d => (s.takeDirect l d).sendFab src (.confirm 3 0 true)
  | .swap =>
    if s.isSurveyor ∧ s.fab.tt.swap = none then
      (s.setTt { s.fab.tt with swap := some ((s.rd Reg.fabCycle).toNat + 16) }).setBit Reg.fabTtStat 15 true
    else s
  | .reset => if s.bit Reg.fabTtStat 15 then s else s.resetShadow

/-- A node read from another node: the words, or NOT_PERMITTED where remote_read is 0 (R507). -/
def State.serveRead (s : State) (src tag a n : Nat) : State :=
  if s.bit Reg.fabCfg 1 then
    s.sendFab src (.readReply tag 0 ((List.range n).map (fun k => s.bar2Word (a + 4 * k))))
  else s.sendFab src (.readReply tag Status.notPermitted.code [])

/-- The answer to this node's read. -/
def State.takeReply (s : State) (src tag st : Nat) (ws : List Word) : State :=
  let mine (r : NodeRead) : Bool := r.tag == tag && r.node == src
  if st = 0 then s.endReads mine .ok (wordsBytes ws) else s.endReads mine .notPermitted []

/-- A SECONDARY report reaches the surveyor: the node's latest of the period counts. -/
def State.keepSecReport (s : State) (r : SecReport) : State :=
  let v := s.fab.second
  s.setFab { s.fab with second := { v with reports := v.reports.filter (fun q => q.node ≠ r.node) ++ [r] } }

/-- A frame is consumed by its type. -/
def State.consumeFrame (s : State) (p : Nat) (f : FabFrame) (inSlot : Bool) : State :=
  let pl := p / 2
  match f.body with
  | .hello k id best => s.takeHello p k id best
  | .claim k => s.hearKey k p
  | .start k => s.takeStart f.src k
  | .again => if s.isSurveyor then s.startReports else s
  | .assign ids surveyor deputy => s.takeAssignment ids surveyor deputy
  | .done =>
    let v := s.fab.survey
    let s := (s.setSurvey { v with cmds := [] }).setSurveying false
    v.cmds.foldl (fun s c => s.finishLate 0x0702 c .ok []) s
  | .route r => (s.takeRoute r).sendFab s.surveyorId (.confirm 1 r.plane true)
  | .cycle c =>
    if inSlot then
      s.setFabCyc (if pl = 0 then { s.fab.cyc with x := some (f.src, c) } else { s.fab.cyc with y := some (f.src, c) })
    else s
  | .stream bs => s.takeStream pl f bs inSlot
  | .secReport sect a b c d =>
    if s.isSurveyor then s.keepSecReport { node := f.src, sect := sect, rating := a, omega := b, q := c, target := d } else s
  | .secValue sect off corr => s.takeSecondary sect off corr
  | .grantRequest sect => if s.isSurveyor then s.takeRequest sect f.src else s
  | .grant sect node => s.takeGrant sect node
  | .sectionLive sect => if s.isSurveyor then s.endGrants (fun g => g.1 == sect) else s
  | .grantLeft => if s.isSurveyor then s.endGrants (fun g => g.2 == f.src) else s
  | .timetable m => s.takeTimetable f.src m
  | .readReq tag a n => s.serveRead f.src tag a n
  | .readReply tag st ws => s.takeReply f.src tag st ws
  | .report r => if s.isSurveyor then (s.keepReport r).setSurveying true else s
  | .confirm subject plane right => s.takeConfirm f.src subject plane right
  | .other => s

/-- A frame whose check has passed is passed on where its waymark says and consumed where it is this node's (R475, R477,
R479) (log entry 19, DESIGN CHOICE). -/
def State.takeFrame (s : State) (p : Nat) (f : FabFrame) (aborted inSlot : Bool) : State :=
  let on := s.onward p f
  let s := if on = [] then s else if f.hops ≤ 1 then s.dropFrame else s.passOn p f aborted
  let mine : Bool := (f.dst = s.nodeId ∧ s.nodeId ≠ 0) ∨ f.dst = broadcast
  if aborted ∨ ¬ mine then s else s.consumeFrame p f inSlot

/-- FAB_FRAME_RECEIVED (R475, R477, R488): a frame that passes its check arrives on port `p`; its end delimiter comes
`arrival` CLK_FAB ticks after the start of the cycle whose slot it fills. One that ends in an abort is discarded and its
abort forwarded. -/
def execFabFrameReceived (p : Nat) (f : FabFrame) (aborted : Bool) (arrival : Nat) (s : State) : Host.Outcome State Fault Refusal :=
  .next (if ¬ s.portUp p then s
  else if f.body = .other ∨ (s.nodeId ≠ 0 ∧ f.src = s.nodeId) then s.dropFrame
  else if ¬ isSurvey f.body ∧ ¬ s.hasRoutes ∧ f.dst ≠ s.nodeId ∧ f.dst ≠ broadcast then s
  else s.takeFrame p f aborted (s.inSlot (p / 2) f arrival))

/-- FAB_FRAME_CHECK_FAIL (R476): a frame fails its check on port `p`; `copy` is 0 for a first copy, 1 for the copy resent on
this link, 2 for one resent on an earlier link. -/
def execFabFrameCheckFail (p tag copy : Nat) (f : FabFrame) (s : State) : Host.Outcome State Fault Refusal :=
  .next (if ¬ s.portUp p then s
  else
    let s := s.passOn p f true
    match copy with
    | 0 => s.setPort p { s.port p with nak := some (tag % 256) }
    | 1 => s.markLink p
    | _ => s)

/-- NAK_RECEIVED (R31 to R33, R476): the frame with that link tag, if it is among the last 16 and no resent copy, is resent
once; `passes`: the copy passes its check on that link. -/
def execNakReceived (p tag : Nat) (passes : Bool) (s : State) : Host.Outcome State Fault Refusal :=
  .next (if ¬ s.portUp p then s
  else match (s.port p).kept.find? (fun k => k.tag == tag % 256) with
    | some k =>
      if k.copy then s
      else
        let s := s.sendOn k.frame k.aborted true p
        if passes then (s.raiseTransient 0x0F (word p) (linkInfo false)).countUp (Reg.fabPortErr p) 0 16 1
        else s.markLink p
    | none => s)

/-- FRAME_IDLE_STOP (R477): 64 idle symbol times pass inside a frame; its forwarded copy is closed with an abort, and
`stray` symbols that arrive after the stop are discarded and counted (log entry 71, DEDUCED). -/
def execFrameIdleStop (p stray : Nat) (f : FabFrame) (s : State) : Host.Outcome State Fault Refusal :=
  .next (if ¬ s.portUp p then s
  else ((s.passOn p f true).countUp (Reg.fabPortErr p) 16 16 1).countUp Reg.fabErr 0 16 stray)

/-! ### Survey -/

/-- HELLO_SEND (R479): after the random delay of a new link, then every 100 ms. -/
def execHelloSend (p : Nat) (s : State) : Host.Outcome State Fault Refusal :=
  .next (let due : Bool := match (s.port p).hello with | some t => decide (t + 100 ≤ s.tick) | none => true
    if s.portUp p ∧ s.bit Reg.fabCfg 0 ∧ due then
      let s := s.originate broadcast 0 false 1 (.hello s.ownKey s.nodeId s.bestKey) [p]
      s.setPort p { s.port p with hello := some s.tick }
    else s)

/-- BECOME_SURVEYOR (R480): no better claim for 50 ms, and the node's own key is the best it knows. -/
def execBecomeSurveyor (s : State) : Host.Outcome State Fault Refusal :=
  .next (if s.bit Reg.fabCfg 0 ∧ ¬ s.isSurveyor ∧ s.bit Reg.fabStatus 5 ∧ s.bestKey = s.ownKey
      ∧ s.fab.survey.bestTick + 50 ≤ s.tick then
    ((s.setBit Reg.fabStatus 1 true).put Reg.fabNode 12 12 s.nodeId).startReports
  else s)

/-- REPORT_SEND (R481): the report goes to the surveyor after its random delay. -/
def execReportSend (s : State) : Host.Outcome State Fault Refusal :=
  .next (if s.fab.survey.reportDue ∧ s.bit Reg.fabCfg 0 ∧ ¬ s.isSurveyor then
    let s := s.setSurvey { s.fab.survey with reportDue := false }
    s.sendFab (if s.surveyorId = 0 then broadcast else s.surveyorId) (.report s.ownReport)
  else s)

/-- The surveyor judges the active timetable against a new route list (R485), puts it in force and sends it. -/
def State.announceRoute (s : State) (pl : Nat) (routes : List RouteList) : State :=
  match routes.find? (fun r => r.plane == pl) with
  | some r =>
    let stop : Bool := s.admit490 routes s.fab.active s.activeCycle [pl] ≠ none
    let r : RouteList := { r with stop := stop }
    (s.sendFab broadcast (.route r)).takeRoute r
  | none => s

/-- The surveyor assigns the IDs and sends the route lists, with the parting link it chooses on a ring (R481, R482)
(log entry 72, DEDUCED). -/
def State.assignNodes (s : State) (partingX partingY : Nat) : State :=
  let s := s.keepReport s.ownReport
  let v := s.fab.survey
  let ids := assignIds v.reports
  let s := s.setSurvey { v with ids := ids, confirmed := [], waits := true }
  let idOf (u : Nat) : Nat := match ids.find? (fun e => e.1 == u) with | some e => e.2 | none => 0
  let deputy := match v.second with | some k => idOf (k % 2 ^ 64) | none => 0
  let s := s.sendFab broadcast (.assign ids (idOf s.uid) deputy)
  let s := s.takeAssignment ids (idOf s.uid) deputy
  let routes := [s.makeRoute 0 partingX, s.makeRoute 1 partingY]
  (s.announceRoute 0 routes).announceRoute 1 routes

/-- ID_ASSIGNMENT (R481, R482, R485): the report phase ends, or a link or node has been reported since (log entry 70,
DEDUCED). -/
def execIdAssignment (partingX partingY : Nat) (s : State) : Host.Outcome State Fault Refusal :=
  .next (if s.isSurveyor ∧ s.bit Reg.fabStatus 5 ∧ ¬ s.fab.survey.waits then s.assignNodes partingX partingY else s)

/-- Every node has confirmed the route lists of its planes. -/
def State.allConfirmed (s : State) : Bool :=
  s.fab.routes.all (fun r => r.order.all (fun e =>
    e.1 == s.uid || e.2 == 0 || s.fab.survey.confirmed.contains (r.plane, e.2)))

/-- The survey ends, and with it the commands that asked for it (R482, R484). -/
def State.endSurvey (s : State) : State :=
  let v := s.fab.survey
  let s := ((s.setSurvey { v with waits := false, cmds := [] }).setSurveying false).raise 0x0F03 []
  v.cmds.foldl (fun s c => s.finishLate 0x0702 c .ok []) (s.sendFab broadcast .done)

/-- SURVEY_DONE (R482). -/
def execSurveyDone (s : State) : Host.Outcome State Fault Refusal :=
  .next (if s.isSurveyor ∧ s.fab.survey.waits ∧ s.allConfirmed then s.endSurvey else s)

/-- FAB_SURVEY's check and effect (R484). -/
def State.runSurvey (s : State) (p : Packet) : State :=
  if ¬ s.hasSurveyor then s.finish 0x0702 p .notPermitted []
  else
    let v := s.fab.survey
    let s := (s.setSurvey { v with cmds := v.cmds ++ [p] }).pend 0x0702 p
    if s.isSurveyor then s.startReports else s.sendFab s.surveyorId .again

/-- FAB_SURVEY (R484). -/
def execFabSurvey (p : Packet) (s : State) : Host.Outcome State Fault Refusal :=
  .next (s.command 0x0702 p (decide (p.payload = [])) (fun s => s.runSurvey p))

/-- What FAB_STATUS does (R507). -/
def State.runFabStatus (s : State) (p : Packet) : State :=
  s.finish 0x0700 p .ok (wordsBytes ([Reg.fabStatus, Reg.fabNode, Reg.fabNodes, Reg.fabCycle, Reg.fabTtStat,
    Reg.fabPortStat 0, Reg.fabPortStat 1, Reg.fabPortStat 2, Reg.fabPortStat 3].map s.rd))

/-- FAB_STATUS (R507). -/
def execFabStatus (p : Packet) (s : State) : Host.Outcome State Fault Refusal :=
  .next (s.command 0x0700 p (decide (p.payload = [])) (fun s => s.runFabStatus p))

/-! ### Node reads -/

/-- FAB_NODE_READ's checks and effect (R507) (log entry 76, DEDUCED). -/
def State.runNodeRead (s : State) (p : Packet) : State :=
  let node := leAt p.payload 0 2 % 2 ^ 12
  let a := leAt p.payload 4 4
  let n := leAt p.payload 8 2
  if ¬ s.knowsNode node ∨ n = 0 ∨ 256 < n ∨ ¬ deviceRange a n then s.finish 0x0701 p .outOfRange []
  else if node = s.nodeId then
    (if s.bit Reg.fabCfg 1 then s.finish 0x0701 p .ok (wordsBytes ((List.range n).map (fun k => s.bar2Word (a + 4 * k))))
     else s.finish 0x0701 p .notPermitted [])
  else
    let tag := s.fab.seq
    let port := (s.wayPorts node 0 ++ s.wayPorts node 1).head?.getD 4
    let r : NodeRead := { packet := p, tag := tag, node := node, start := s.tick, port := port }
    ((s.setFab { s.fab with reads := s.fab.reads ++ [r] }).pend 0x0701 p).sendFab node (.readReq tag a n)

/-- FAB_NODE_READ (R507). -/
def execFabNodeRead (p : Packet) (s : State) : Host.Outcome State Fault Refusal :=
  .next (s.command 0x0701 p (decide (p.payload.length = 12)) (fun s => s.runNodeRead p))

/-- FAB_NODE_READ_TIMEOUT (R507): no reply within 100 ms to the oldest such read. -/
def execFabNodeReadTimeout (s : State) : Host.Outcome State Fault Refusal :=
  .next (match s.fab.reads.find? (fun r => decide (r.start + 100 ≤ s.tick)) with
    | some r => s.endReads (fun q => q == r) .timeout []
    | none => s)

/-! ### The timetable -/

/-- FAB_TT_SWAP's checks and effect (R494). -/
def State.runSwap (s : State) (p : Packet) : State :=
  match s.leaseCheck 7 0 p with
  | some st => s.finish 0x0703 p st []
  | none =>
    if ¬ s.hasSurveyor then s.finish 0x0703 p .notPermitted []
    else if s.fab.tt.dist ≠ none then s.finish 0x0703 p .busy []
    else if s.fab.shadow = s.fab.active ∧ s.fld Reg.fabTtCycle 0 14 = s.activeCycle then s.finish 0x0703 p .ok []
    else
      let at' := if s.isSurveyor then (s.rd Reg.fabCycle).toNat + 16 else 0
      let s := (s.setTt { s.fab.tt with swap := some at', swapCmd := some p }).setBit Reg.fabTtStat 15 true
      let s := s.pend 0x0703 p
      if s.isSurveyor then s else s.sendFab s.surveyorId (.timetable .swap)

/-- FAB_TT_SWAP (R494). -/
def execFabTtSwap (p : Packet) (s : State) : Host.Outcome State Fault Refusal :=
  .next (s.command 0x0703 p (decide (p.payload = [])) (fun s => s.runSwap p))

/-- The shadow timetable becomes the active one, and the swap's command is answered (R494). -/
def State.swapTables (s : State) (cycle : Nat) : State :=
  let cmd := s.fab.tt.swapCmd
  let s := (s.setTt { s.fab.tt with swap := none, swapCmd := none }).setFab
    { (s.setTt { s.fab.tt with swap := none, swapCmd := none }).fab with active := s.fab.shadow }
  let s := (s.put Reg.fabTtStat 0 14 (s.fld Reg.fabTtCycle 0 14)).setBit Reg.fabTtStat 15 false
  let s := ((s.claimSlots.showCrcs).raise 0x0F07 []).liftStops
  match cmd with
  | some p => s.finishLate 0x0703 p .ok (n32 cycle)
  | none => s

/-- TT_SWAPPED (R494): the boundary of cycle S, before its CYCLE_START (log entry 73, DEDUCED). -/
def execTtSwapped (s : State) : Host.Outcome State Fault Refusal :=
  .next (match s.fab.tt.swap with
    | some cycle => if cycle ≠ 0 ∧ cycle = (s.rd Reg.fabCycle).toNat + 1 then s.swapTables cycle else s
    | none => s)

/-- Entries of a direct write reach the active copy. -/
def State.writeActive (s : State) (l : List (Nat × Word)) : State :=
  ((s.setFab { s.fab with active := writeEntries s.fab.active l }).claimSlots.showCrcs).liftStops

/-- The entries of a direct write take effect but for those whose slots are in progress, which follow one cycle later
(R495). -/
def State.applyDirect (s : State) (v : TtDirect) : State :=
  let held := v.entries.filter (fun e => s.inProgress (e.1 / 2))
  let s := s.writeActive (v.entries.filter (fun e => !s.inProgress (e.1 / 2)))
  if held = [] then s.endDirect
  else s.setTt { s.fab.tt with direct := some { v with entries := held, late := true } }

/-- TT_DIRECT_APPLY (R495): the boundary of cycle D, or of D + 1 for entries whose slots were in progress, before its
CYCLE_START (log entry 73, DEDUCED). -/
def execTtDirectApply (s : State) : Host.Outcome State Fault Refusal :=
  .next (match s.fab.tt.direct with
    | some v =>
      let next := (s.rd Reg.fabCycle).toNat + 1
      if v.boundary ≠ 0 ∧ ¬ v.late ∧ next = v.boundary then s.applyDirect v
      else if v.late ∧ next = v.boundary + 1 then (s.writeActive v.entries).endDirect
      else s
    | none => s)

/-- TT_DISTRIBUTION_TIMEOUT (R493): 200 ms after distribution began. -/
def execTtDistributionTimeout (s : State) : Host.Outcome State Fault Refusal :=
  .next (match s.fab.tt.dist with
    | some d => if d.start + 200 ≤ s.tick then s.endDist else s
    | none => s)

/-! ### Cycles -/

/-- Ports of plane `pl` on the broadcast path. -/
def State.planePorts (s : State) (pl : Nat) : List Nat := s.wayPorts broadcast pl

/-- A scheduled frame of this node leaves on the planes of `planes` on which scheduled transmission runs (R489). -/
def State.sendSlot (s : State) (planes stream seq : Nat) (body : FabBody) : State :=
  let v := s.fab.cyc
  [0, 1].foldl (fun s pl =>
    if planes / 2 ^ pl % 2 = 1 ∧ ¬ (if pl = 0 then v.stopX else v.stopY) then
      let f : FabFrame := { dst := broadcast, src := s.nodeId, sched := true, stream := stream, hops := s.wayHops broadcast pl,
                            seq := seq % 2 ^ 16, body := body }
      (s.planePorts pl).foldl (fun s p => s.sendOn f false false p) s
    else s) s

/-- FAB registers fixed at a fabric cycle boundary (R508) (log entry 36, DEDUCED; log entry 113, DEDUCED). -/
def isFabCycleReg (a : Nat) : Bool :=
  a == Reg.fabCfg || a == Reg.fabSecCfg || decide (Reg.fabPubCfg 0 ≤ a ∧ a < Reg.fabPubCfg 64)
    || decide (Reg.fabSubCfg 0 ≤ a ∧ a < Reg.fabSubCfg 256)

def State.pub (s : State) (i : Nat) : FabPub := sparseGet (fun _ => FabPub.idle) s.fab.pubs i
def State.setPub (s : State) (i : Nat) (v : FabPub) : State :=
  s.setFab { s.fab with pubs := sparseSet (fun _ => FabPub.idle) s.fab.pubs i v }

/-- The sequence count of the safe stream rises by 1 in each fabric cycle while SAFE_TX_CFG is enabled (R303). -/
def State.countSafe (s : State) : State :=
  if s.bit Reg.safeTxCfg 0 then
    (List.range 64).foldl (fun s i =>
      if s.bit (Reg.fabPubCfg i) 0 ∧ s.fld (Reg.fabPubCfg i) 1 2 = 1 then
        s.setPub i { s.pub i with seq := ((s.pub i).seq + 1) % 2 ^ 16 }
      else s) s
  else s

/-- What every cycle boundary does: subscriptions, safe data and grants of the cycle that ends, and fixed registers. -/
def State.cycleBoundary (s : State) : State :=
  ((s.endSubs.safeCycleEnd.countSafe).decideGrants).takeItems isFabCycleReg State.applyFab

/-- Nodes that had not confirmed a distribution are sent the shadow again (R493) (log entry 76, DEDUCED). -/
def State.sendAgain (s : State) : State :=
  let l := s.fab.tt.again
  let s := s.setTt { s.fab.tt with again := [] }
  l.foldl (fun s n => s.sendFab n (.timetable (.shadow s.nodeId s.fab.shadow (some (s.fld Reg.fabTtCycle 0 14))))) s

/-- The surveyor's cycle frame (R498). -/
def State.cycleInfo (s : State) (dt : Nat) : CycleInfo :=
  let ns := s.timeAt dt / 2 ^ 32
  { cycle := (s.rd Reg.fabCycle).toNat, seconds := ns / 1000000000 % 2 ^ 48, ns := ns % 1000000000, state := s.timeState,
    utc := s.fld Reg.netPtpStat 16 16, deputy := s.fld Reg.fabNodes 12 12, activeCrc := s.rd Reg.fabTtCrcA,
    swapAt := s.fab.tt.swap.getD 0, shadowCrc := s.rd Reg.fabTtCrcS,
    directAt := match s.fab.tt.direct with | some d => d.boundary | none => 0 }

/-- The active copy's CRC is judged against the announced one (R496): a node that differs falls silent, raises TT_MISMATCH
and asks for the timetable. -/
def State.judgeCrc (s : State) (c : CycleInfo) : State :=
  let differs : Bool := s.rd Reg.fabTtCrcA ≠ c.activeCrc
  let was := s.bit Reg.fabTtStat 14
  let s := s.setBit Reg.fabTtStat 14 differs
  if differs ∧ ¬ was then (s.raise 0x0F08 []).sendFab s.surveyorId (.timetable .ask) else s

/-- A cycle frame from `src` sets the node's cycle and time (R496, R499, R500). -/
def State.followCycle (s : State) (src dt incNs incFrac : Nat) (c : CycleInfo) : State :=
  let s := (s.wr Reg.fabCycle (word c.cycle)).setBit Reg.fabStatus 3 true
  let s := s.setFabCyc { s.fab.cyc with missed := 0, lost := false }
  let s := (s.put Reg.fabNode 12 12 src).put Reg.fabNodes 12 12 c.deputy
  let s := s.setBit Reg.fabStatus 2 (decide (s.nodeId ≠ 0 ∧ s.nodeId = c.deputy))
  let s := if c.swapAt ≠ 0 then (s.setTt { s.fab.tt with swap := some c.swapAt }).setBit Reg.fabTtStat 15 true else s
  let s := match s.fab.tt.direct with
    | some d => if d.boundary = 0 then s.setTt { s.fab.tt with direct := some { d with boundary := c.directAt } } else s
    | none => s
  let s := if s.timeSource = 3 then
      let theirs : Int := (c.seconds * 1000000000 + c.ns : Nat)
      (s.put Reg.netPtpStat 16 16 c.utc).syncTime (theirs - (s.timeAt dt / 2 ^ 32 : Nat)) incNs incFrac
    else s
  s.judgeCrc c

/-- The surveyor starts a fabric cycle and sends its cycle frame (R498). -/
def State.leadCycle (s : State) (dt : Nat) : State :=
  let s := (s.countWrap Reg.fabCycle 0 32 1).cycleBoundary.sendAgain
  let s := (s.setBit Reg.fabStatus 3 true).showCrcs.showFab
  s.sendSlot 3 0 (s.rd Reg.fabCycle).toNat (.cycle (s.cycleInfo dt))

/-- Another node starts a fabric cycle: it follows the copy of plane X where that is valid, of plane Y otherwise, and runs
on its own timer without one (R499). -/
def State.keepCycle (s : State) (dt incNs incFrac : Nat) : State :=
  let v := s.fab.cyc
  let s := s.setFabCyc { v with x := none, y := none, missed := v.missed + 1 }
  let s := s.showCrcs
  let s := match v.x, v.y with
    | some e, _ | none, some e => s.followCycle e.1 dt incNs incFrac e.2
    | none, none => s.countWrap Reg.fabCycle 0 32 1
  s.cycleBoundary.sendAgain.showFab

/-- CYCLE_START (R498, R499): a fabric cycle starts `dt` CLK_PER ticks after the latest module tick. -/
def execCycleStart (dt incNs incFrac : Nat) (s : State) : Host.Outcome State Fault Refusal :=
  .next (if ¬ s.fabClock then s else if s.isSurveyor then s.leadCycle dt else if s.hasRoutes then s.keepCycle dt incNs incFrac else s)

/-- CYCLE_LOST (R500): 8 consecutive cycles without a valid cycle frame. -/
def execCycleLost (s : State) : Host.Outcome State Fault Refusal :=
  .next (let v := s.fab.cyc
    if ¬ s.isSurveyor ∧ 8 ≤ v.missed ∧ ¬ v.lost then
      let s := ((s.setFabCyc { v with lost := true }).setBit Reg.fabStatus 3 false).raise 0x0F09 []
      (if s.timeSource = 3 then s.loseTime else s).showFab
    else s)

/-- Reports that a new surveyor can take from the route lists in force. -/
def State.routeReports (s : State) : List NodeReport :=
  let all := s.surveyed
  let near (pl u : Nat) : List Nat :=
    match s.route pl with
    | some r =>
      let l := r.order.map Prod.fst
      let n := l.length
      let i := l.findIdx (fun w => w == u)
      if n ≤ i then [0, 0]
      else [if 0 < i then l.getD (i - 1) 0 else if r.ring then l.getD (n - 1) 0 else 0,
            if i + 1 < n then l.getD (i + 1) 0 else if r.ring then l.getD 0 0 else 0]
    | none => [0, 0]
  all.map (fun e => { uid := e.1, fixed := 0, remembered := e.2, neighbours := near 0 e.1 ++ near 1 e.1 })

/-- SURVEYOR_CHANGED (R500): after 3 cycles without a valid cycle frame the deputy becomes surveyor (log entry 72,
DEDUCED). -/
def execSurveyorChanged (s : State) : Host.Outcome State Fault Refusal :=
  .next (let v := s.fab.cyc
    if s.bit Reg.fabStatus 2 ∧ ¬ s.isSurveyor ∧ 3 ≤ v.missed then
      let s := s.setFabCyc { v with missed := 0, lost := false }
      let s := (s.setBit Reg.fabStatus 1 true).setBit Reg.fabStatus 2 false
      let s := (s.put Reg.fabNode 12 12 s.nodeId).put Reg.fabNodes 12 12 0
      let s := s.setSurvey { s.fab.survey with reports := s.routeReports ++ [s.ownReport], second := none, waits := false }
      (s.raise 0x0F04 []).showFab
    else s)

/-- The safe frame of this fabric cycle (R303). -/
def State.safePayload (s : State) (seq : Nat) : List Byte :=
  let b := safeFrame s.nodeId (s.fld Reg.safeTxCfg 1 4) (seq % 2 ^ 16) (s.rd Reg.safeSfState)
  b ++ wordBytes (safeCrc b)

/-- The enabled publication of stream `st`. -/
def State.pubOf (s : State) (st : Nat) : Option Nat :=
  (List.range 64).find? (fun i => s.bit (Reg.fabPubCfg i) 0 && s.fld (Reg.fabPubCfg i) 3 12 == st)

/-- The publication `i` is sent in slot `x`, padded with zeros, and not where it is longer than the slot (R489). The safe
stream's seq is that of the fabric cycle (R303). -/
def State.publish (s : State) (i : Nat) (x : Slot) : State :=
  let v := s.pub i
  let bytes := if s.fld (Reg.fabPubCfg i) 1 2 = 1 then s.safePayload v.seq else v.value
  let size := 4 * x.words
  if size < bytes.length then s.raise 0x0F0C []
  else
    let s := if s.fld (Reg.fabPubCfg i) 1 2 = 1 then s else s.setPub i { v with seq := (v.seq + 1) % 2 ^ 16 }
    s.sendSlot x.planes x.stream v.seq (.stream (bytes ++ List.replicate (size - bytes.length) 0))

/-- This node transmits in valid slot `n`, which is its own. -/
def State.ownSlot (s : State) (n : Nat) : Bool :=
  let x := slotAt s.fab.active n
  decide (1 ≤ n ∧ n < 4096 ∧ x.planes ≠ 0 ∧ s.nodeId ≠ 0 ∧ x.source = s.nodeId) && s.bit Reg.fabCfg 0 && s.hasRoutes
    && s.fabClock && !s.fab.cyc.lost && !s.bit Reg.fabTtStat 14

/-- SLOT_TRANSMIT (R303, R489): the offset of valid slot `n` of this node's own; a safe publication is sent only while the
SAFE transmitter is enabled. -/
def execSlotTransmit (n : Nat) (s : State) : Host.Outcome State Fault Refusal :=
  .next (if s.ownSlot n then
    match s.pubOf (slotAt s.fab.active n).stream with
    | none => s
    | some i =>
      if s.fld (Reg.fabPubCfg i) 1 2 = 1 ∧ ¬ s.bit Reg.safeTxCfg 0 then s else s.publish i (slotAt s.fab.active n)
  else s)

/-- STREAM_LOST (R346, R502): no valid copy for lost_n consecutive cycles. -/
def execStreamLost (j : Nat) (s : State) : Host.Outcome State Fault Refusal :=
  .next (if j < 256 ∧ s.subOn j ∧ s.subKind j ≠ 1 ∧ ¬ s.bit (Reg.fabSubStat j) 1
      ∧ s.fld (Reg.fabSubCfg j) 19 8 ≤ (s.subAt j).missed then
    let s := ((s.setBit (Reg.fabSubStat j) 0 false).setBit (Reg.fabSubStat j) 1 true).raise 0x0F0A []
    if s.subKind j = 0 then s.loseStation j else s
  else s)

/-- STREAM_RETURNED (R346, R502): 2 consecutive cycles with a valid copy. -/
def execStreamReturned (j : Nat) (s : State) : Host.Outcome State Fault Refusal :=
  .next (if j < 256 ∧ s.subOn j ∧ s.bit (Reg.fabSubStat j) 1 ∧ 2 ≤ (s.subAt j).run then
    let s := ((s.setBit (Reg.fabSubStat j) 0 true).setBit (Reg.fabSubStat j) 1 false).raise 0x0F0B []
    if s.subKind j = 0 then s.returnStation j else s
  else s)

/-! ### Secondary control -/

/-- The report of this module to the secondary layer (R504). -/
def State.ownSecReport (s : State) : SecReport :=
  { node := s.nodeId, sect := s.section, rating := rat (s.fld (Reg.laneXfRate0 0) 0 14) 1, omega := s.lane.omegaBf,
    q := s.rd (Reg.laneXfQf s.activeLane), target := s.rd (Reg.lanePgTgt s.activeLane 0) }

/-- The secondary period of this node in ms (R76, R508). -/
def State.secondaryPeriod (s : State) : Nat := s.fld Reg.fabSecCfg 9 7 * 10

/-- A secondary period ends: the module reports to the secondary layer, and a period without a value counts (R58, R504). -/
def State.secondaryReport (s : State) : State :=
  let v := s.modes.second
  let s : State := { s with modes := { s.modes with second :=
    { v with missed := if v.got then 0 else v.missed + 1, got := false, since := s.tick } } }
  let s := if v.got then s else s.countUp Reg.fabSecStat 0 8 1
  let r := s.ownSecReport
  if s.isSurveyor then s.keepSecReport r
  else s.sendFab s.surveyorId (.secReport r.sect r.rating r.omega r.q r.target)

/-- SECONDARY_REPORT_SEND (R58, R504): once per secondary period of a participating module, counted in module ticks (log
entry 76, DEDUCED). -/
def execSecondaryReportSend (s : State) : Host.Outcome State Fault Refusal :=
  .next (if s.bit Reg.fabSecCfg 0 ∧ s.modes.second.since + s.secondaryPeriod ≤ s.tick then s.secondaryReport else s)

/-- Σ S_i·x_i / Σ S_i over the reports of a section (R504), added in the order of reception. -/
def weighted (l : List SecReport) (x : SecReport → Word) : Word :=
  div (l.foldl (fun acc r => add acc (mul r.rating (x r))) zero) (l.foldl (fun acc r => add acc r.rating) zero)

/-- The values of section `z` for its participants `l` (R504): off_z and each c_i. -/
def State.computeSection (s : State) (z : Nat) (l : List SecReport) : Word × List (Nat × Word) :=
  let v := s.fab.second
  let t := rat (s.fld Reg.fabSecCfg 9 7) 100
  let kf := rat (s.fld Reg.fabSecCfg 16 8) 10
  let kq := rat (s.fld Reg.fabSecCfg 24 8) 10
  let off := sparseGet (fun _ => zero) v.off z
  let off := F32.clamp (add off (mul (mul kf (sub (weighted l SecReport.target) (weighted l SecReport.omega))) t))
    (neg (rat 5 100)) (rat 5 100)
  let avg := weighted l SecReport.q
  (off, l.map (fun r =>
    let c := sparseGet (fun _ => zero) v.corr r.node
    (r.node, F32.clamp (add c (mul (mul kq (sub avg r.q)) t)) (neg (rat 2 10)) (rat 2 10))))

/-- The surveyor computes the values of section `z` from its reports and sends them on both planes (R504). -/
def State.secondarySection (s : State) (z : Nat) (l : List SecReport) : State :=
  if l = [] then s
  else
    let (off, cs) := s.computeSection z l
    let v := s.fab.second
    let s := s.setFab { s.fab with second :=
      { v with off := sparseSet (fun _ => zero) v.off z off,
               corr := cs.foldl (fun m e => sparseSet (fun _ => zero) m e.1 e.2) v.corr } }
    (s.sendFab broadcast (.secValue z off cs)).takeSecondary z off cs

/-- SECONDARY_COMPUTE (R55, R504): once per secondary period, counted in module ticks, the surveyor computes each reporting
section's values. -/
def execSecondaryCompute (s : State) : Host.Outcome State Fault Refusal :=
  .next (if s.isSurveyor ∧ s.fab.second.since + s.secondaryPeriod ≤ s.tick then
    (List.range 256).foldl (fun u z => u.secondarySection z (s.fab.second.reports.filter (fun r => r.sect == z)))
      (s.setFab { s.fab with second := { s.fab.second with reports := [], since := s.tick } })
  else s)

end Sys2Proof.Machine
end

