-- ==== Sys2Proof/Machine/Perf.lean ====
section
/-! DEFINITION. Events and PERF (R558 to R571): the merger and the event rings, counters, the contact sheet, bandwidth
windows and fault statistics. -/

namespace Sys2Proof.Machine

/-! ### The merger -/

/-- An event's record (R558). -/
def EventRec.bytes (e : EventRec) (lost : Nat) : List Byte :=
  wordsBytes ([word (e.code % 2 ^ 16), word (min lost 0xFFFF), word e.timeNs, word e.timeSec,
    word (e.timeSec / 2 ^ 32 % 2 ^ 16 + e.timeFrac % 2 ^ 16 * 2 ^ 16)] ++ (e.details ++ [0, 0, 0, 0]).take 4)

/-- One event is offered to event ring `r`, if the ring's filter list matched it when it was raised (R561). -/
def State.writeEvent (s : State) (e : EventRec) (r : Nat) : State :=
  let q := s.ring r
  if s.ringEnabled r ∧ r ∈ e.rings then
    match s.room r 1 with
    | .granted => (s.append r 1 (e.bytes q.lost)).setRing r { (s.append r 1 (e.bytes q.lost)).ring r with lost := 0 }
    | why => (s.dropUnit r why).setRing r { (s.dropUnit r why).ring r with lost := q.lost + 1 }
  else s

/-- The fixed filter of ring 39 (R552, R561): what an event adds to the audit log (log entry 94, DEDUCED). -/
def State.auditEvent (s : State) (e : EventRec) : State :=
  let d := (e.details.getD 0 0).toNat
  let i := e.code % 256
  let b := e.code / 256
  if (b = 4 ∨ b = 5) ∧ i = 0x20 then s.audit 0xFF 0 .modeChange d (e.details.getD 1 0).toNat
  else if (b = 4 ∨ b = 5) ∧ i = 0x40 then s.audit 0xFF 0 .laneChange b d
  else if e.code = 0x0900 then s.audit 0xFF 0 .lockoutLatch d (e.details.getD 1 0).toNat
  else if e.code = 0x0902 then s.audit 0xFF 0 .lockoutRelease 0 0
  else s

/-- The merger writes up to 4 events, in queue order, to every ring whose filter matches; events lost at the merger add to
each ring's lost count first (R560). -/
def State.mergeEvents (s : State) : State :=
  let rings := [32, 33, 34, 35, 36, 37, 38]
  let n := s.evLost
  let s : State := { s with evLost := 0 }
  let s := if n = 0 then s else rings.foldl (fun s r => s.setRing r { s.ring r with lost := (s.ring r).lost + n }) s
  let l := s.evq.take 4
  let s : State := { s with evq := s.evq.drop 4 }
  let s := s.put Reg.perfStatus 0 9 s.evq.length
  l.foldl (fun s e => (rings.foldl (fun s r => s.writeEvent e r) s).auditEvent e) s

/-- EVENT_WRITE (R560). -/
def execEventWrite (s : State) : Host.Outcome State Fault Refusal := .next s.mergeEvents

/-- Why a subscription's ring is refused (R561). -/
def State.eventRingCheck (s : State) (p : Packet) (r : Nat) (countOk : Bool) : Option Status :=
  if r < 32 ∨ 38 < r ∨ ¬ countOk then some .outOfRange
  else if ¬ s.ringEnabled r ∨ s.bit (Reg.memRingCfg r) 24 ∨ s.fld (Reg.memRingCfg r) 17 7 ≠ p.session then
    some .notPermitted
  else none

/-- Ring `r` takes a filter list, shown in PERF_SUBq. -/
def State.setFilters (s : State) (p : Packet) (r : Nat) (l : List (Nat × Nat)) : State :=
  (s.setRing r { s.ring r with filters := l }).wr (Reg.perfSub (r - 32))
    (word (if l = [] then 0 else l.length + p.session % 2 ^ 7 * 2 ^ 6))

/-- EVENT_SUBSCRIBE's checks and effect (R561). -/
def State.runSubscribe (s : State) (p : Packet) : State :=
  let r := leAt p.payload 0 1
  let n := leAt p.payload 2 2
  match s.eventRingCheck p r (decide (1 ≤ n ∧ n ≤ 32)) with
  | some st => s.finish 0x0601 p st []
  | none =>
    let l := (List.range n).map (fun i => (leAt p.payload (4 + 4 * i) 2, leAt p.payload (6 + 4 * i) 2))
    (s.setFilters p r l).finish 0x0601 p .ok []

/-- EVENT_SUBSCRIBE (R561). -/
def execEventSubscribe (p : Packet) (s : State) : Host.Outcome State Fault Refusal :=
  .next (s.command 0x0601 p
    (decide (4 ≤ p.payload.length) && decide (p.payload.length = 4 + 4 * leAt p.payload 2 2))
    (fun s => s.runSubscribe p))

/-- What EVENT_UNSUBSCRIBE does (R561). -/
def State.runUnsubscribe (s : State) (p : Packet) : State :=
  let r := leAt p.payload 0 1
  match s.eventRingCheck p r true with
  | some st => s.finish 0x0602 p st []
  | none => (s.setFilters p r []).finish 0x0602 p .ok []

/-- EVENT_UNSUBSCRIBE (R561). -/
def execEventUnsubscribe (p : Packet) (s : State) : Host.Outcome State Fault Refusal :=
  .next (s.command 0x0602 p (decide (p.payload.length = 4)) (fun s => s.runUnsubscribe p))

/-- What STATUS_READ does (R562). -/
def State.runStatusRead (s : State) (p : Packet) : State :=
  s.finish 0x0600 p .ok (wordsBytes ((List.range 17).flatMap (fun b =>
    [s.readReg (blockBase (b + 1)), s.readReg (blockBase (b + 1) + 4)])))

/-- STATUS_READ (R562). -/
def execStatusRead (p : Packet) (s : State) : Host.Outcome State Fault Refusal :=
  .next (s.command 0x0600 p (decide (p.payload = [])) (fun s => s.runStatusRead p))

/-! ### Counters -/

/-- What COUNTER_READ does (R567). -/
def State.runCounterRead (s : State) (p : Packet) : State :=
  let first := leAt p.payload 0 1
  let n := leAt p.payload 1 1
  if n = 0 ∨ 32 < first + n then s.finish 0x0603 p .outOfRange []
  else s.finish 0x0603 p .ok (wordsBytes ((List.range n).map (fun i => s.rd (Reg.perfCntVal (first + i)))))

/-- COUNTER_READ (R567). -/
def execCounterRead (p : Packet) (s : State) : Host.Outcome State Fault Refusal :=
  .next (s.command 0x0603 p (decide (p.payload.length = 4)) (fun s => s.runCounterRead p))

/-- The effect of a write to PERF_CLEAR (R567). -/
def State.clearCounters (s : State) (v : Word) : State :=
  (List.range 32).foldl (fun s k => if field v k 1 = 1 then s.wr (Reg.perfCntVal k) 0 else s) s

/-- The sample that R564 names for a source, at the capture (R566). What only the access, call, channel, ring, frame or
session itself shows comes with the command. -/
def State.sampleOf (s : State) (src : Nat) (shown : Word) : Word :=
  if src < 0x8001 then s.rd (Reg.laneSample s.activeLane)
  else if src < 0x8003 then s.rd (Reg.laneSample (src - 0x8001))
  else if 0x8010 ≤ src ∧ src < 0x8014 then s.rd (Reg.laneLawSample s.activeLane (src - 0x8010))
  else shown

/-- COUNTER_OVERFLOW (R565, R566): an overflow of counter `k`: PERF_OVF and the event where the bit was 0, and the
sample named for its source. -/
def execCounterOverflow (k : Nat) (sample : Word) (s : State) : Host.Outcome State Fault Refusal :=
  .next (if k < 32 ∧ sparseGet (fun _ => false) s.perf.overflowed k = true then
    let s : State := { s with perf := { s.perf with overflowed := sparseSet (fun _ => false) s.perf.overflowed k false } }
    let s := if s.bit (Reg.perfCntCfg k) 18 then s.wr (Reg.perfCntSample k) (s.sampleOf (s.fld (Reg.perfCntCfg k) 0 16) sample)
      else s
    if s.bit Reg.perfOvf k then s else (s.setBit Reg.perfOvf k true).raise 0x1100 [word k]
  else s)

/-! ### The contact sheet -/

/-- A contact sheet is taken (R568). -/
def State.takeSheet (s : State) : State :=
  let s := (List.range 32).foldl (fun s k => s.wr (Reg.perfCntSnap k) (s.rd (Reg.perfCntVal k))) s
  let s := (List.range 17).foldl (fun s n => s.wr (Reg.perfFsnap (n + 1)) (s.rd (Reg.perfFstat (n + 1)))) s
  let s := (s.wr Reg.perfCsTimeLo (s.rd Reg.netTcLinLo)).put Reg.perfCsTimeHi 0 16 (s.fld Reg.netTcLinHi 0 16)
  let s := s.countWrap Reg.perfCsSeq 0 32 1
  let s := if s.bit Reg.perfCsCfg 5 then (List.range 32).foldl (fun s k => s.wr (Reg.perfCntVal k) 0) s else s
  { s.raise 0x1101 [] with perf := { (s.raise 0x1101 []).perf with sheet := false } }

/-- What CONTACT_SHEET does (R568). -/
def State.runSheet (s : State) (p : Packet) : State :=
  let s := s.takeSheet
  s.finish 0x0604 p .ok (wordsBytes (s.rd Reg.perfCsSeq :: (List.range 32).map (fun k => s.rd (Reg.perfCntSnap k))))

/-- CONTACT_SHEET (R568): the command, or, without a packet, a firing of comparator cs_cmp with cs_trig. -/
def execContactSheet (packet : Option Packet) (s : State) : Host.Outcome State Fault Refusal :=
  .next (match packet with
    | none => if s.perf.sheet then s.takeSheet else s
    | some p => s.command 0x0604 p (decide (p.payload = [])) (fun s => s.runSheet p))

/-! ### Windows -/

/-- BANDWIDTH_WINDOW_END (R570): window `w` ends at a program tick. -/
def execBandwidthWindowEnd (w : Nat) (s : State) : Host.Outcome State Fault Refusal :=
  .next (if w < 16 ∧ s.bit (Reg.perfWinCfg w) 22
      ∧ sparseGet (fun _ => 0) s.perf.since w + s.fld (Reg.perfWinCfg w) 12 10 ≤ s.tick then
    let n := sparseGet (fun _ => 0) s.perf.beats w
    let s := s.wr (Reg.perfWinLast w) (word n)
    let s := s.wr (Reg.perfWinPeak w) (word (max (s.rd (Reg.perfWinPeak w)).toNat n))
    { s with perf := { s.perf with beats := sparseSet (fun _ => 0) s.perf.beats w 0,
                                   since := sparseSet (fun _ => 0) s.perf.since w s.tick } }
  else s)

/-- TRANSIENT_RATE (R569): block `n` reaches rate_thr transients in the running window. -/
def execTransientRate (n : Nat) (s : State) : Host.Outcome State Fault Refusal :=
  .next (let thr := s.fld Reg.perfRateCfg 0 16
    if 1 ≤ n ∧ n ≤ 17 ∧ thr ≠ 0 ∧ thr ≤ sparseGet (fun _ => 0) s.perf.window n ∧ ¬ s.perf.rated.contains n then
      State.raise { s with perf := { s.perf with rated := n :: s.perf.rated } } 0x1102 [word n]
    else s)

/-- At a module tick a new 1 s window of fault statistics begins every 1,000 ticks from the end of start-up (R569). -/
def State.perfTick (s : State) : State :=
  if s.bit Reg.sysStatus 3 ∧ (s.tick - s.perf.epoch) % 1000 = 0 then
    { s with perf := { s.perf with window := [], rated := [] } }
  else s

/-- A PERF register takes its fixed value at a program tick (R571): a changed counter restarts from 0, a changed window at
that tick. -/
def State.applyPerf (s : State) (a : Nat) (v : Word) : State :=
  let changed := s.rd a ≠ v
  let s := s.wrRw a v
  if ¬ changed then s
  else if Reg.perfCntCfg 0 ≤ a ∧ a < Reg.perfCntCfg 32 then s.wr (Reg.perfCntVal ((a - Reg.perfCntCfg 0) / 16)) 0
  else if Reg.perfWinCfg 0 ≤ a ∧ a < Reg.perfWinCfg 16 then
    let w := (a - Reg.perfWinCfg 0) / 16
    let s := s.setBit Reg.perfStatus (16 + w) (s.bit a 22)
    { s with perf := { s.perf with beats := sparseSet (fun _ => 0) s.perf.beats w 0,
                                   since := sparseSet (fun _ => 0) s.perf.since w s.tick } }
  else s

end Sys2Proof.Machine
end

