-- ==== Sys2Proof/Machine/Sys.lean ====
section
/-! DEFINITION. Clocks, supplies and resets (R509 to R534), but for start-up itself. A loss that needs a reset makes a
reset entry due; RESET_ENTRY lowers gate enable and RESET_ASSERT resets the module. -/

namespace Sys2Proof.Machine

def State.setSys (s : State) (v : SysSt) : State := { s with sys := v }

/-- A reset entry with cause `c` is due; of two causes the lower code is recorded (R528). -/
def State.needReset (s : State) (c : Nat) : State :=
  s.setSys { s.sys with due := some (match s.sys.due with | some d => min c d | none => c) }

/-- A lane is switching (R515): a compare unit is not RELEASED, or the gate-enable bus is high. -/
def State.laneSwitching (s : State) : Bool :=
  s.bit Reg.gateStatus 0 || (List.range 48).any (fun c => s.outCmd c != .released)

/-! ### Clocks -/

/-- Fabric and Ethernet links go down as their clocks stop (R511, R516). -/
def State.dropFabLinks (s : State) : State :=
  (List.range 4).foldl (fun s p => if s.portUp p then s.dropLink p 0 else s) s
def State.dropEthLinks (s : State) : State := (s.ethDown 0).ethDown 1

/-- CLK_ETH and CLK_FAB run as SYS_CLK_CFG says (R511). -/
def State.gateClocks (s : State) : State :=
  let eth := !s.bit Reg.sysClkCfg 2
  let fab := !s.bit Reg.sysClkCfg 3
  let s := (s.setBit Reg.sysClkStat 4 eth).setBit Reg.sysClkStat 5 fab
  let s := if eth then s else s.dropEthLinks
  if fab then s else s.dropFabLinks

/-- The outputs are gated off and the domains move to the detour clock (R515, R516): timebases and conversion stop, every
bitstream input is STALE, links go down. -/
def State.stopClocks (s : State) : State :=
  let s := ((s.setBit Reg.sysClkStat 2 false).setBit Reg.sysClkStat 3 true).put Reg.sysClkStat 4 2 0
  let s := (List.range 12).foldl (fun s t => if s.tbRuns t then s.runTb t false else s)
    (s.setBitBoth Reg.pwmStatus 0 false)
  let s := (List.range 16).foldl State.staleInput s.rejudge
  s.dropEthLinks.dropFabLinks

/-- The outputs restart (R515, R517): a new PWM epoch follows where gen_en is set, and each group re-phases. -/
def State.startClocks (s : State) : State :=
  let s := (s.setBit Reg.sysClkStat 2 true).setBit Reg.sysClkStat 3 false
  let s := (s.gateClocks).put Reg.sysClkStat 0 2 (s.fld Reg.sysClkCfg 0 2)
  let s := (List.range 12).foldl State.phaseChange s
  if s.bit (Reg.pwmCtrl 0) 0 then { s with pwm := { s.pwm with epochDue := true } } else s

/-- PLL_UNLOCK (R513, R515, R519): a reset entry follows while a lane is switching, a relock otherwise. -/
def execPllUnlock (s : State) : Host.Outcome State Fault Refusal :=
  .next (if s.bit Reg.sysClkStat 2 then
    let s := (s.setBit Reg.sysClkStat 2 false).raise 0x0100 []
    if s.laneSwitching then s.needReset 5 else s.setSys { s.sys with relock := true }
  else s)

/-- A change of REF_MODE has been fixed and waits (R515). -/
def State.refModeDue (s : State) : Bool :=
  s.fixes.any (fun x => x.items.any (fun e => e.1 == Reg.sysClkCfg && field e.2 0 2 != s.fld Reg.sysClkStat 0 2))

/-- RELOCK_START (R515): the next alignment point after an accepted change of REF_MODE or a loss of lock. -/
def execRelockStart (s : State) : Host.Outcome State Fault Refusal :=
  .next (if (s.sys.relock ∨ s.refModeDue) ∧ s.sys.acquiring = 0 then
    s.stopClocks.setSys { s.stopClocks.sys with relock := false, acquiring := 1, acquireTick := s.tick }
  else s)

/-- PLL_LOCK (R513, R515): lock during a relock: the fixed SYS_CLK_CFG applies, the outputs restart, and PLL_RELOCKED. -/
def execPllLock (s : State) : Host.Outcome State Fault Refusal :=
  .next (if s.sys.acquiring = 0 then s
  else
    let s := s.setSys { s.sys with acquiring := 0 }
    let s := (s.takeItems (fun a => a == Reg.sysClkCfg) State.wrRw).startClocks
    ((s.raise 0x0101 []).countUp Reg.sysRelockCount 0 16 1).closeFixes)

/-- RELOCK_TIMEOUT (R518): 2 ms pass without lock: the acquisition is retried once; a second expiry is lasting (log
entry 8, DESIGN CHOICE). -/
def execRelockTimeout (s : State) : Host.Outcome State Fault Refusal :=
  .next (if s.tick < s.sys.acquireTick + 2 then s else match s.sys.acquiring with
    | 0 => s
    | 1 => s.setSys { s.sys with acquiring := 2, acquireTick := s.tick }
    | _ => ((s.raiseLasting 1 0 0).setSys { s.sys with acquiring := 0 }).needReset 5)

/-- REFCLK_LOST (R514, R519). -/
def execRefclkLost (s : State) : Host.Outcome State Fault Refusal := .next (s.needReset 4)

/-- REFCLK_PRESENT (R514, R519): a module held in reset for its loss is released. -/
def execRefclkPresent (s : State) : Host.Outcome State Fault Refusal :=
  .next (if s.sys.hold = 2 then s.setSys { s.sys with hold := 0 } else s)

/-- SYS_CLK_CFG takes its fixed value where no relock is needed: at the next alignment point (R511). -/
def State.applySys (s : State) (a : Nat) (v : Word) : State :=
  let s := s.wrRw a v
  if a = Reg.sysClkCfg then s.gateClocks else s

/-! ### Supplies -/

/-- Power fails: gate enable falls at once and the hold-up begins; the event takes the power-fail record (R520,
R523) (log entry 98, DEDUCED). -/
def State.powerFail (s : State) : State :=
  let s := ((s.setBit Reg.sysStatus 4 true).setBit Reg.sysStatus 0 false).setSys { s.sys with due := none, low := some 2 }
  let s := (s.busUpdate.raise 0x01E0 []).put Reg.sysClkStat 4 2 0
  s.dropEthLinks.dropFabLinks

/-- VSYS_FAIL (R520, R523). -/
def execVsysFail (s : State) : Host.Outcome State Fault Refusal :=
  .next (if s.bit Reg.sysStatus 4 then s else s.powerFail)

/-- HOLDUP_END (R521, R523): 10 ms after VSYS_FAIL, or before that at the threshold of 10.0 V with its tolerance;
SYS_HOLDUP records the length, in 10 µs, and the lowest VSYS, in 10 mV. -/
def execHoldupEnd (duration vmin : Nat) (s : State) : Host.Outcome State Fault Refusal :=
  .next (if s.bit Reg.sysStatus 4 ∧ (duration = 1000 ∨ (duration < 1000 ∧ vmin < 1030)) then
    (s.wr Reg.sysHoldup (word (min duration 0xFFFF + min vmin 0xFFFF * 2 ^ 16))).setSys { s.sys with ended := true }
  else s)

/-- VSYS_HIGH (R521): raised again only after VSYS has been below 32.5 V. -/
def execVsysHigh (s : State) : Host.Outcome State Fault Refusal :=
  .next (if s.sys.high then s else (s.setSys { s.sys with high := true }).raise 0x0102 [])

/-- RAIL_OUT_OF_WINDOW (R521). -/
def execRailOutOfWindow (s : State) : Host.Outcome State Fault Refusal := .next (s.needReset 3)

/-- REVERSE_BLOCKED (R522): RB_GATE is pulled to VIN_SNS. -/
def execReverseBlocked (s : State) : Host.Outcome State Fault Refusal :=
  .next (if s.sys.gate then (s.setSys { s.sys with gate := false }).raise 0x0104 [] else s)

/-- RB_GATE_DRIVE (R522): the charge pump drives RB_GATE again. -/
def execRbGateDrive (s : State) : Host.Outcome State Fault Refusal :=
  .next (s.setSys { s.sys with gate := true })

/-- VBAT_MEASURE (R531): once an hour while VSYS is present (log entry 10, DESIGN CHOICE). -/
def execVbatMeasure (mv : Nat) (s : State) : Host.Outcome State Fault Refusal :=
  .next (let due := match s.sys.vbatTick with | some t => decide (t + 3600000 ≤ s.tick) | none => true
    if s.bit Reg.sysStatus 0 && due then
      let s := (s.put Reg.sysVbat 0 12 (min mv 0xFFF)).setSys { s.sys with vbatTick := some s.tick }
      let s := s.setBit Reg.sysStatus 1 (decide (2600 ≤ mv))
      if mv < 2600 then s.raise 0x0103 [] else s
    else s)

/-! ### The vault -/

/-- VAULT_BROWN_OUT (R532): the vault supply falls below 2.3 V. -/
def execVaultBrownOut (s : State) : Host.Outcome State Fault Refusal :=
  .next (s.setSys { s.sys with brownOut := true })

/-- The whole second of the time counter that lies within a millisecond of the latest module tick, if one does (log
entry 122, DESIGN CHOICE). -/
def State.wholeSecond (s : State) : Option Nat :=
  let sec (t : Nat) : Nat := t / 2 ^ 32 / 1000000000
  let now := s.timeTotal
  let ms := 200000 * s.timeInc
  if sec now < sec (now + ms) then some (sec (now + ms) % 2 ^ 48)
  else if sec (now - ms) < sec now then some (sec now)
  else none

/-- RTC_WRITE (R533): at a whole second of the LOCKED counter the RTC takes its seconds, with fraction 0. -/
def execRtcWrite (s : State) : Host.Outcome State Fault Refusal :=
  .next (match s.wholeSecond with
    | some n =>
      if s.timeState = 1 then
        let s := (s.wr Reg.sysRtcLo (word n)).wr Reg.sysRtcHi (word (n / 2 ^ 32))
        s.setSys { s.sys with rtcRest := 0 }
      else s
    | none => s)

/-- The RTC counts 32,768 ticks a second, at a module tick (R533) (log entry 80, DESIGN CHOICE). -/
def State.rtcTick (s : State) : State :=
  let rest := s.sys.rtcRest + 32768
  let frac := s.fld Reg.sysRtcHi 16 15 + rest / 1000
  let sec := (s.rd Reg.sysRtcLo).toNat + s.fld Reg.sysRtcHi 0 16 * 2 ^ 32 + frac / 32768
  let s := s.setSys { s.sys with rtcRest := rest % 1000 }
  ((s.wr Reg.sysRtcLo (word sec)).put Reg.sysRtcHi 0 16 (sec / 2 ^ 32)).put Reg.sysRtcHi 16 15 (frac % 32768)

/-! ### Resets -/

/-- Why a write of `key` to SYS_RESET_CMD is refused (R529). -/
def State.resetCheck (s : State) (p : Packet) (key : Word) : Option Status :=
  if ¬ s.isAuth p.session ∨ s.role p.session ≠ engineer then some .notPermitted
  else if s.laneSwitching then some .notPermitted
  else if field key 0 16 ≠ 0x5AA5 then some .outOfRange
  else none

/-- A reset is requested: its entry begins 2 ms later (R529). -/
def State.requestReset (s : State) : State := s.setSys { s.sys with request := some s.tick }

/-- The cause of the reset entry that begins now, if one is due or was requested 2 ms ago (R520, R528, R529). -/
def State.entryCause (s : State) : Option Nat :=
  let asked := match s.sys.request with | some t => decide (t + 2 ≤ s.tick) | none => false
  match s.sys.due with | some c => some (if asked then min c 7 else c) | none => if asked then some 7 else none

/-- RESET_ENTRY (R520, R529): gate enable falls, and a fault record is taken (R563) (log entry 21, DESIGN CHOICE). -/
def execResetEntry (s : State) : Host.Outcome State Fault Refusal :=
  .next (match s.entryCause, s.sys.low with
    | some c, none =>
      let s := s.setSys { s.sys with due := none, request := none, low := some c }
      s.busUpdate.takeRecord (Config.entryCode c).toNat []
    | _, _ => s)

/-- SYS_RESET_CAUSE after a reset with cause `c` (R528). -/
def resetCause (w : Word) (c : Nat) : Word :=
  word (c % 2 ^ 8 + field w 0 8 * 2 ^ 8 + min 0xFFFF (field w 16 16 + 1) * 2 ^ 16)

/-- After a reset the mirror shows SAFE's vault values (R318). -/
def State.showVault (s : State) : State :=
  { s with safe := { s.safe with
    mirror := [Reg.safeStatus, Reg.safeCause, Reg.safeLockoutCount].foldl (fun m a => sparseSet resetValue m a (s.rd a)) [] } }

/-- What the vault, flash and the outside keep over a reset with cause `c` (R530, R536): everything else returns to its
reset value. Waiting commands and the traces of what has left the module are the outside's. -/
def State.afterReset (s : State) (c : Nat) : State :=
  let r := State.reset
  let sec := s.sec
  let pend (k : Nat) : Nat := sparseGet (fun _ => 0) sec.image.pending k
  let active := [1, 2, 3].foldl (fun m k =>
    if pend k = 0 then m else sparseSet (fun _ => 0) m k (pend k - 1)) sec.image.active
  let s' : State :=
    { r with
      regs := s.regs.filter (fun e => isVault e.1)
      pending := s.pending
      fresh := s.fresh
      sent := s.sent
      busOut := s.busOut
      sec := { sec with image := { sec.image with active := active, pending := [], transfer := none, used := [] } }
      safe := { r.safe with causes := s.safe.causes, latticeCauses := s.safe.latticeCauses }
      fab := { r.fab with survey := { r.fab.survey with remembered := s.fab.survey.remembered } }
      sys := { r.sys with hold := if c = 2 then 1 else if c = 4 then 2 else 0, brownOut := s.sys.brownOut,
                          gate := s.sys.gate, rtcRest := s.sys.rtcRest } }
  let s' := s'.wr Reg.sysResetCause (resetCause (s.rd Reg.sysResetCause) c)
  let s' := ((s'.setBit Reg.secStatus 0 (decide (sec.certSteps % 2 = 1))).put Reg.secStatus 2 4 (min 15 sec.certSteps)).put
    Reg.secStatus 6 4 (s.fld Reg.secStatus 6 4)
  let s' := s'.setBit Reg.hostStatus 16 (decide (sec.certSteps % 2 = 1))
  ((s'.setBit Reg.safeStatus 4 (s.bit Reg.safeStatus 4)).setBit Reg.safeStatus 5 (s.bit Reg.safeStatus 5)).showVault

/-- RESET_ASSERT (R520, R523, R530): 5 µs after the entry's first step, or at the end of the hold-up. -/
def execResetAssert (s : State) : Host.Outcome State Fault Refusal :=
  .next (match s.sys.low with
    | some c => if c = 2 ∧ ¬ s.sys.ended then s else s.afterReset c
    | none => s)

/-- POWER_GOOD (R521, R523, R528): a module held in reset after a power fail is released; `cold`: VSYS rose from below
10.0 V (log entry 81, DEDUCED). -/
def execPowerGood (cold : Bool) (s : State) : Host.Outcome State Fault Refusal :=
  .next (if s.sys.hold = 1 then
    let s := (s.setSys { s.sys with hold := 0 }).setBit Reg.sysStatus 0 true
    if cold then s.wr Reg.sysResetCause (resetCause (s.rd Reg.sysResetCause) 1) else s
  else s)

end Sys2Proof.Machine
end

