-- ==== Sys2Proof/Machine/Sec.lean ====
section
/-! DEFINITION. SEC (R536 to R554): images and their containers, credentials and owner slots, CERT_MODE, tamper, and the
audit log's opcodes. Whether a signature, hash or GCM tag is right is given with the row: no rule lists those
algorithms. -/

namespace Sys2Proof.Machine

def State.setSec (s : State) (v : SecSt) : State := { s with sec := v }
def State.setImage (s : State) (v : ImageSt) : State := s.setSec { s.sec with image := v }

/-! ### Containers -/

/-- Contents of slot `b` of object type `k`. -/
def State.slot (s : State) (k b : Nat) : List Byte := sparseGet (fun _ => []) s.sec.image.slots (2 * k + b)
def State.setSlot (s : State) (k b : Nat) (l : List Byte) : State :=
  s.setImage { s.sec.image with slots := sparseSet (fun _ => []) s.sec.image.slots (2 * k + b) l }

/-- The active slot of type `k`; 1 more than its pending slot. -/
def State.imageActive (s : State) (k : Nat) : Nat := sparseGet (fun _ => 0) s.sec.image.active k
def State.pendingSlot (s : State) (k : Nat) : Nat := sparseGet (fun _ => 0) s.sec.image.pending k

/-- Header fields of R537. -/
def hdrKeySlot (c : List Byte) : Nat := leAt c 7 1
def hdrVersion (c : List Byte) : Nat := leAt c 8 2
def hdrFlags (c : List Byte) : Nat := leAt c 10 2
def hdrLength (c : List Byte) : Nat := leAt c 12 4

/-- Whether a body length lies in the range of type `k` (R538). -/
def bodyLengthOk (k n : Nat) : Bool :=
  match k with
  | 1 => decide (0x10000 ≤ n ∧ n ≤ 0x800000)
  | 2 => n == 336
  | 3 => decide (8 ≤ n ∧ n ≤ 32768 ∧ n % 8 = 0)
  | _ => false

/-- Owner key slot `i` of the vault (R536). -/
def noOwner : Owner := { key := [], revoked := false, barred := false }
def State.owner (s : State) (i : Nat) : Owner := sparseGet (fun _ => noOwner) s.sec.owners i
def State.setOwner (s : State) (i : Nat) (v : Owner) : State :=
  s.setSec { s.sec with owners := sparseSet (fun _ => noOwner) s.sec.owners i v }

/-- It is programmed and not revoked (R545). -/
def State.ownerOk (s : State) (i : Nat) : Bool := !(s.owner i).key.isEmpty && !(s.owner i).revoked

/-- It verifies: it is programmed, and no revocation is in force on it (R539, R546). -/
def State.ownerVerifies (s : State) (i : Nat) : Bool := !(s.owner i).key.isEmpty && !(s.owner i).barred

/-- The anti-rollback counter of type `k` in SEC_ARB (R536). -/
def State.rollback (s : State) (k : Nat) : Nat := s.fld Reg.secArb (8 * (k - 1)) 6

/-- Key slots a container of type `k` may name (R538, R539). -/
def State.keySlotOk (s : State) (k slot : Nat) : Bool :=
  if slot = 0 then k == 1
  else if slot = 0xFF then k != 1 && !s.certMode
  else decide (slot ≤ 4) && k != 1 && s.ownerVerifies slot

/-- The first failing step of R539, 0 where none fails. FIRMWARE is always encrypted (R538). -/
def State.verifySteps (s : State) (k : Nat) (c : List Byte) (r : Crypto) : Nat :=
  if leAt c 0 4 ≠ 0x58574F58 ∨ leAt c 4 2 ≠ 1 ∨ leAt c 6 1 ≠ k ∨ ¬ bodyLengthOk k (hdrLength c)
    ∨ c.length ≠ hdrLength c + 256 ∨ (k = 1 ∧ hdrFlags c % 2 = 0) then 1
  else if ¬ s.keySlotOk k (hdrKeySlot c) then 2
  else if hdrKeySlot c ≠ 0xFF ∧ ¬ r.signature then 3
  else if hdrVersion c < s.rollback k then 4
  else if ¬ r.hash then 5
  else if hdrFlags c % 2 = 1 ∧ ¬ r.gcm then 6
  else 0

/-! ### Image transfers -/

/-- IMAGE_BEGIN's checks and effect (R541). -/
def State.runImageBegin (s : State) (p : Packet) : State :=
  let k := leAt p.payload 0 1
  let n := leAt p.payload 4 4
  if (k = 2 ∨ k = 3) ∧ s.role p.session ≠ engineer then s.finish 0x0800 p .notPermitted []
  else if k < 1 ∨ 3 < k ∨ n < 256 ∨ ¬ bodyLengthOk k (n - 256) then s.finish 0x0800 p .outOfRange []
  else
    let busy := match s.sec.image.transfer with | some t => decide (t.session ≠ p.session) | none => false
    if busy then s.finish 0x0800 p .busy []
    else
      let t : Transfer :=
        { session := p.session, kind := k, length := n, next := 0, erasing := true, verifying := false, packet := p }
      let v := s.sec.image
      let s := s.setImage { v with transfer := some t, pending := sparseSet (fun _ => 0) v.pending k 0 }
      (s.setBit Reg.secStatus 10 true).pend 0x0800 p

/-- IMAGE_BEGIN (R541). -/
def execImageBegin (p : Packet) (s : State) : Host.Outcome State Fault Refusal :=
  .next (s.command 0x0800 p (decide (p.payload.length = 8)) (fun s => s.runImageBegin p))

/-- The inactive slot of the open transfer's type. -/
def State.inactiveSlot (s : State) (k : Nat) : Nat := 1 - s.imageActive k

/-- IMAGE_ERASE_DONE (R541). -/
def execImageEraseDone (s : State) : Host.Outcome State Fault Refusal :=
  .next (match s.sec.image.transfer with
    | some t =>
      if t.erasing then
        let s := s.setSlot t.kind (s.inactiveSlot t.kind) []
        let s := s.setImage { s.sec.image with transfer := some { t with erasing := false } }
        s.finishLate 0x0800 t.packet .ok []
      else s
    | none => s)

/-- IMAGE_DATA's checks and effect (R542); while the slot is being erased no transfer is open yet (log entry 22,
DEDUCED). -/
def State.runImageData (s : State) (p : Packet) : State :=
  let o := leAt p.payload 0 4
  let data := p.payload.drop 4
  match s.sec.image.transfer with
  | some t =>
    if t.session ≠ p.session ∨ t.erasing ∨ t.verifying then s.finish 0x0801 p .notPermitted []
    else if o ≠ t.next ∨ t.length < o + data.length then s.finish 0x0801 p .outOfRange []
    else
      let b := s.inactiveSlot t.kind
      let s := s.setSlot t.kind b (s.slot t.kind b ++ data)
      (s.setImage { s.sec.image with transfer := some { t with next := o + data.length } }).finish 0x0801 p .ok []
  | none => s.finish 0x0801 p .notPermitted []

/-- IMAGE_DATA (R542): an offset and 4 to 4,088 bytes. -/
def execImageData (p : Packet) (s : State) : Host.Outcome State Fault Refusal :=
  .next (s.command 0x0801 p (decide (8 ≤ p.payload.length ∧ p.payload.length ≤ 4092)) (fun s => s.runImageData p))

/-- IMAGE_COMMIT's checks (R543) (log entry 22, DEDUCED). -/
def State.runCommit (s : State) (p : Packet) : State :=
  match s.sec.image.transfer with
  | some t =>
    if t.session ≠ p.session ∨ t.erasing ∨ t.verifying then s.finish 0x0802 p .notPermitted []
    else if t.next < t.length then s.finish 0x0802 p .outOfRange []
    else (s.setImage { s.sec.image with transfer := some { t with verifying := true, packet := p } }).pend 0x0802 p
  | none => s.finish 0x0802 p .notPermitted []

/-- IMAGE_COMMIT (R543). -/
def execImageCommit (p : Packet) (s : State) : Host.Outcome State Fault Refusal :=
  .next (s.command 0x0802 p (decide (p.payload = [])) (fun s => s.runCommit p))

/-- IMAGE_COMMITTED (R543): verification ends; on success the pending mark is written (log entry 93, DESIGN CHOICE). -/
def execImageCommitted (signature hash gcm : Bool) (s : State) : Host.Outcome State Fault Refusal :=
  .next (match s.sec.image.transfer with
    | some t =>
      if ¬ t.verifying then s
      else
        let b := s.inactiveSlot t.kind
        let step := s.verifySteps t.kind (s.slot t.kind b) { signature := signature, hash := hash, gcm := gcm }
        let s := (s.setImage { s.sec.image with transfer := none }).setBit Reg.secStatus 10 false
        match step with
        | 0 =>
          let s := s.setImage { s.sec.image with pending := sparseSet (fun _ => 0) s.sec.image.pending t.kind (b + 1) }
          (s.raise 0x1000 []).finishLate 0x0802 t.packet .ok []
        | 3 | 5 | 6 => s.finishLate 0x0802 t.packet .authFailed []
        | n => s.finishLate 0x0802 t.packet .outOfRange (n8 n)
    | none => s)

/-- What IMAGE_STATUS does (R544). -/
def State.runImageStatus (s : State) (p : Packet) : State :=
  s.finish 0x0803 p .ok ([1, 2, 3].flatMap (fun k =>
    let c := s.slot k (s.imageActive k)
    n8 (s.imageActive k) ++ n8 (if s.pendingSlot k = 0 then 0xFF else s.pendingSlot k - 1) ++ n16 (hdrVersion c)
      ++ n32 (leAt c 92 4) ++ n8 (s.rollback k) ++ n8 0 ++ n16 0 ++ n32 0))

/-- IMAGE_STATUS (R544). -/
def execImageStatus (p : Packet) (s : State) : Host.Outcome State Fault Refusal :=
  .next (s.command 0x0803 p (decide (p.payload = [])) (fun s => s.runImageStatus p))

/-! ### The audit log -/

/-- What AUDIT_READ does (R553). -/
def State.runAuditRead (s : State) (p : Packet) : State :=
  let first := leAt p.payload 0 4
  let n := leAt p.payload 4 2
  if n = 0 ∨ 127 < n then s.finish 0x0804 p .outOfRange []
  else
    let held := (s.sec.flash ++ s.sec.waiting).dropWhile (fun e => decide (e.seq < first))
    s.finish 0x0804 p .ok ((held.take n).flatMap AuditEntry.bytes)

/-- AUDIT_READ (R553). -/
def execAuditRead (p : Packet) (s : State) : Host.Outcome State Fault Refusal :=
  .next (s.command 0x0804 p (decide (p.payload.length = 6)) (fun s => s.runAuditRead p))

/-- Entries the flash ring holds. -/
def auditRing : Nat := 65536

/-- AUDIT_FLUSH (R553): buffered entries go to the flash ring, whose oldest are overwritten; in CERT_MODE the wrap raises
AUDIT_WRAP. -/
def execAuditFlush (s : State) : Host.Outcome State Fault Refusal :=
  .next (
    let l := s.sec.waiting
    let all := s.sec.flash ++ l
    let wraps := l.any (fun e => e.seq != 0 && e.seq % auditRing == 0)
    let s := s.setSec { s.sec with waiting := [], flash := all.drop (all.length - auditRing) }
    if wraps ∧ s.certMode then s.raise 0x1007 [] else s)

/-! ### Credentials -/

/-- The prime and the constant of the curve P-384. -/
def p384 : Nat := 2 ^ 384 - 2 ^ 128 - 2 ^ 96 + 2 ^ 32 - 1
def p384b : Nat :=
  0xb3312fa7e23ee7e4988e056be3f82d19181d9c6efe8141120314088f5013875ac656398d8a2ed19d2a85c8edd3ec2aef

/-- The big-endian number in a list of bytes (log entry 79, DEDUCED). -/
def beNat (l : List Byte) : Nat := l.foldl (fun n b => 256 * n + b.toNat) 0

/-- A 96-byte key, x then y, most significant byte first, is a point of P-384 (log entry 79, DEDUCED). -/
def onCurve (key : List Byte) : Bool :=
  let x := beNat (key.take 48)
  let y := beNat (key.drop 48)
  decide (x < p384 ∧ y < p384) && decide (y * y % p384 = (x * x * x + (p384 - 3) * x + p384b) % p384)

/-- Two enabled or disabled entries hold the same key (log entry 77, DEDUCED). -/
def sameKeys : List (Nat × Cred) → Bool
  | [] => false
  | c :: l => l.any (fun d => d.2.key == c.2.key) || sameKeys l

/-- Whether a credential of role SECURITY_ADMIN is enabled in a table (log entry 77, DEDUCED). -/
def adminIn (l : List (Nat × Cred)) : Bool := l.any (fun e => e.2.enabled && e.2.role == securityAdmin)

/-- The owner slots usable, as SEC_STATUS shows them. -/
def State.showOwners (s : State) : State :=
  s.put Reg.secStatus 6 4 (bitsOf 4 (fun i => s.ownerOk (i + 1)))

/-- SEC_CRED: the entries enabled. -/
def State.showCreds (s : State) : State := s.wr Reg.secCred (word (bitsOf 32 (fun i => (s.cred i).enabled)))

/-- Every session authenticated with entry `i` faults (R546). -/
def State.faultCredential (s : State) (i : Nat) : State :=
  (List.range 128).foldl (fun s n =>
    if s.isAuth n ∧ (s.session n).credential = i then s.endSession n .fault else s) s

/-- CREDENTIAL_SET's checks and effect (R545, R546, R549) (log entry 77, DEDUCED). -/
def State.runCredential (s : State) (p : Packet) : State :=
  let i := leAt p.payload 0 1
  let kind := leAt p.payload 1 1
  let role := leAt p.payload 2 1
  let flags := leAt p.payload 3 1
  let key := (p.payload.drop 4).take 96
  let name := p.payload.drop 100
  if kind = 0 then
    let c : Cred := { key := key, role := role, name := name, enabled := flags % 2 == 1 }
    let table := sparseSet (fun _ => Cred.empty) s.sec.creds i c
    if ¬ adminIn table ∨ (s.certMode ∧ sameKeys table) then s.finish 0x0805 p .notPermitted []
    else if 31 < i ∨ 3 < role ∨ ¬ onCurve key then s.finish 0x0805 p .outOfRange []
    else
      let s := ((s.setSec { s.sec with creds := table }).showCreds.raise 0x1003 []).finish 0x0805 p .ok []
      s.faultCredential i
  else if kind = 1 then
    if flags / 2 % 2 = 1 then
      let left := (List.range 5).filter (fun j => j ≠ i ∧ s.ownerOk j)
      if i = 0 ∨ (s.certMode ∧ left = []) then s.finish 0x0805 p .notPermitted []
      else if 4 < i then s.finish 0x0805 p .outOfRange []
      else
        let s := s.setOwner i { s.owner i with revoked := true }
        (s.showOwners.raise 0x1003 []).finish 0x0805 p .ok []
    else if 1 ≤ i ∧ i ≤ 4 ∧ (s.owner i).key ≠ [] then s.finish 0x0805 p .notPermitted []
    else if i < 1 ∨ 4 < i ∨ ¬ onCurve key then s.finish 0x0805 p .outOfRange []
    else
      let s := s.setOwner i { s.owner i with key := key }
      (s.showOwners.raise 0x1003 []).finish 0x0805 p .ok []
  else s.finish 0x0805 p .outOfRange []

/-- CREDENTIAL_SET (R545). -/
def execCredentialSet (p : Packet) (s : State) : Host.Outcome State Fault Refusal :=
  .next (s.command 0x0805 p (decide (p.payload.length = 116)) (fun s => s.runCredential p))

/-! ### CERT_MODE -/

/-- Conditions 2 to 8 of R549 that a module checks, by number. -/
def State.certCondition (s : State) (n : Nat) : Bool :=
  match n with
  | 2 => let c := s.slot 1 (s.imageActive 1); hdrKeySlot c == 0 && hdrFlags c % 2 == 1
  | 3 => [1, 2, 3, 4].any s.ownerOk
  | 4 => [2, 3].all (fun k => let n := hdrKeySlot (s.slot k (s.imageActive k)); decide (1 ≤ n ∧ n ≤ 4))
  | 5 => adminIn s.sec.creds && !sameKeys s.sec.creds
  | 6 => !s.bit Reg.fabCfg 1 && !s.bit Reg.netTimeCfg 5
  | 7 => (List.range 4).any (fun i => s.bit Reg.secTamperCfg (4 * i) && s.fld Reg.secTamperCfg (4 * i + 2) 2 == 2)
  | 8 => decide (s.fld Reg.hostCfg 20 4 ≤ 8) && decide (s.fld Reg.hostCfg 0 10 ≤ 600)
  | _ => true

/-- The first of conditions 2 to 8 that fails. -/
def State.certFails (s : State) : Option Nat := [2, 3, 4, 5, 6, 7, 8].find? (fun n => !s.certCondition n)

/-- CERT_MODE_SET's checks and effect (R549); asking for what the steps already say changes nothing (log entry 78,
DEDUCED). -/
def State.runCert (s : State) (p : Packet) : State :=
  let on := decide (leAt p.payload 0 1 % 2 = 1)
  let used := s.sec.certSteps
  if on = decide (used % 2 = 1) then s.finish 0x0806 p .ok []
  else if 16 ≤ used then s.finish 0x0806 p .busy []
  else
    match (if on then s.certFails else none) with
    | some n => s.finish 0x0806 p .notPermitted (n8 n)
    | none =>
      let s := s.setSec { s.sec with certSteps := used + 1 }
      let s := ((s.setBit Reg.secStatus 0 true).setBit Reg.secStatus 1 (!on)).setBit Reg.hostStatus 16 true
      let s := s.put Reg.secStatus 2 4 (min 15 (used + 1))
      (s.raise 0x1004 []).finish 0x0806 p .ok []

/-- CERT_MODE_SET (R549). -/
def execCertModeSet (p : Packet) (s : State) : Host.Outcome State Fault Refusal :=
  .next (s.command 0x0806 p (decide (p.payload.length = 4)) (fun s => s.runCert p))

/-! ### Tamper -/

/-- A tamper record of input `i`, 0xF for a vault loss, with response `level` (R550, R551). -/
def State.tamperRecord (s : State) (i level : Nat) : State :=
  let s := s.setSec { s.sec with tampers := s.sec.tampers ++ [i] }
  let s := (s.put Reg.secTamperStat 8 4 i).raise 0x1005 []
  let s := if level = 2 ∧ i < 4 then s.setBit Reg.secTamperStat i true else s
  if level = 0 then s else if s.sys.hold = 0 then s.needReset 8 else s.setSys { s.sys with tamperDue := true }

/-- TAMPER (R550): enabled input `i` has been at level `high` for 4 samples: asserted at its active polarity, no longer
asserted at the other. -/
def execTamper (i : Nat) (high : Bool) (s : State) : Host.Outcome State Fault Refusal :=
  .next (if i < 4 ∧ s.bit Reg.secTamperCfg (4 * i) then
    let asserted := high != s.bit Reg.secTamperCfg (4 * i + 1)
    let was := s.bit Reg.secTamperStat (4 + i)
    let s := s.setBit Reg.secTamperStat (4 + i) asserted
    if asserted ∧ ¬ was then s.tamperRecord i (s.fld Reg.secTamperCfg (4 * i + 2) 2) else s
  else s)

/-- TAMPER_CLEAR's checks and effect (R551). -/
def State.runTamperClear (s : State) (p : Packet) : State :=
  let m := leAt p.payload 0 4 % 16
  if (List.range 4).any (fun i => m / 2 ^ i % 2 == 1 && s.bit Reg.secTamperStat (4 + i)) then
    s.finish 0x0807 p .notPermitted []
  else
    let s := (List.range 4).foldl (fun s i => if m / 2 ^ i % 2 = 1 then s.setBit Reg.secTamperStat i false else s) s
    let s := s.finish 0x0807 p .ok []
    if s.fld Reg.secTamperStat 0 4 = 0 ∧ s.sys.tamperStop then s.requestReset else s

/-- TAMPER_CLEAR (R551). -/
def execTamperClear (p : Packet) (s : State) : Host.Outcome State Fault Refusal :=
  .next (s.command 0x0807 p (decide (p.payload.length = 4)) (fun s => s.runTamperClear p))

end Sys2Proof.Machine
end

