-- ==== Sys2Proof/Machine/CheckCore.lean ====
section
/-! DEFINITION. The parts the field checks of FIX share (R433 step 1): a failure with its register and payload, and the
tables of field ranges the chapters give. A check judges the configuration the FIX would leave, `n`, against the one in
force with the sets still pending, `o`. -/

namespace Sys2Proof.Machine

/-- A failed check: the register that fails, the status and the payload. -/
structure Fail where
  addr : Nat
  status : Status
  payload : List Byte
  deriving DecidableEq, Repr

/-- A failure of register `a` with OUT_OF_RANGE where `c` holds. -/
def failIf (c : Bool) (a : Nat) : List Fail := if c then [{ addr := a, status := .outOfRange, payload := n32 a }] else []

/-- The same with status `st`. -/
def failWith (st : Status) (c : Bool) (a : Nat) : List Fail := if c then [{ addr := a, status := st, payload := n32 a }] else []

/-- The failure of the lowest register (R433). -/
def lowest (l : List Fail) : Option Fail :=
  l.foldl (fun best f => match best with | some b => if f.addr < b.addr then some f else best | none => some f) none

/-- A field with the values it may take: lowest bit, width, least and greatest. -/
abbrev Range := Nat × Nat × Nat × Nat

/-- Some field of `w` lies outside its range (log entry 25, DEDUCED). -/
def outside (l : List Range) (w : Word) : Bool :=
  l.any (fun r => decide (field w r.1 r.2.1 < r.2.2.1 ∨ r.2.2.2 < field w r.1 r.2.1))

/-- Ranges of the transform stage and mode registers of a lane, by offset (R76, R172, R173, R204). -/
def laneRanges : List (Nat × List Range) :=
  [(0x008, [(0, 4, 0, 11), (4, 2, 0, 2)]),
   (0x104, [(0, 7, 0, 79), (8, 7, 0, 79), (16, 7, 0, 79)]), (0x108, [(0, 7, 0, 79), (8, 7, 0, 79), (16, 7, 0, 79)]),
   (0x10C, [(0, 7, 0, 79), (8, 7, 0, 79), (16, 7, 0, 79)]), (0x110, [(0, 7, 0, 79), (8, 7, 0, 79), (16, 7, 0, 79)]),
   (0x114, [(0, 11, 50, 2000), (16, 11, 0, 2000)]), (0x118, [(0, 10, 0, 1000), (16, 10, 0, 1000)]),
   (0x11C, [(0, 9, 100, 300), (16, 9, 0, 256), (25, 7, 80, 98)]), (0x120, [(0, 8, 1, 200)]),
   (0x124, [(0, 10, 0, 500), (16, 10, 0, 500)]), (0x128, [(0, 10, 0, 1000), (16, 10, 0, 1000)]),
   (0x12C, [(0, 10, 0, 1000), (16, 10, 1, 1000)]), (0x130, [(1, 7, 80, 100), (8, 10, 0, 512)])]
  ++
  [(0x134, [(0, 6, 0, 47), (8, 6, 0, 47), (16, 6, 0, 47), (24, 8, 0, 193)]),
   (0x138, [(0, 14, 100, 10000)]), (0x13C, [(0, 10, 380, 760), (16, 11, 300, 1500)]),
   (0x808, [(8, 4, 4, 15)]), (0x80C, [(0, 8, 50, 95), (8, 8, 5, 100), (16, 8, 1, 100), (24, 8, 1, 255)]),
   (0x810, [(0, 8, 5, 30), (8, 8, 5, 250), (16, 8, 80, 95), (24, 8, 5, 250)]),
   (0x814, [(0, 7, 1, 100), (16, 10, 1, 600)]), (0x818, [(0, 8, 10, 100), (8, 8, 1, 50), (16, 8, 10, 200), (24, 8, 1, 50)]),
   (0x81C, [(0, 8, 20, 200), (8, 8, 1, 50), (16, 10, 1, 600)]), (0x820, [(0, 6, 1, 60), (8, 8, 1, 20)])]

/-- Ranges of a law's registers, by offset in its block (R135, R136). -/
def lawRanges (k : Nat) : List Range :=
  if 0x18 ≤ k ∧ k < 0x30 then [(0, 8, 0, 193), (8, 8, 0, 193), (16, 8, 0, 193), (24, 8, 0, 193)]
  else if 0xC0 ≤ k ∧ k < 0x240 ∧ k % 16 = 12 then [(0, 4, 0, 11)]
  else []

/-- Ranges of gate channel registers, by offset in their block (R282). -/
def gateChRanges (k : Nat) : List Range :=
  if k = 0 then [(3, 5, 1, 16), (8, 8, 5, 150)]
  else if k = 4 then [(0, 10, 10, 1000), (10, 8, 5, 200), (18, 5, 1, 16), (23, 8, 20, 150)]
  else if k = 8 then [(0, 10, 10, 1000), (10, 8, 5, 200), (18, 5, 1, 16), (23, 8, 0, 100)]
  else [(0, 6, 5, 60), (8, 8, 5, 150), (16, 6, 16, 32)]

/-- Ranges of the registers of which a block has few, by address (R356, R443, R470, R508, R535, R571). -/
def singleRanges : List (Nat × List Range) :=
  [(Reg.cycleKeyCfg, [(0, 10, 1, 600)]), (Reg.cycleWdCfg, [(4, 7, 1, 100)]),
   (Reg.hostCfg, [(0, 10, 1, 600), (10, 10, 1, 600), (20, 4, 1, 15)]), (Reg.hostSpiCfg, [(0, 10, 1, 1000)]),
   (Reg.netTimeCfg, [(8, 8, 1, 255), (16, 12, 1, 3600)]), (Reg.netPtpCfg, [(8, 4, 2, 10), (17, 15, 1, 32767)]),
   (Reg.netEthPrefix 0, [(0, 5, 8, 30)]), (Reg.netEthPrefix 1, [(0, 5, 8, 30)]),
   (Reg.netEthCfg 0, [(0, 3, 0, 5)]), (Reg.netEthCfg 1, [(0, 3, 0, 5)]),
   (Reg.fabCfg, [(16, 12, 0, 0xFFE)]), (Reg.fabTtCycle, [(0, 14, 125, 12500)]),
   (Reg.fabSecCfg, [(1, 8, 1, 255), (9, 7, 1, 100), (16, 8, 1, 100), (24, 8, 1, 100)]),
   (Reg.sysClkCfg, [(0, 2, 0, 2)]), (Reg.secTamperCfg, [(2, 2, 0, 2), (6, 2, 0, 2), (10, 2, 0, 2), (14, 2, 0, 2)]),
   (Reg.perfCsCfg, [(1, 4, 0, 13)])]

/-- The ranges of register `a` (log entry 25, DEDUCED). -/
def rangesOf (a : Nat) : List Range :=
  if 0x10030000 ≤ a ∧ a < 0x10031000 then (laneRanges.find? (fun e => e.1 == a - 0x10030000)).elim [] Prod.snd
  else if 0x10031000 ≤ a ∧ a < 0x10032000 then lawRanges ((a - 0x10031000) % 0x400)
  else if isIdx (Reg.convGrpCfg 0) 0x20 16 a then [(1, 4, 0, 11), (5, 2, 0, 2)]
  else if isIdx (Reg.convAinCfg 0) 4 64 a then [(0, 2, 0, 2), (8, 8, 128, 255), (16, 8, 1, 255), (24, 8, 1, 250)]
  else if isIdx (Reg.filtThrCfg 0) 8 64 a then [(12, 7, 0, 79)]
  else if isIdx (Reg.pwmPwxCfg 0 0) 4 12 a then [(1, 6, 0, 47)]
  else if isIdx (Reg.pwmCuCfg 0 0) 0x10 48 a then [(0, 4, 0, 11)]
  else if isIdx (Reg.pwmTripCfg 0 0) 4 16 a then [(10, 6, 0, 47)]
  else if isIdx (Reg.pwmTripCfg 0 16) 4 64 a then [(10, 6, 0, 47), (16, 1, 0, 0), (17, 8, 0, 0)]
  else if isIdx (Reg.gateRetry 0) 4 5 a then [(0, 14, 1, 10000), (17, 10, 1, 600)]
  else if 0x10070400 ≤ a ∧ a < 0x10070A00 then gateChRanges (a % 0x20)
  else if isIdx (Reg.gatePairCfg 0) 4 24 a then [(2, 10, 100, 1000), (18, 6, 20, 32)]
  else if a = Reg.cycleDioSafe0 ∨ a = Reg.cycleDioSafe1 then (List.range 16).map (fun p => (2 * p, 2, 0, 2))
  else if isIdx (Reg.memRingCfg 0) 0x10 64 a then [(0, 4, 4, 12)]
  else if isIdx (Reg.fabSubCfg 0) 8 256 a then [(1, 2, 0, 2), (16, 3, 0, 5), (19, 8, 1, 255)]
  else if isIdx (Reg.fabPubCfg 0) 4 64 a then [(1, 2, 0, 2)]
  else if isIdx (Reg.perfWinCfg 0) 0x10 16 a then [(12, 10, 1, 1000)]
  else (singleRanges.find? (fun e => e.1 == a)).elim [] Prod.snd

end Sys2Proof.Machine
end

