-- ==== Sys2Proof/Machine/CheckLane.lean ====
section
/-! DEFINITION. Field checks of FIX for the lanes and the PWM generators: schedule and timebases (R84, R143, R144,
R229 to R231), laws and their routes (R131, R135, R136, R139, R140, R146, R236), profiles (R180), modes (R204), trips and
windows (R242, R244, R247). -/

namespace Sys2Proof.Machine

/-! ### Timebases -/

def State.tbEnabled (n : State) (t : Nat) : Bool := n.bit (Reg.pwmTbCfg 0 t) 0
def State.tbUpDown (n : State) (t : Nat) : Bool := n.bit (Reg.pwmTbCfg 0 t) 1
def State.tbUpd (n : State) (t : Nat) : Nat := n.fld (Reg.pwmTbCfg 0 t) 2 2

/-- R229 to R231 on an enabled timebase. -/
def State.tbFails (n : State) (t : Nat) : List Fail :=
  if n.tbEnabled t then
    failIf (n.tbUpd t == 0 || (!n.tbUpDown t && decide (2 ≤ n.tbUpd t))) (Reg.pwmTbCfg 0 t)
      ++ failIf (decide (n.tbInt t < 200) || decide (1048575 * 16 < n.tbInt t * 16 + n.tbFrac t)) (Reg.pwmTbPeriod 0 t)
      ++ failIf (decide (n.tbInt t ≤ n.fld (Reg.pwmTbPhase 0 t) 0 20)) (Reg.pwmTbPhase 0 t)
  else []

/-- The update points of timebase `t` that an edge selection takes: bit 0 zero points, bit 1 mid points (R82, R143). -/
def State.selected (n : State) (t edge : Nat) : Nat := if edge = 0 then n.tbUpd t else edge

/-- Consecutive selected update points of `t` lie whole multiples of 200 ns apart (R84, R143). -/
def State.on200 (n : State) (t edge : Nat) : Bool :=
  n.tbFrac t == 0 &&
    (if n.selected t edge = 3 then n.tbMid t % 200 == 0 && (n.tbInt t - n.tbMid t) % 200 == 0 else n.tbInt t % 200 == 0)

/-- An enabled group's timebase and edge (R82, R84), at its CFG register. -/
def State.groupTbFails (n : State) (g : Nat) : List Fail :=
  if n.groupOn g then
    let t := n.groupTb g
    let edge := n.fld (Reg.convGrpCfg g) 5 2
    failIf (decide (edge ≠ 0) && decide (n.tbUpd t &&& edge = 0)) (Reg.convGrpCfg g)
      ++ failIf (n.tbEnabled t && !n.on200 t edge) (Reg.convGrpCfg g)
  else []

/-- The base interval and the position of a base sample in it, for the schedule in `n` (R143). -/
def State.baseGrid (n : State) : Nat × Int :=
  let t := n.fld (Reg.laneSched 0) 0 4
  let sel := n.selected t (n.fld (Reg.laneSched 0) 4 2)
  let off : Int := -(n.fld (Reg.pwmTbPhase 0 t) 0 20 : Int)
  (if sel = 3 then n.tbInt t / 2 else n.tbInt t, if sel = 2 then off + n.tbMid t else off)

/-- R143 on the schedule timebase, judged while it is enabled. -/
def State.schedBad (n : State) : Bool :=
  let t := n.fld (Reg.laneSched 0) 0 4
  let edge := n.fld (Reg.laneSched 0) 4 2
  n.tbEnabled t &&
    (decide (n.tbFrac t ≠ 0) || decide ((n.baseGrid).1 % 200 ≠ 0) || decide ((n.baseGrid).1 < 1000)
      || (n.selected t edge == 3 && decide (2 * n.tbMid t ≠ n.tbInt t)))

/-- Every update point of timebase `t` coincides with a base sample (R144). -/
def State.onSamples (n : State) (t : Nat) : Bool :=
  let i := (n.baseGrid).1
  let at0 (z : Int) : Bool := (z - (n.baseGrid).2) % (i : Int) == 0
  let off : Int := -(n.fld (Reg.pwmTbPhase 0 t) 0 20 : Int)
  !n.tbEnabled t || (n.tbEnabled (n.fld (Reg.laneSched 0) 0 4) && n.tbFrac t == 0 && decide (i ≠ 0) && n.tbInt t % i == 0
    && (n.tbUpd t % 2 == 0 || at0 off) && (decide (n.tbUpd t < 2) || at0 (off + n.tbMid t)))

/-! ### Laws and routes -/

/-- The input triples a transform quantity derives from (R146). -/
def triplesOf (src : Nat) : List Nat :=
  if src = 80 ∨ src = 81 ∨ src = 90 ∨ src = 92 ∨ src = 94 ∨ src = 95 then [0]
  else if src = 82 ∨ src = 83 then [1]
  else if src = 84 ∨ src = 85 then [2]
  else if src = 86 ∨ src = 87 then [3]
  else if src = 88 ∨ src = 89 then [0, 1]
  else []

/-- Channel `c` is in an enabled group on the schedule's timebase and edge selection (R143). -/
def State.grouped (n : State) (c : Nat) : Bool :=
  (List.range 16).any (fun g => n.groupOn g && n.bankBit (Reg.convGrpMask0 g) c
    && n.groupTb g == n.fld (Reg.laneSched 0) 0 4 && n.fld (Reg.convGrpCfg g) 5 2 == n.fld (Reg.laneSched 0) 4 2)

/-- A source that R136, R143 or R146 refuses. -/
def State.srcBad (n : State) (src : Nat) : Bool :=
  decide (193 < src) || (decide (src < 80) && !n.grouped src)
    || (n.xfOn && (triplesOf src).any (fun k => !n.bit (Reg.laneXfTri 0 k) 31))

/-- A unit that may not be driven: the upper one of a complementary pair (R236), or one off the base samples (R144). -/
def State.unitBad (n : State) (u : Nat) : Bool :=
  decide (47 < u) || (u % 2 == 1 && n.bit (Reg.pwmPairCfg 0 (u / 2)) 0) || !n.onSamples (n.unitTb u)

/-- The routed outputs of the enabled laws: destination, unit, law and output (R140). -/
def State.routes (n : State) : List (Nat × Nat × Nat × Nat) :=
  (List.range 4).flatMap (fun l =>
    if n.lawOn l then (List.range (n.nu l)).map (fun j => (n.outDest l j, n.outUnit l j, l, j)) else [])

/-- The units of LANE_XF_OUT while the stage is enabled. -/
def State.xfUnits (n : State) : List Nat :=
  if n.xfOn then [0, 8, 16].map (fun i => n.fld (Reg.laneXfOut 0) i 6) else []

/-- R140 on the whole set of routes. -/
def State.routeFails (n : State) : List Fail :=
  let rs := n.routes
  rs.flatMap (fun r =>
    let (d, u, l, j) := r
    let a := Reg.laneLawOut 0 l j
    if d = 1 then
      failIf (n.unitBad u || n.xfUnits.contains u
          || rs.any (fun q => q.1 == 1 && q.2.1 == u && decide ((q.2.2.1, q.2.2.2) ≠ (l, j)))) a
        ++ failIf (!F32.le F32.zero (n.rd (Reg.laneLawUmin 0 l j)) || !F32.le (n.rd (Reg.laneLawUmin 0 l j)) F32.one)
            (Reg.laneLawUmin 0 l j)
        ++ failIf (!F32.le F32.zero (n.rd (Reg.laneLawUmax 0 l j)) || !F32.le (n.rd (Reg.laneLawUmax 0 l j)) F32.one)
            (Reg.laneLawUmax 0 l j)
    else if 2 ≤ d then
      failIf (decide ((rs.filter (fun q => q.1 == 2)).length ≠ 1) || decide ((rs.filter (fun q => q.1 == 3)).length ≠ 1)) a
    else [])

/-- An enabled law's dimensions, rate, sources and integrators (R131, R135, R136, R139, R143, R146). -/
def State.lawFails (n : State) (l : Nat) : List Fail :=
  if n.lawOn l then
    failIf (n.nx l == 0 || decide (24 < n.nx l) || decide (16 < n.ny l) || n.nu l == 0 || decide (12 < n.nu l)
        || decide (8 < n.nr l)) (Reg.laneLawCfg 0 l)
      ++ failIf (decide (n.fld (Reg.laneLawRate 0 l) 0 8 < n.fld (Reg.laneLawRate 0 l) 8 8)) (Reg.laneLawRate 0 l)
      ++ (List.range (n.ny l)).flatMap (fun i => failIf (n.srcBad (n.measSrc l i)) (Reg.laneLawMeas 0 l (i / 4)))
      ++ (List.range (n.nr l)).flatMap (fun m => failIf (n.srcBad (n.setpSrc l m)) (Reg.laneLawSetp 0 l (m / 4)))
      ++ (List.range (n.nx l)).flatMap (fun i =>
        if n.bit (Reg.laneLawInteg 0 l) i then
          failIf (!F32.finite (n.rd (Reg.laneLawIntLo 0 l i))
              || F32.le (n.rd (Reg.laneLawIntHi 0 l i)) (n.rd (Reg.laneLawIntLo 0 l i))) (Reg.laneLawIntLo 0 l i)
            ++ failIf (!F32.finite (n.rd (Reg.laneLawIntHi 0 l i))) (Reg.laneLawIntHi 0 l i)
            ++ failIf (!F32.finite (n.rd (Reg.laneLawIntBeta 0 l i))) (Reg.laneLawIntBeta 0 l i)
        else [])
  else []

/-- The transform stage's triples, v_dc source and units while it is enabled (R143, R144, R146, R236), and the DC stage's
law (R204). -/
def State.xfFails (n : State) : List Fail :=
  (if n.xfOn then
    (List.range 4).flatMap (fun k =>
        failIf (n.bit (Reg.laneXfTri 0 k) 31 && [0, 8, 16].any (fun i => !n.grouped (n.fld (Reg.laneXfTri 0 k) i 7)))
          (Reg.laneXfTri 0 k))
      ++ failIf ((triplesOf (n.fld (Reg.laneXfOut 0) 24 8)).any (fun k => !n.bit (Reg.laneXfTri 0 k) 31)
          || n.xfUnits.any n.unitBad) (Reg.laneXfOut 0)
  else [])
    ++ failIf (n.bit (Reg.laneModeCfg 0) 2 && n.fld (Reg.laneModeCfg 0) 0 2 == n.fld (Reg.laneXfCfg 0) 1 2) (Reg.laneModeCfg 0)

/-- The checks that join laws, transform stage, schedule, groups and timebases. -/
def State.controlFails (n : State) : List Fail :=
  failIf n.schedBad (Reg.laneSched 0) ++ n.routeFails ++ (List.range 4).flatMap n.lawFails ++ n.xfFails

/-! ### Registers of their own -/

/-- A profile output's limits and bounds (R180). -/
def State.profileFails (n : State) (j : Nat) : List Fail :=
  let lo := n.rd (Reg.lanePgMin 0 j)
  let hi := n.rd (Reg.lanePgMax 0 j)
  let out (a b x : Word) : Bool := !F32.exactLe a x || !F32.exactLe x b
  let far (x : Word) : Bool :=
    if j = 0 then out 0x3F666666 0x3F8CCCCD x else if j = 1 then out 0 0x3F99999A x
    else if j ≤ 3 then out 0xC0400000 0x40400000 x else !F32.finite x
  let rate (a : Nat) : List Fail := failIf (!F32.finite (n.rd a) || F32.exactLt (n.rd a) F32.zero) a
  failIf (!F32.finite (n.rd (Reg.lanePgVmax 0 j)) || !F32.exactLt F32.zero (n.rd (Reg.lanePgVmax 0 j))) (Reg.lanePgVmax 0 j)
    ++ rate (Reg.lanePgAmax 0 j) ++ rate (Reg.lanePgJmax 0 j)
    ++ failIf (far lo || F32.exactLe hi lo) (Reg.lanePgMin 0 j) ++ failIf (far hi) (Reg.lanePgMax 0 j)

/-- A spill region: its size while it is enabled, its end always (R171, R172). -/
def State.spillFails (n : State) (l : Nat) : List Fail :=
  let size := n.fld (Reg.laneSpillCfg l) 11 5
  failIf (n.bit (Reg.laneSpillCfg l) 0 && (size == 0 || decide (16 < size))) (Reg.laneSpillCfg l)
    ++ failIf (decide (256 < n.fld (Reg.laneSpillAddr l) 0 8 + size)) (Reg.laneSpillAddr l)

/-- An enabled trip uses window channel `w`. -/
def State.windowUsed (n : State) (w : Nat) : Bool :=
  (List.range 80).any (fun i => n.bit (Reg.pwmTripCfg 0 i) 0 && n.bit (Reg.pwmTripCfg 0 i) 9
    && n.fld (Reg.pwmTripCfg 0 i) 10 6 == w)

/-- A window channel that a trip uses, or whose timebase is enabled (R244). -/
def State.windowFails (n : State) (w : Nat) : List Fail :=
  let a := Reg.pwmTbWinA 0 (w / 4) (w % 4)
  let b := Reg.pwmTbWinB 0 (w / 4) (w % 4)
  if n.windowUsed w || n.tbEnabled (w / 4) then
    if n.bit a 20 then
      failIf (n.fld a 0 20 == 0 || decide (65535 < n.fld a 0 20) || decide (47 < n.fld a 21 6)) a
    else failIf (decide (n.tbInt (w / 4) ≤ n.fld a 0 20)) a ++ failIf (decide (n.tbInt (w / 4) ≤ n.fld b 0 20)) b
  else []

/-- The checks that a staged register of the lanes or the generators calls for. -/
def laneRegFails (o n : State) (a : Nat) : List Fail :=
  (match idxOf (Reg.lanePgTgt 0 0) 0x20 16 (a - a % 0x20) with | some j => n.profileFails j | none => [])
    ++ failIf ((a == Reg.laneXfZv 0 || a == Reg.laneXfZrt 0) && n.fld a 0 10 == 0 && n.fld a 16 10 == 0) a
    ++ (if a = Reg.laneSpillCfg 0 ∨ a = Reg.laneSpillAddr 0 then n.spillFails 0 else [])
    ++ (if a = Reg.laneSpillCfg 1 ∨ a = Reg.laneSpillAddr 1 then n.spillFails 1 else [])
    ++ (match tbOfReg a with
        | some t => n.tbFails t ++ (List.range 4).flatMap (fun c => n.windowFails (4 * t + c))
        | none => [])
    ++ (match idxOf (Reg.pwmTripCfg 0 0) 4 80 a with
        | some i =>
          failWith .tripActive (o.tripLatched i && decide (o.rd a ≠ n.rd a)) a
            ++ (if n.bit a 0 ∧ n.bit a 9 then n.windowFails (n.fld a 10 6) else [])
        | none => [])

/-- Whether a staged register takes part in the joint checks of `controlFails`. -/
def inControl (a : Nat) : Bool :=
  a == Reg.laneSched 0 || decide (0x10030100 ≤ a ∧ a < 0x10030140) || a == Reg.laneModeCfg 0
    || decide (0x10031000 ≤ a ∧ a < 0x10032000) || decide (0x10010100 ≤ a ∧ a < 0x10010300)
    || decide (0x10050100 ≤ a ∧ a < 0x10050860)

end Sys2Proof.Machine
end

