-- ==== Sys2Proof/Machine/CheckRest.lean ====
section
/-! DEFINITION. Field checks of FIX for the other blocks: groups and bitstream inputs (R82, R84, R88, R105), gate channels
(R282), safe values (R356), rings and DMA channels (R377, R385, R390), shutters (R391 to R402, R411, R413), Ethernet and
CAN (R444, R464, R465, R470), streams (R506, R508), clocks (R511, R515), counters (R564, R565), the conditions of CERT_MODE
(R549), and the interlock matrix (R266). -/

namespace Sys2Proof.Machine

/-! ### CONV -/

/-- R88 for the bitstream channels of enabled group `g`, with its payload. -/
def State.groupBsFails (n : State) (g : Nat) : List Fail :=
  if n.groupOn g then
    ((n.groupChans g).filter (64 ≤ ·)).flatMap (fun c =>
      let fail (b : Nat) : List Fail :=
        [{ addr := Reg.convGrpMask2 g, status := .outOfRange, payload := n8 c ++ n8 0 ++ n8 b ++ n8 0 }]
      if ¬ n.bsEnabled (c - 64) then fail 0xFF
      else match (List.range 16).find? (fun b => b ≠ g && n.groupOn b && (n.groupChans b).contains c) with
        | some b => fail b
        | none => [])
  else []

/-- CONV_BSm_CFG (R105, R109). -/
def State.bsFails (n : State) (m : Nat) : List Fail :=
  let d := n.fld (Reg.convBsCfg m) 3 6
  let e := n.fld (Reg.convBsCfg m) 9 8
  failIf (if n.bit (Reg.convBsCfg m) 1 then d % 2 == 1 || decide (d < 8 ∨ 40 < d) else decide (e < 40 ∨ 200 < e))
    (Reg.convBsCfg m)

/-- The checks of a staged CONV register. -/
def convRegFails (n : State) (a : Nat) : List Fail :=
  if 0x10010100 ≤ a ∧ a < 0x10010300 then
    n.groupTbFails ((a - 0x10010100) / 0x20) ++ n.groupBsFails ((a - 0x10010100) / 0x20)
  else match idxOf (Reg.convBsCfg 0) 4 16 a with
    | some m => n.bsFails m ++ (List.range 16).flatMap (fun g =>
        if (n.groupChans g).contains (64 + m) then n.groupBsFails g else [])
    | none => []

/-- A timebase change that breaks R84 for a group on it. -/
def tbGroupFails (n : State) (a : Nat) : List Fail :=
  match tbOfReg a with
  | some t => failIf (n.tbEnabled t && (List.range 16).any (fun g =>
      n.groupOn g && n.groupTb g == t && !n.on200 t (n.fld (Reg.convGrpCfg g) 5 2))) a
  | none => []

/-! ### MEM -/

/-- The reserve floor of ring `r` (R385). -/
def ringFloor (r : Nat) : Nat := if r < 16 then 32 else if 32 ≤ r ∧ r < 40 then 64 else 0

/-- A ring's configuration (R383, R385, R390). -/
def ringFails (o n : State) (r : Nat) : List Fail :=
  let a := Reg.memRingCfg r
  let res := n.fld a 4 13
  let sum := (List.range 64).foldl (fun t q => t + n.fld (Reg.memRingCfg q) 4 13) 0
  failIf (decide (res < ringFloor r ∨ 2 ^ n.fld a 0 4 < res ∨ 3072 < sum)) a
    ++ failWith .busy (decide (o.fld a 0 17 ≠ n.fld a 0 17) && decide (o.ringFill r ≠ 0)) a

/-- A DMA channel's configuration (R377, R390). -/
def dmaFails (o n : State) (x : Nat) : List Fail :=
  let a := Reg.memDmaChCfg (x / 32) (x % 32)
  let ctx := n.fld a 3 8
  failIf (decide (143 < ctx ∧ ctx ≠ 255)) a
    ++ failWith .busy (decide (o.rd a ≠ n.rd a) && decide (o.fld (Reg.memDmaChStat (x / 32) (x % 32)) 0 3 ≠ 0)) a

/-! ### SHUT -/

/-- Slot `i` of shutter `q` is valid. -/
def State.slotValid (n : State) (q i : Nat) : Bool := decide (128 ≤ n.slotByte q i)

/-- The composition of an enabled shutter's samples (R391). -/
def State.shutShapeFails (n : State) (q : Nat) : List Fail :=
  let k := (n.shutChans q).length
  let g := (n.shutGroups q).length
  failIf (decide (4 < g ∨ 20 < k + g)) (Reg.shutSCfg q)
    ++ failIf (k == 0 || !(List.range 16).all (fun i => n.slotValid q i == decide (i < k))
        || (n.shutChans q).any (fun c => decide (79 < c)) || !decide (n.shutChans q).Nodup) (Reg.shutSCh q 0)

/-- Its film and segments (R394, R395). -/
def State.filmFails (n : State) (q : Nat) : List Fail :=
  let size := n.fld (Reg.shutSFilm q) 8 8
  let total := (List.range 8).foldl (fun t p => if n.shutOn p then t + n.fld (Reg.shutSFilm p) 8 8 else t) 0
  failIf (decide (size < 16 ∨ 128 < size ∨ 256 < n.fld (Reg.shutSFilm q) 0 8 + size ∨ 128 < total)
      || n.segments q == 0) (Reg.shutSFilm q)
    ++ failIf (n.shutPost q == 0) (Reg.shutSPost q)

/-- Its trigger (R398, R399, R401). -/
def State.trigFails (n : State) (q : Nat) : List Fail :=
  let ty := n.fld (Reg.shutSTrig q) 2 3
  let l1 := signedOf 24 (n.fld (Reg.shutSLevel q) 0 24)
  let l2 := signedOf 24 (n.fld (Reg.shutSLevel2 q) 0 24)
  let (f, d) := n.outRate (n.slotByte q 0 % 128) (n.shutPreset q)
  failIf (!n.slotValid q (n.fld (Reg.shutSTrig q) 8 4)) (Reg.shutSTrig q)
    ++ failIf ((ty == 2 || ty == 4) && decide (l2 ≤ l1)) (Reg.shutSLevel q)
    ++ failIf (decide (n.fld (Reg.shutSTime q) 16 16 < n.fld (Reg.shutSTime q) 0 16)) (Reg.shutSTime q)
    ++ failIf (n.fld (Reg.shutSTrig q) 0 2 == 1 &&
        decide (n.shutPost q * (n.fld (Reg.shutSCfg q) 8 16 + 1) * d * 10000000000 < n.fld (Reg.shutSPat q) 16 16 * 16 * f))
        (Reg.shutSPat q)

/-- Its enabled mask zones (R402). -/
def State.zoneFails (n : State) (q : Nat) : List Fail :=
  (List.range 8).flatMap (fun z =>
    if n.bit (Reg.shutSZoneCfg q z) 0 then
      failIf (!n.slotValid q (n.fld (Reg.shutSZoneCfg q z) 1 4)) (Reg.shutSZoneCfg q z)
        ++ failIf (decide (n.fld (Reg.shutSZoneEnd q z) 0 20 < n.fld (Reg.shutSZoneCfg q z) 12 20)) (Reg.shutSZoneEnd q z)
        ++ failIf (decide (signedOf 24 (n.fld (Reg.shutSZoneHi q z) 0 24) ≤ signedOf 24 (n.fld (Reg.shutSZoneLo q z) 0 24)))
            (Reg.shutSZoneLo q z)
    else [])

/-- A register of R411's second sentence: channels, groups, film, lead, post. -/
def filmReg (o n : State) (q a : Nat) : Bool :=
  (a == Reg.shutSCfg q && decide (o.fld a 24 8 ≠ n.fld a 24 8)) || decide (Reg.shutSCh q 0 ≤ a ∧ a ≤ Reg.shutSPost q)

/-- The checks of a staged SHUT register. -/
def shutRegFails (o n : State) (a : Nat) : List Fail :=
  match shutOfReg a with
  | none => []
  | some q =>
    let moved := decide (o.rd a ≠ n.rd a)
    (if n.shutOn q then n.shutShapeFails q ++ n.filmFails q ++ n.trigFails q ++ n.zoneFails q else [])
      ++ failIf (a == Reg.shutSTrig q && (decide (4 < n.fld a 2 3) || n.fld a 5 2 == 3)) a
      ++ failWith .notPermitted (moved && decide (o.shutState q ≠ 0)) a
      ++ failWith .busy (moved && filmReg o n q a && decide (o.unread q ≠ 0)) a

/-! ### NET -/

/-- NET_ETHp_CFG (R444, R470). -/
def State.ethFails (n : State) (p : Nat) : List Fail :=
  let a := Reg.netEthCfg p
  let mode := n.fld a 0 3
  let sp := n.fld a 3 2
  failIf ((decide (1 ≤ mode ∧ mode ≤ 2) && decide (1 < sp)) || (decide (3 ≤ mode ∧ mode ≤ 4) && sp == 3)
      || (mode == 5 && decide (sp ≠ 3)) || (n.bit a 7 && (n.fld a 8 12 == 0 || n.fld a 8 12 == 4095))) a

/-- Clock cycles of a nominal, of a data bit (R465). -/
def State.nomBit (n : State) (c : Nat) : Nat :=
  let a := Reg.netCanNbt c
  (n.fld a 0 5 + 1) * (n.fld a 5 8 + n.fld a 13 7 + 3)
def State.dataBit (n : State) (c : Nat) : Nat :=
  let a := Reg.netCanDbt c
  (n.fld a 0 5 + 1) * (n.fld a 5 6 + n.fld a 11 5 + 3)

/-- A CAN controller that is not off (R464, R465, R470). -/
def State.canFails (n : State) (c : Nat) : List Fail :=
  let fmt := n.fld (Reg.netCanCfg c) 0 2
  let pwm := n.bit (Reg.netCanCfg c) 6
  let d := n.dataBit c
  let xl := Reg.netCanXl c
  if fmt = 0 then []
  else
    failIf (decide (n.nomBit c < 200 ∨ 20000 < n.nomBit c) || decide (n.fld (Reg.netCanNbt c) 13 7 < n.fld (Reg.netCanNbt c) 20 7))
        (Reg.netCanNbt c)
      ++ failIf (decide (2 ≤ fmt) && (decide (d < (if fmt = 2 then 25 else if pwm then 10 else 20))
          || decide (n.fld (Reg.netCanDbt c) 11 5 < n.fld (Reg.netCanDbt c) 16 5)
          || (decide (d < 200) && !n.bit (Reg.netCanDbt c) 28))) (Reg.netCanDbt c)
      ++ failIf (fmt == 3 && pwm && (n.fld xl 0 6 == 0 || n.fld xl 6 6 == 0 || n.fld xl 12 6 == 0)) xl

/-- The checks of a staged NET register. -/
def netRegFails (n : State) (a : Nat) : List Fail :=
  failIf (a == Reg.netPtpCfg && decide (0 < n.fld a 12 4 ∧ n.fld a 12 4 < 9)) a
    ++ (match idxOf (Reg.netCmpCfg 0) 0x10 14 (a - a % 0x10) with
        | some k => failIf (n.bit (Reg.netCmpCfg k) 1 && decide (n.rd (Reg.netCmpPer k) = 0)) (Reg.netCmpPer k)
        | none => [])
    ++ (match idxOf (Reg.netEthCfg 0) 0x40 2 a with | some p => n.ethFails p | none => [])
    ++ (if 0x100D0400 ≤ a ∧ a < 0x100D0C00 then n.canFails ((a - 0x100D0400) / 0x200) else [])

/-! ### FAB, SYS, SEC, PERF and CERT_MODE -/

/-- The checks of a staged stream register (R506, R508). -/
def streamFails (n : State) (a : Nat) : List Fail :=
  (match idxOf (Reg.fabPubCfg 0) 4 64 a with
    | some _ => failIf (n.bit a 0 && (n.fld a 3 12 == 0 || (n.fld a 1 2 == 1 &&
        decide (1 < ((List.range 64).filter (fun i => n.bit (Reg.fabPubCfg i) 0 && n.fld (Reg.fabPubCfg i) 1 2 == 1)).length)))) a
    | none => [])
    ++ (match idxOf (Reg.fabSubCfg 0) 8 256 a with
        | some _ => failIf (n.bit a 0 && (n.fld a 3 12 == 0 || (n.bit a 15 && !n.ringEnabled (50 + n.fld a 16 3)))) a
        | none => [])

/-- A count source of R564. -/
def sourceOk (x : Nat) : Bool :=
  decide ((0x0100 ≤ x ∧ x ≤ 0x11FF) ∨ (0x8000 ≤ x ∧ x ≤ 0x8002) ∨ (0x8010 ≤ x ∧ x ≤ 0x8013) ∨ (0x8100 ≤ x ∧ x ≤ 0x815F)
    ∨ (0x8200 ≤ x ∧ x ≤ 0x8210) ∨ (0x8220 ≤ x ∧ x ≤ 0x8227) ∨ x = 0x8230 ∨ x = 0x8231 ∨ (0x8240 ≤ x ∧ x ≤ 0x8243)
    ∨ (0x8250 ≤ x ∧ x ≤ 0x8257))

/-- Counter `k` passes its overflows to a chained successor: it may not reload or sample (R565). -/
def State.counterFails (n : State) (k : Nat) : List Fail :=
  let next := decide (k < 31) && n.bit (Reg.perfCntCfg (k + 1)) 17
  failIf (next && n.bit (Reg.perfCntCfg k) 18) (Reg.perfCntCfg k)
    ++ failIf (next && decide (n.rd (Reg.perfCntReload k) ≠ 0)) (Reg.perfCntReload k)

/-- The checks of a staged PERF counter register. -/
def counterRegFails (n : State) (a : Nat) : List Fail :=
  match idxOf (Reg.perfCntCfg 0) 0x10 32 (a - a % 0x10) with
  | none => []
  | some k =>
    failIf (a == Reg.perfCntCfg k && (!sourceOk (n.fld a 0 16) || (k == 0 && n.bit a 17))) a
      ++ n.counterFails k ++ (if k = 0 then [] else n.counterFails (k - 1))

/-- SYS_CLK_CFG (R511, R515). -/
def State.clockFails (o n : State) : List Fail :=
  let a := Reg.sysClkCfg
  failWith .notPermitted ((n.bit a 2 && [0, 1].any (fun p => decide (n.fld (Reg.netEthCfg p) 0 3 ≠ 0)))
      || (n.bit a 3 && n.bit Reg.fabCfg 0)
      || (decide (o.fld a 0 2 ≠ n.fld a 0 2) && (o.laneSwitching))) a

/-- While CERT_MODE is in force, a change that breaks one of conditions 6 to 8 (R549). -/
def certRegFails (o n : State) (a : Nat) : List Fail :=
  let breaks (k : Nat) : Bool := o.certMode && o.certCondition k && !n.certCondition k
  failWith .notPermitted (((a == Reg.fabCfg || a == Reg.netTimeCfg) && breaks 6) || (a == Reg.secTamperCfg && breaks 7)
    || (a == Reg.hostCfg && breaks 8)) a

/-! ### One register -/

/-- The checks that register `a`, staged with value `v`, calls for (R433 step 1). -/
def regFails (o n : State) (a : Nat) (v : Word) : List Fail :=
  failIf (outside (rangesOf a) (n.rd a)) a
    ++ failWith .notPermitted (barredIn o n o.mode a) a
    ++ laneRegFails o n a ++ convRegFails n a ++ tbGroupFails n a
    ++ failIf (isIdx (Reg.gateChProt 0) 0x20 48 a && (let u := n.fld a 24 5; decide (u ≠ 0 ∧ (u < 4 ∨ 20 < u)))) a
    ++ failIf (a == Reg.cycleEifHold && decide (field v 30 2 ≠ 0)) a
    ++ failIf (isIdx (Reg.cycleEifSafe 0) 4 32 a && !F32.finite (n.rd a)) a
    ++ (match idxOf (Reg.memRingCfg 0) 0x10 64 a with | some r => ringFails o n r | none => [])
    ++ (match idxOf (Reg.memDmaChCfg 0 0) 0x10 128 a with | some x => dmaFails o n x | none => [])
    ++ shutRegFails o n a ++ netRegFails n a ++ streamFails n a ++ counterRegFails n a
    ++ (if a = Reg.sysClkCfg then State.clockFails o n else [])
    ++ failWith .notPermitted (a == Reg.fabTtCycle && n.bit Reg.fabTtCtrl 0) a
    ++ certRegFails o n a

/-! ### The interlock matrix -/

/-- The checks of R266 on group `g`. -/
def State.matrixFails (n : State) (g : Nat) : List Fail :=
  let slots := (List.range 6).filterMap (fun i => (n.member g i).map (fun c => (i, c)))
  let gap := n.fld (Reg.gateIlgMem1 g) 16 10
  slots.flatMap (fun e =>
      failIf (decide (47 < e.2) || slots.any (fun f => decide (f.1 < e.1) && f.2 == e.2))
        (if e.1 < 4 then Reg.gateIlgMem0 g else Reg.gateIlgMem1 g))
    ++ failIf (decide (gap < 25 ∨ 1000 < gap)) (Reg.gateIlgMem1 g)
    ++ failIf ((List.range 4).any (fun j => n.bit (Reg.gateIlgSet g) (8 * j + 7) &&
        (let m := indicesWhere 6 (fun i => n.bit (Reg.gateIlgSet g) (8 * j + i))
         decide (m.length < 2) || m.any (fun i => (n.member g i).isNone)))) (Reg.gateIlgSet g)

/-- An enabled forbidden set equals {2k, 2k + 1}. -/
def State.pairGuarded (n : State) (k : Nat) : Bool :=
  n.forbiddenSets.any (fun e => e.2.length == 2 && e.2.contains (2 * k) && e.2.contains (2 * k + 1))

/-- R266 on the whole matrix, in ascending address: the groups, then the half-bridges. -/
def State.interlockFails (n : State) : List Fail :=
  (List.range 16).flatMap n.matrixFails
    ++ (List.range 24).flatMap (fun k =>
        failWith .notPermitted (n.bit (Reg.gateChCfg (2 * k)) 0 && n.bit (Reg.gateChCfg (2 * k + 1)) 0
          && !n.bit (Reg.gatePairCfg k) 1 && !n.pairGuarded k) (Reg.gatePairCfg k))

end Sys2Proof.Machine
end

