-- ==== Sys2Proof/Machine/Transport.lean ====
section
/-! DEFINITION. The host transports (R418 to R422): PCI Express ring windows, Ethernet reassemblies and losses, and the
SPI port. -/

namespace Sys2Proof.Machine

/-- The replies that wait on channel `c` are lost with its transport. -/
def State.dropReplies (s : State) (c : Nat) : State :=
  let s := s.setWaitingReplies c []
  (s.setRing (2 * c + 1) { s.ring (2 * c + 1) with units := [] }).setFill (2 * c + 1) 0

/-- Every session of the channels that satisfy `p` faults (R426), and their waiting replies are lost. -/
def State.faultSessions (s : State) (p : Nat → Bool) : State :=
  let s := (List.range 128).foldl (fun s n => if s.isOpen n && p (s.sessChan n) then s.endSession n .fault else s) s
  ((List.range 8).filter p).foldl State.dropReplies s

/-! ### PCI Express -/

/-- The bits of a ring-window register that the host writes (R419). -/
def winMask : Nat → Nat
  | 0x00 => 0xFFFFFFFF | 0x04 => 0xFFFFFFFF | 0x08 => 0x10F | 0x0C => 0xFF | 0x14 => 0xFFFFFFFF | 0x18 => 0xFFFFFFFF
  | 0x1C => 0x7010F | 0x24 => 0xFF | 0x28 => 0xFFFFFFFF | 0x2C => 0xFFFFFFFF | 0x30 => 0x7FF | _ => 0

/-- BAR0 writes into the window of channel `c`: offsets and values (log entry 64, DESIGN CHOICE). -/
def State.writeWindow (s : State) (c : Nat) (l : List (Nat × Word)) : State :=
  l.foldl (fun s e => if winMask e.1 = 0 then s else s.wr (winReg c e.1) (e.2 &&& word (winMask e.1))) s

/-- PCIE_LINK_UP (R419): the link trains at a generation and width. -/
def execPcieLinkUp (gen width : Nat) (s : State) : Host.Outcome State Fault Refusal :=
  .next (if gen < 1 ∨ 3 < gen ∨ width < 1 ∨ 2 < width then s
    else ((s.setBit Reg.hostStatus 0 true).put Reg.hostStatus 1 2 gen).put Reg.hostStatus 3 2 width)

/-- The effect of a write to RQ_HEAD: freed slots take waiting replies (R419). -/
def State.advanceRq (s : State) (c head : Nat) : State := (s.put (winReg c 0x24) 0 8 head).drainPcie c

/-- PCIE_LINK_RESET (R419): every ring window returns to its reset values and the sessions of channels 0 to 4 fault;
`down`: the link is down. -/
def execPcieLinkReset (down : Bool) (s : State) : Host.Outcome State Fault Refusal :=
  .next (
    let s := s.faultSessions (fun c => decide (c < 5))
    let s := { s with regs := s.regs.filter (fun e => !(decide (0x100000000 ≤ e.1) && decide (e.1 < 0x100000500))) }
    if down then s.put Reg.hostStatus 0 5 0 else s)

/-- BAR2_WRITE (R419, R21): a word for shared SRAM is written outside CERT_MODE, but not on a marked page (R33) (log
entry 66, DEDUCED); in CERT_MODE, and for a register, the write is discarded and counted. -/
def execBar2Write (a : Nat) (v : Word) (s : State) : Host.Outcome State Fault Refusal :=
  .next (if s.certMode ∨ inBlocks a then (s.countUp Reg.hostBar2Discard 0 16 1).raise 0x0D05 []
    else if a < memSize ∧ a % 4 = 0 ∧ s.pageMarked a = false then s.wrBytes a (wordBytes v)
    else s)

/-! ### Ethernet -/

/-- ETH_REASSEMBLY_TIMEOUT (R420): a datagram of port `p` is incomplete 20 ms after its first fragment. -/
def execEthReassemblyTimeout (p key : Nat) (s : State) : Host.Outcome State Fault Refusal :=
  .next (if s.net.reasm.any (fun r => r.1 == p && r.2.1 == key && decide (r.2.2 + 20 ≤ s.tick)) then
    (s.setNet { s.net with reasm := s.net.reasm.filter (fun r => !(r.1 == p && r.2.1 == key)) }).countUp Reg.hostEthReasm 0 16 1
  else s)

/-- ETH_PORT_DOWN_FAULT (R420): the port's link has been down for 1 s. -/
def execEthPortDownFault (p : Nat) (s : State) : Host.Outcome State Fault Refusal :=
  .next (if p < 2 ∧ ¬ s.bit (Reg.netEthStat p) 0 ∧ sparseGet (fun _ => 0) s.net.downTick p + 1000 ≤ s.tick then
    s.faultSessions (fun c => c == 5 + p)
  else s)

/-! ### SPI -/

def State.setSpi (s : State) (t : SpiSt) : State := s.setNet { s.net with spi := t }

/-- SPI_WRITE (R421): a transaction of type 0xA1; `whole`: the frame has been received whole, and its packet follows as
a command of its own. -/
def execSpiWrite (whole : Bool) (s : State) : Host.Outcome State Fault Refusal :=
  .next (if s.serves 7 ∧ (s.net.spi = .idle ∨ s.net.spi = .writing) then s.setSpi (if whole then .written else .writing)
    else s)

/-- SPI_READ (R421): a transaction of type 0xA2; `whole`: every byte of the oldest reply or notice has been clocked
out. -/
def execSpiRead (whole : Bool) (s : State) : Host.Outcome State Fault Refusal :=
  .next (if s.serves 7 ∧ (s.net.spi = .idle ∨ s.net.spi = .reading false) then
    s.setSpi (.reading (whole && decide (s.waitingReplies 7 ≠ [])))
  else s)

/-- SPI_INVALID_TYPE (R421): any other first byte. -/
def execSpiInvalidType (s : State) : Host.Outcome State Fault Refusal :=
  .next (if s.serves 7 ∧ s.net.spi = .idle then (s.setSpi .ignored).countUp Reg.hostDrop 0 16 1 else s)

/-- HSPI_CS rises (R421, R422): an incomplete frame is abandoned, and a packet that was clocked out whole leaves its
queue. -/
def State.spiEnd (s : State) : State :=
  let t := s.net.spi
  let s := s.setSpi .idle
  match t with
  | .writing => (s.countUp Reg.hostSpiAbort 0 16 1).raise 0x0D06 []
  | .reading true => s.sendReply 7
  | _ => s

/-- SPI_FRAME_ABORTED (R422): the gap between two bytes of a frame exceeds ib_timeout. -/
def execSpiFrameAborted (s : State) : Host.Outcome State Fault Refusal :=
  .next (if s.net.spi = .writing then ((s.setSpi .ignored).countUp Reg.hostSpiAbort 16 16 1).raise 0x0D06 [] else s)

/-- A HOST register takes its fixed value (R443): a transport that HOST_CFG disables faults its sessions (R426). -/
def State.applyHost (s : State) (a : Nat) (v : Word) : State :=
  let s := s.wrRw a v
  if a = Reg.hostCfg then s.faultSessions (fun c => !s.transportOn c) else s

end Sys2Proof.Machine
end

