-- ==== Sys2Proof/Machine/Fix.lean ====
section
/-! DEFINITION. CFG_FIX and FIX_APPLIED (R433 to R435): the objects of the staged set and their claims (R23 to R29), the
steps of validation, acceptance, and the boundary at which each register takes its fixed value. -/

namespace Sys2Proof.Machine

/-! ### Objects and claims -/

/-- The objects of the staged set, in the order in which their first register was staged (R431). -/
def State.stagedObjs (s : State) : List Obj :=
  s.staging.foldl (fun l e => if l.contains (objOf e.1) then l else l ++ [objOf e.1]) []

/-- Index of the pad in row `r`, column `c` of the ball grid (R575). -/
def padAt (r c : Nat) : Nat := 30 * r + (c - 1)

/-- The pads AINnnP and AINnnN of analogue input `c`. -/
def ainPads (c : Nat) : List Nat :=
  if c < 30 then [padAt 0 (c + 1), padAt 1 (c + 1)]
  else if c < 60 then [padAt 3 (c - 29), padAt 4 (c - 29)]
  else [padAt 6 (c - 59), padAt 7 (c - 59)]

/-- `g` put into its place among ascending numbers. -/
def insertNat (g : Nat) : List Nat → List Nat
  | [] => [g]
  | x :: xs => if g ≤ x then g :: x :: xs else x :: insertNat g xs

/-- Claims of one owner on granules of one kind, in ascending granule (log entry 38, DEDUCED). -/
def claimsOn (kind okind oidx : Nat) (granules : List Nat) : List Claim :=
  (granules.foldr insertNat []).map (fun g =>
    ({ kind := kind, granule := g, ownerKind := okind, ownerIdx := oidx } : Claim))

/-- A run of FILM granules. -/
def filmRun (first size : Nat) : List Nat := (List.range size).map (first + ·)

/-- A ring that a conversion group or a shutter names is claimed by it, and not by the ring's own configuration (R93,
R397; log entry 23, DEDUCED). -/
def namedRing (r : Nat) : Bool := (decide (16 ≤ r) && decide (r < 32)) || (decide (40 ≤ r) && decide (r < 48))

/-- The claims of object `x` in configuration `n`, whose timetable entries the set gives as `tt` (R23, R24) (log entry
23, DEDUCED). -/
def State.claimsFor (n : State) (tt : List (Nat × Word)) (x : Obj) : List Claim :=
  let i := x.index
  let mk (kind : Nat) (gs : List Nat) : List Claim := claimsOn kind x.kind i gs
  match x.kind with
  | 1 => if n.groupOn i then
      mk 1 (((n.groupChans i).filter (· < 64)).flatMap ainPads)
        ++ (if n.bit (Reg.convGrpCfg i) 20 then mk 3 [16 + n.fld (Reg.convGrpCfg i) 8 4] else [])
    else []
  | 2 => if n.bsEnabled i then mk 1 [padAt 6 (11 + i), padAt 7 (11 + i)] else []
  | 3 => if n.bit (Reg.pwmTripCfg 0 i) 0 then
      (if i < 16 then mk 1 [270 + i] else [])
        ++ (if n.bit (Reg.pwmTripCfg 0 i) 9 then mk 2 [n.fld (Reg.pwmTripCfg 0 i) 10 6] else [])
    else []
  | 4 => if n.bit (Reg.pwmPwxCfg 0 i) 0 then mk 1 [286 + i] else []
  | 5 => if n.bit (Reg.laneSpillCfg i) 0 then
      mk 4 (filmRun (n.fld (Reg.laneSpillAddr i) 0 8) (n.fld (Reg.laneSpillCfg i) 11 5)) else []
  | 6 => if n.shutOn i then
      mk 4 (filmRun (n.fld (Reg.shutSFilm i) 0 8) (n.fld (Reg.shutSFilm i) 8 8))
        ++ mk 3 [40 + n.fld (Reg.shutSCfg i) 5 3]
    else []
  | 8 => if n.bit (Reg.memDmaChCfg (i / 32) (i % 32)) 0 then mk 5 [i] else []
  | 9 => if n.ringEnabled i ∧ ¬ namedRing i then mk 3 [i] else []
  | 0x10B => claimsOn 4 0 0 [n.fld Reg.memFrCfg 0 8]
  | 0x200 =>
    match tt.find? (fun e => e.1 == 2 * i + 1) with
    | some e => if field e.2 12 12 = 0 then [] else claimsOn 6 0x0A (field e.2 12 12) [i]
    | none => []
  | _ => []

/-- Claims that the set drops: those of its objects that they no longer make (R29). -/
def State.dropsFor (s : State) (claims : List Claim) (x : Obj) : List Claim :=
  s.ledger.filter (fun c =>
    (if x.kind = 0x10B then c.ownerKind == 0 && c.kind == 4 else c.ownerKind == x.kind && c.ownerIdx == x.index)
      && !claims.contains c)

/-! ### The set -/

/-- The configuration in force with every accepted set still pending, timetable changes included (R433). -/
def State.judgedView (s : State) : State :=
  let o := s.fixedView
  s.fixes.foldl (fun o x =>
    match x.table with
    | none => o
    | some t =>
      let o := match t.cycle with | some c => o.put Reg.fabTtCycle 0 14 c | none => o
      o.setFab { o.fab with shadow := writeEntries o.fab.shadow t.entries,
                            active := if t.direct then writeEntries o.fab.active t.entries else o.fab.active }) o

/-- The configuration that the staged set would leave over `o`, but for the timetable's copies. -/
def State.stagedView (s o : State) : State :=
  s.staging.foldl (fun n e => if (slotWord e.1).isSome then n else n.wrConfig e.1 e.2) o

/-- The timetable part of the staged set. -/
def State.stagedTable (s n : State) : Option TtPart :=
  let entries := s.staging.filterMap (fun e => (slotWord e.1).map (fun k => (k, e.2)))
  let cycle := (s.staging.find? (fun e => e.1 == Reg.fabTtCycle)).map (fun _ => n.fld Reg.fabTtCycle 0 14)
  if entries = [] ∧ cycle = none then none
  else some { entries := entries, cycle := cycle, direct := n.bit Reg.fabTtCtrl 0 }

/-! ### The steps of R433 -/

/-- Step 1 on one object (log entry 25, DEDUCED). -/
def State.objFails (s o n : State) (x : Obj) : List Fail :=
  let mine := s.staging.filter (fun e => objOf e.1 == x)
  mine.flatMap (fun e => if (slotWord e.1).isSome then [] else regFails o n e.1 e.2)
    ++ (if mine.any (fun e => inControl e.1) then n.controlFails else [])

/-- Step 1: the first object, in object order, with a failing register, and its lowest such register (log entry 26,
DEDUCED; log entry 27, DEDUCED; log entry 29, DEDUCED). -/
def State.fixFields (s o n : State) : Option (Status × List Byte) :=
  s.stagedObjs.findSome? (fun x => (lowest (s.objFails o n x)).map (fun f => (f.status, f.payload)))

/-- Every claim of the set, in object order. -/
def State.fixClaims (s n : State) : List Claim :=
  let tt := match s.stagedTable n with | some t => t.entries | none => []
  s.stagedObjs.flatMap (n.claimsFor tt)

/-- The first claim whose granule another object owns, in the ledger or by an earlier claim of the set, or holds a marked
page (R23, R26, R27, R362). -/
def State.ledgerFails (s : State) : List Claim → Option (Status × List Byte)
  | [] => none
  | c :: cs =>
    match s.collision [c] with
    | some d => some (.conflict, conflictBytes d)
    | none => if s.claimMarked c then some (.faultLasting, []) else (s.addClaim c).ledgerFails cs

/-- Step 2: the claims of the set in the order of its objects (R26). -/
def State.fixLedger (s n : State) : Option (Status × List Byte) := s.ledgerFails (s.fixClaims n)

/-- Step 3: a bank whose films exceed its share (R409), with the computed sum rounded up. -/
def State.fixShutters (n : State) : Option (Status × List Byte) :=
  (List.range 16).findSome? (fun b =>
    let r := n.bankRate b
    if n.bankLimit b * r.2 < r.1 then some (.outOfRange, n8 b ++ n8 0 ++ n16 0 ++ n32 ((r.1 + r.2 - 1) / r.2)) else none)

/-- Step 4: the copies that the set would leave (R490). -/
def State.fixTable (s o n : State) : Option (Status × List Byte) :=
  match s.stagedTable n with
  | none => none
  | some t =>
    let judge (copy : List (Nat × Word)) (c : Nat) : Option (Status × List Byte) :=
      (s.admit490 s.fab.routes (writeEntries copy t.entries) c [0, 1]).map (fun f =>
        (.outOfRange, n16 f.1 ++ n8 f.2.1 ++ n8 f.2.2))
    match (if t.direct then judge o.fab.active s.activeCycle else none) with
    | some f => some f
    | none => judge o.fab.shadow (n.fld Reg.fabTtCycle 0 14)

/-- Step 5 (R266), where the set touches GATE. -/
def State.fixInterlock (s n : State) : Option (Status × List Byte) :=
  if s.staging.any (fun e => decide (0x10070000 ≤ e.1 ∧ e.1 < 0x10080000)) then
    (lowest n.interlockFails).map (fun f => (f.status, f.payload))
  else none

/-- The verdict on the staged set: the first failing step decides (R433) (log entry 26, DEDUCED). -/
def State.fixVerdict (s : State) : Option (Status × List Byte) :=
  let o := s.judgedView
  let n := s.stagedView o
  (s.fixFields o n).or ((s.fixLedger n).or ((State.fixShutters n).or ((s.fixTable o n).or (s.fixInterlock n))))

/-- Acceptance: the claims enter the ledger, the staging area is emptied, and the set waits for its boundaries (R434). -/
def State.fixAccept (s : State) (op : Nat) (p : Packet) : State :=
  let n := s.stagedView s.judgedView
  let claims := s.fixClaims n
  let objs := s.stagedObjs
  let table := s.stagedTable n
  let items := (s.staging.filter (fun e => (slotWord e.1).isNone && e.1 != Reg.fabTtCycle)).map (fun e => (e.1, n.rd e.1))
  let releases := (objs.filter (fun x => x.kind ≠ 0x200)).flatMap (s.dropsFor claims)
  let kept := s.fixes.map (fun x => { x with releases := x.releases.filter (fun c => !claims.contains c) })
  let fix : Fix := { opcode := op, packet := p, items := items, table := table, releases := releases, objects := objs }
  let s := claims.foldl State.addClaim { s with fixes := kept ++ [fix], staging := [] }
  let s := match s.fab.tt.dist with | some d => if table.isSome ∧ s.distDone d then s.endDist else s | none => s
  s.startTables

/-- CFG_FIX's checks and effect (R433, R434) (log entry 31, DEDUCED). -/
def State.runFix (s : State) (p : Packet) : State :=
  match s.leaseCheck 1 0 p with
  | some st => s.finish 0x0102 p st []
  | none =>
    if s.staging = [] then s.finish 0x0102 p .ok []
    else match s.fixVerdict with
      | some (st, payload) => s.finish 0x0102 p st payload
      | none => (s.pend 0x0102 p).fixAccept 0x0102 p

/-- CFG_FIX (R433). -/
def execCfgFix (p : Packet) (s : State) : Host.Outcome State Fault Refusal :=
  .next (s.command 0x0102 p (decide (p.payload = [])) (fun s => s.runFix p))

/-! ### Application -/

/-- A register takes its fixed value, with what its block says follows. -/
def State.applyItem (s : State) (a : Nat) (v : Word) : State :=
  match (a - 0x10000000) / 0x10000 with
  | 0x1 => s.applyConv a v
  | 0x2 => s.applyFilt a v
  | 0x3 | 0x4 => s.applyLane a v
  | 0x5 | 0x6 => s.applyPwm a v
  | 0x7 => s.applyGate a v
  | 0x9 => s.applyCycle a v
  | 0xA => s.applyMem a v
  | 0xB => s.applyShut a v
  | 0xC => s.applyHost a v
  | 0xD => s.applyNet a v
  | 0xE => s.applyFab a v
  | 0x0 => s.applySys a v
  | 0x10 => s.applyPerf a v
  | _ => s.wrRw a v

/-- Units' and pairs' registers, with the timebase whose update points they wait for (R249). -/
def State.unitClock (s : State) (a : Nat) : Option Nat :=
  if 0x10050400 ≤ a ∧ a < 0x10050700 then some (s.unitTb ((a - 0x10050400) / 0x10))
  else if 0x10050800 ≤ a ∧ a < 0x10050860 then some (s.unitTb ((a - 0x10050800) / 4 * 2))
  else none

/-- The channel of comparator register `a` once its change has applied. -/
def State.thrChannel (s : State) (a : Nat) : Option Nat :=
  (thrOfReg a).map (fun k => field (s.fixedValue (Reg.filtThrCfg k)) 12 7)

/-- Comparator register `a` takes its value at the instant of R123: the FIX enables the comparator, or changes its
channel, on a bitstream input that is not enabled. -/
def State.thrNow (s : State) (a : Nat) : Bool :=
  match thrOfReg a with
  | some k => s.blinded k (s.fixedValue (Reg.filtThrCfg k))
  | none => false

/-- The modulator clock of bitstream input `m` runs: its changes take effect at its next period, for which the table has
no row (R109) (log entry 32, DEDUCED). -/
def State.bsClock (s : State) (m : Nat) : Bool := s.outputsRun && s.bsEnabled m && !s.bsStale m

/-- A register without a boundary of its own, which takes its value at the first CLK_CTL cycle after the FIX (R434)
(log entry 32, DEDUCED). -/
def State.appliesNow (s : State) (a : Nat) : Bool :=
  match (a - 0x10000000) / 0x10000 with
  | 0x1 => a == Reg.convCal || (match idxOf (Reg.convBsCfg 0) 4 16 a with | some m => s.bsClock m | none => false)
  | 0x2 => s.thrNow a
  | 0x5 => match tbOfReg a with | some t => !s.tbRuns t | none => (s.unitClock a).isNone
  | 0x7 => match chanOfReg a with
    | some c => !(s.chanState c == .turnOn || s.chanState c == .turnOff || s.chanState c == .softOff)
    | none => true
  | 0xA | 0xB | 0xF => true
  | 0xE => !isFabCycleReg a
  | 0x0 => a != Reg.sysClkCfg || !s.refModeDue
  | _ => false

/-- The trigger clock of group `g` runs, under its old or its new configuration. -/
def State.groupClock (s : State) (g : Nat) : Bool :=
  (s.groupOn g && s.tbRuns (s.groupTb g))
    || (let w := s.fixedValue (Reg.convGrpCfg g); field w 0 1 == 1 && s.tbRuns (field w 1 4))

/-- Outputs of channel `c` come: CLK_CONV runs, and a bitstream input is enabled and not STALE. -/
def State.channelClock (s : State) (c : Nat) : Bool :=
  s.outputsRun && (decide (c < 64) || (s.bsEnabled (c - 64) && !s.bsStale (c - 64)))

/-- A register that takes its value at a module tick: the tick is its boundary, or its boundary's clock is stopped
(R434). -/
def State.appliesAtTick (s : State) (a : Nat) : Bool :=
  match (a - 0x10000000) / 0x10000 with
  | 0x1 => if 0x10010100 ≤ a ∧ a < 0x10010300 then !s.groupClock ((a - 0x10010100) / 0x20)
    else match idxOf (Reg.convBsCfg 0) 4 16 a with
      | some m => !s.bsClock m
      | none => !s.outputsRun
  | 0x2 => match s.thrChannel a with
    | some c => !s.channelClock c
    | none =>
      let c := (a - Reg.filtChCfg 0) / 4
      match (List.range 16).find? (fun g => s.groupOn g && (s.groupChans g).contains c) with
      | some g => !s.groupClock g
      | none => !s.channelClock c
  | 0x3 | 0x4 => !s.schedRuns
  | 0x5 => match s.unitClock a with | some t => !s.tbRuns t | none => false
  | 0x9 | 0xC | 0xD | 0x10 => true
  | 0xE => isFabCycleReg a && (!s.fabClock || (!s.isSurveyor && !s.hasRoutes))
  | _ => false

/-- Accepted sets take effect at the first CLK_CTL cycle, and those that have applied everywhere end (R434). -/
def State.applyNow (s : State) : State := ((s.takeItems s.appliesNow State.applyItem).showFilm).closeFixes

end Sys2Proof.Machine
end

