-- ==== Sys2Proof/Machine/Direct.lean ====
section
/-! DEFINITION. MEM_WRITE (R6, R20, R373, R376, R432) and the rows of registers that act directly: each is a MEM_WRITE of
one word to the register that the row names. -/

namespace Sys2Proof.Machine

/-! ### Checks and effects of one register -/

/-- Checks of a write to LANE_RED_CMD (R226) (log entry 34, DEDUCED). -/
def State.redCmdCheck (s : State) (p : Packet) (v : Word) : Option Status :=
  match s.leaseCheck 3 0 p with
  | some st => some st
  | none =>
    if field v 0 8 = 0xA5 then
      (if [0, 1].any (fun l => s.isStandby l && s.bit (Reg.laneRedStatus l) 2) then none else some .notPermitted)
    else if field v 0 8 = 0x5A then none
    else some .outOfRange

/-- The status of a trip clear that is refused (R246). -/
def tripStatus : Nat → Status
  | 0x0304 => .outOfRange
  | _ => .tripActive

/-- Checks of a write of `v` to WO register `a`. -/
def State.commandCheck (s : State) (p : Packet) (a : Nat) (v : Word) : Option Status :=
  if a = Reg.convOwTest then (s.owTestRefused v).map (fun _ => .notPermitted)
  else if a = Reg.laneRedCmd 0 ∨ a = Reg.laneRedCmd 1 then s.redCmdCheck p v
  else if a = Reg.pwmTripClr 0 ∨ a = Reg.pwmTripClr 1 then (s.clearRefused (field v 0 7)).map tripStatus
  else if a = Reg.netTcAdj ∨ a = Reg.netTcSetsec then s.timeWriteCheck p
  else if a = Reg.sysResetCmd then s.resetCheck p v
  else none

/-- Checks of a write of `v` to the register at `a` (R7, R9, R21, R432). -/
def State.writeCheck (s : State) (p : Packet) (a : Nat) (v : Word) : Option Status :=
  if inSafe a then some .notPermitted
  else match regRow a with
    | none => none
    | some r => match r.access with
      | .rw => some .notPermitted
      | .wo => s.commandCheck p a v
      | _ => none

/-- A write to LANE_RED_CMD (R226) (log entry 34, DEDUCED). -/
def State.redCommand (s : State) (v : Word) : State :=
  if field v 0 8 = 0xA5 then { s with modes := { s.modes with changeDue := true } }
  else [0, 1].foldl (fun s l => if s.isStandby l then s.outOfStep l else s) s

/-- The effect of a write of `v` to WO register `a`. -/
def State.commandWrite (s : State) (a : Nat) (v : Word) : State :=
  if a = Reg.convOwTest then s.owTestStart v
  else if a = Reg.laneRedCmd 0 ∨ a = Reg.laneRedCmd 1 then s.redCommand v
  else if a = Reg.pwmTripClr 0 ∨ a = Reg.pwmTripClr 1 then s.clearTrip (field v 0 7)
  else if a = Reg.netTcAdj then s.adjustTime v
  else if a = Reg.netTcSetsec then s.setSeconds v
  else if a = Reg.sysResetCmd then s.requestReset
  else if a = Reg.perfClear then s.clearCounters v
  else match idxOf (Reg.netCanCmd 0) 0x200 4 a with
    | some n => s.canCommand n v
    | none => match idxOf (Reg.fabPortCmd 0) 0x10 4 a with
      | some q => s.clearPort q v
      | none => s

/-- Bits written as 1 to the W1C register at `a` (R7): page marks clear after a pass of zeros (R363), channel marks with
their channel's fault (R381). -/
def State.clearBits (s : State) (a : Nat) (v : Word) : State :=
  match idxOf (Reg.memBadpage 0) 4 128 a with
  | some w => s.clearPages w v
  | none => match idxOf (Reg.memDmaFault 0) 4 4 a with
    | some e => s.clearChannels e v
    | none => s.wr a (s.rd a &&& ~~~v)

/-- The effect of a write of `v` to the register at `a` (R7). -/
def State.writeReg (s : State) (a : Nat) (v : Word) : State :=
  match regRow a with
  | none => s
  | some r => match r.access with
    | .wo => s.commandWrite a v
    | .w1c => s.clearBits a v
    | _ => s

/-! ### MEM_WRITE -/

/-- Why a MEM_WRITE stops at a word. -/
inductive WriteFault where
  | access (f : WordFault)
  | register (st : Status)
  deriving DecidableEq, Repr

/-- The word at context address `a` refuses the write of `v`. -/
def State.wordRefused (s : State) (p : Packet) (a : Nat) (v : Word) : Option WriteFault :=
  match s.wordFault p.session a true with
  | some f => some (.access f)
  | none => match s.place p.session a with
    | .reg r => (s.writeCheck p r v).map WriteFault.register
    | _ => none

/-- The first word that refuses, with its address. -/
def State.firstRefused (s : State) (p : Packet) (a : Nat) : List Word → Option (Nat × WriteFault)
  | [] => none
  | v :: vs => match s.wordRefused p a v with
    | some f => some (a, f)
    | none => s.firstRefused p (a + 4) vs

/-- One word is written. -/
def State.writeWord (s : State) (ctx a : Nat) (v : Word) : State :=
  match s.place ctx a with
  | .sram d _ => s.wrBytes d (wordBytes v)
  | .reg r => s.writeReg r v
  | .host offset => s.writeHost ctx offset (wordBytes v)
  | _ => s

/-- Words are written in ascending address. -/
def State.writeWords (s : State) (ctx a : Nat) : List Word → State
  | [] => s
  | v :: vs => (s.writeWord ctx a v).writeWords ctx (a + 4) vs

/-- MEM_WRITE's checks and effect: the command is checked whole before any word is written (R432, R441); `corrected`
errors are corrected in reading what its writes of half an ECC word leave (R38, R359) (log entry 35, DEDUCED). -/
def State.runMemWrite (s : State) (p : Packet) (corrected : Nat) : State :=
  let a := leAt p.payload 0 4
  let n := p.payload.length - 4
  let words := bytesWords (n / 4) (p.payload.drop 4)
  if a % 4 ≠ 0 ∨ n % 4 ≠ 0 then s.finish 0x0501 p .outOfRange []
  else match s.firstRefused p a words with
    | some (x, .access (.translation r)) => (s.translationFault p.session x r true).discardFlight p.session
    | some (x, .access .unassigned) => s.finish 0x0501 p .outOfRange (n32 x)
    | some (x, .access .marked) => s.finish 0x0501 p .faultLasting (n32 x)
    | some (x, .register st) => s.finish 0x0501 p st (n32 x)
    | none => ((s.countEcc p.session a (n / 4) corrected).writeWords p.session a words).finish 0x0501 p .ok []

/-- A MEM_WRITE packet arrives. -/
def State.memWrite (s : State) (p : Packet) (corrected : Nat) : State :=
  s.command 0x0501 p (decide (8 ≤ p.payload.length) && decide (p.payload.length ≤ 4092))
    (fun s => s.runMemWrite p corrected) (.host [] corrected)

/-- MEM_WRITE (R373, R432). -/
def execMemWrite (p : Packet) (corrected : Nat) (s : State) : Host.Outcome State Fault Refusal :=
  .next (s.memWrite p corrected)

/-! ### Rows of registers that act directly -/

/-- The packet writes one word, for which `f` holds of the address and the value. -/
def writesWord (p : Packet) (f : Nat → Word → Bool) : Bool :=
  p.payload.length == 8 && f (leAt p.payload 0 4) (word (leAt p.payload 4 4))

/-- A row of one register: the MEM_WRITE of that word. -/
def State.directRow (s : State) (p : Packet) (f : Nat → Word → Bool) : State :=
  if writesWord p f then s.memWrite p 0 else s

/-- CONV_OW_TEST (R104). -/
def execConvOwTest (p : Packet) (s : State) : Host.Outcome State Fault Refusal :=
  .next (s.directRow p (fun a _ => a == Reg.convOwTest))

/-- LANE_CHANGE_CMD (R226): a key other than the resynchronisation's. -/
def execLaneChangeCmd (p : Packet) (s : State) : Host.Outcome State Fault Refusal :=
  .next (s.directRow p (fun a v => (a == Reg.laneRedCmd 0 || a == Reg.laneRedCmd 1) && field v 0 8 != 0x5A))

/-- LANE_RESYNC_CMD (R226). -/
def execLaneResyncCmd (p : Packet) (s : State) : Host.Outcome State Fault Refusal :=
  .next (s.directRow p (fun a v => (a == Reg.laneRedCmd 0 || a == Reg.laneRedCmd 1) && field v 0 8 == 0x5A))

/-- TRIP_CLEAR (R246). -/
def execTripClear (p : Packet) (s : State) : Host.Outcome State Fault Refusal :=
  .next (s.directRow p (fun a _ => a == Reg.pwmTripClr 0 || a == Reg.pwmTripClr 1))

/-- BADPAGE_CLEAR (R363). -/
def execBadpageClear (p : Packet) (s : State) : Host.Outcome State Fault Refusal :=
  .next (s.directRow p (fun a _ => isIdx (Reg.memBadpage 0) 4 128 a))

/-- DMA_FAULT_CLEAR (R381). -/
def execDmaFaultClear (p : Packet) (s : State) : Host.Outcome State Fault Refusal :=
  .next (s.directRow p (fun a _ => isIdx (Reg.memDmaFault 0) 4 4 a))

/-- TIME_ADJ_STEP (R455): NET_TC_ADJ with step set. -/
def execTimeAdjStep (p : Packet) (s : State) : Host.Outcome State Fault Refusal :=
  .next (s.directRow p (fun a v => a == Reg.netTcAdj && field v 31 1 == 1))

/-- TIME_ADJ_SLEW (R455): NET_TC_ADJ with step clear. -/
def execTimeAdjSlew (p : Packet) (s : State) : Host.Outcome State Fault Refusal :=
  .next (s.directRow p (fun a v => a == Reg.netTcAdj && field v 31 1 == 0))

/-- TIME_SET_SECONDS (R455). -/
def execTimeSetSeconds (p : Packet) (s : State) : Host.Outcome State Fault Refusal :=
  .next (s.directRow p (fun a _ => a == Reg.netTcSetsec))

/-- CAN_RESTART (R467). -/
def execCanRestart (p : Packet) (s : State) : Host.Outcome State Fault Refusal :=
  .next (s.directRow p (fun a v => isIdx (Reg.netCanCmd 0) 0x200 4 a && field v 0 1 == 1))

/-- CAN_ABORT (R468). -/
def execCanAbort (p : Packet) (s : State) : Host.Outcome State Fault Refusal :=
  .next (s.directRow p (fun a v => isIdx (Reg.netCanCmd 0) 0x200 4 a && field v 1 1 == 1))

/-- PORT_CLEAR (R478). -/
def execPortClear (p : Packet) (s : State) : Host.Outcome State Fault Refusal :=
  .next (s.directRow p (fun a _ => isIdx (Reg.fabPortCmd 0) 0x10 4 a))

/-- RESET_REQUEST (R529). -/
def execResetRequest (p : Packet) (s : State) : Host.Outcome State Fault Refusal :=
  .next (s.directRow p (fun a _ => a == Reg.sysResetCmd))

/-- PERF_CLEAR (R567). -/
def execPerfClear (p : Packet) (s : State) : Host.Outcome State Fault Refusal :=
  .next (s.directRow p (fun a _ => a == Reg.perfClear))

/-- A register whose direct write has a row of its own. -/
def ownRow (a : Nat) : Bool :=
  [Reg.convOwTest, Reg.laneRedCmd 0, Reg.laneRedCmd 1, Reg.pwmTripClr 0, Reg.pwmTripClr 1, Reg.netTcAdj, Reg.netTcSetsec,
    Reg.sysResetCmd, Reg.perfClear].contains a
    || isIdx (Reg.memBadpage 0) 4 128 a || isIdx (Reg.memDmaFault 0) 4 4 a || isIdx (Reg.netCanCmd 0) 0x200 4 a
    || isIdx (Reg.fabPortCmd 0) 0x10 4 a

/-- REGISTER_WRITE (R432): a W1C, WO or RC register without a row of its own. -/
def execRegisterWrite (p : Packet) (s : State) : Host.Outcome State Fault Refusal :=
  .next (s.directRow p (fun a _ => !ownRow a && (match regRow a with
    | some r => r.access == .w1c || r.access == .wo || r.access == .rc
    | none => false)))

end Sys2Proof.Machine
end

