-- ==== Sys2Proof/Machine/ModeRows.lean ====
section
/-! DEFINITION. The rows of the mode machine: conditions of the laws, ride-through, precharge, bus decisions, timeouts,
the breaker and the secondary values (R63, R64, R137, R165, R188 to R203, R58). Each takes place at a decision point, when
the times and conditions the state holds have come to it; at any other moment it changes nothing. -/

namespace Sys2Proof.Machine

/-- MEAS_INVALID_LIMIT of law `l` (R137): cause 0x03, the sample's compares withheld. -/
def execMeasInvalidLimit (l : Nat) (s : State) : Host.Outcome State Fault Refusal :=
  .next (if l < 4 ∧ s.invalidDue l then
    let s := (s.setLaw l { s.law l with limitDone := true }).raiseLane 4 []
    s.withholdSample.safelight 3
  else s)

/-- HOLD_EXPIRED of law `l` (R165): with hold_exp_act it is cause 0x04 and the sample's compares are withheld. -/
def execHoldExpired (l : Nat) (s : State) : Host.Outcome State Fault Refusal :=
  .next (if l < 4 ∧ (s.law l).expired then
    let s := (s.setLaw l { s.law l with expired := false }).raiseLane 0 []
    if s.bit (Reg.laneLawCfg 0 l) 19 then s.withholdSample.safelight 4 else s
  else s)

/-- GATE_ENABLE_REQUEST_FALL: 4 µs after a release the gate-enable request falls (R185). -/
def execGateEnableRequestFall (s : State) : Host.Outcome State Fault Refusal :=
  .next (let g := s.modes.stage
    if g.gateFall ∧ s.pwm.relDue = [] then (s.setStage { g with gateReq := false, gateFall := false }).busUpdate else s)

/-- RIDE_THROUGH_EXIT: the exit condition of R63 has held for 64 samples of vmo_law. -/
def execRideThroughExit (s : State) : Host.Outcome State Fault Refusal :=
  .next (if s.exitDue && s.mayDecide 4 && s.mayEnter s.retMode then s.goMode s.retMode else s)

/-- RIDE_THROUGH_EXPIRED: t_fc has run out without the exit condition (R64): cause 0x05. -/
def execRideThroughExpired (s : State) : Host.Outcome State Fault Refusal :=
  .next (if s.isLate 5 then ((s.endLate 5).raiseLane 0x2C []).withholdSample
    else if s.expiryDue && !s.exitDue && s.mayDecide 2 then (s.raiseLane 0x2C []).withholdSample.safelight 5 else s)

/-- PRECHARGE_DONE: v_dc has stayed in pc_band for pc_confirm (R193). -/
def execPrechargeDone (s : State) : Host.Outcome State Fault Refusal :=
  .next (if s.mode = .precharge ∧ ¬ s.pcDone ∧ s.pcConfirm < s.modes.wait.band then
    let s := (s.setModeBit 15 true).setWait { s.modes.wait with charging := none }
    ((s.disown s.pcOut).showOwned).raiseLane 0x21 []
  else s)

/-- PRECHARGE_TIMEOUT: the link is not charged within pc_timeout (cause 0x07), or a route has waited that long in STANDBY
and is cancelled (R189, R193). -/
def execPrechargeTimeout (s : State) : Host.Outcome State Fault Refusal :=
  .next (if s.isLate 7 then (s.endLate 7).raiseLane 0x22 []
  else if s.chargeTimeout ∧ s.modes.wait.band ≤ s.pcConfirm ∧ s.mayDecide 2 then
    ((s.setWait { s.modes.wait with charging := none }).raiseLane 0x22 []).safelight 7
  else if s.mode = .standby ∧ s.pcTimeout < s.modes.wait.route ∧ s.mayDecide 6 then
    (s.raiseLane 0x22 []).setTarget .standby
  else s)

/-- DC_LINK_LOST: after charging, v_dc has stayed outside pc_band for pc_confirm (R194): above PRECHARGE cause 0x0D. -/
def execDcLinkLost (s : State) : Host.Outcome State Fault Refusal :=
  .next (if s.isLate 0xD then (s.endLate 0xD).raiseLane 0x2F []
  else if s.linkLost then
    let s := (s.setModeBit 15 false).raiseLane 0x2F []
    if s.mode.acOn then s.safelight 0x0D else s
  else s)

/-- The bus is about to be confirmed dead, live (R196). -/
def State.deadDue (s : State) : Bool := s.deadNow && !s.busDead && decide (s.deadConf < s.modes.wait.dead)
def State.liveDue (s : State) : Bool := s.liveNow && !s.busLive && decide (s.liveConf < s.modes.wait.live)

/-- BUS_DEAD: the bus has stayed below dead_thr for dead_conf (R196); whether the module acts as one without a fabric is
settled now (R197). -/
def execBusDead (s : State) : Host.Outcome State Fault Refusal :=
  .next (if s.deadDue then
    let s : State := { s with modes := { s.modes with alone := !s.hasFabric } }
    ((s.setModeBit 13 true).raiseLane 0x23 []).tellDead
  else s)

/-- BUS_LIVE: the bus has met the live test for live_conf (R196). -/
def execBusLive (s : State) : Host.Outcome State Fault Refusal :=
  .next (if s.liveDue then ((s.setModeBit 14 true).raiseLane 0x24 []).tellLive
  else s)

/-- ROUTE_TIMEOUT: a route has waited route_timeout in PRECHARGE and is cancelled; a decision it waits for that is
confirmed at the same decision point comes first (R30, R196). -/
def execRouteTimeout (s : State) : Host.Outcome State Fault Refusal :=
  .next (if s.mode = .precharge ∧ s.routeTimeout < s.modes.wait.route ∧ ¬ s.deadDue ∧ ¬ s.liveDue then (s.raiseLane 0x2A []).setTarget .precharge
  else s)

/-- SYNC_TIMEOUT: BRK_CLOSE has not been issued within sync_timeout of entry; windows that hold at that decision point
come first (R30, R202). -/
def execSyncTimeout (s : State) : Host.Outcome State Fault Refusal :=
  .next (if s.syncExpired && !s.canClose && s.mayDecide 5 && s.mayEnter .precharge then (s.raiseLane 0x29 []).goMode .precharge else s)

/-- BLACK_START_RAMP_COMPLETE: the ramp time has elapsed and output 1 has arrived (R200). -/
def execBlackStartRampComplete (s : State) : Host.Outcome State Fault Refusal :=
  .next (if s.rampDone && s.mayDecide 5 && s.mayEnter .gridForming then s.goMode .gridForming else s)

/-- The controlled stop issues BRK_OPEN (R203). -/
def State.stopOpen (s : State) : State := (s.setStop { s.modes.stop with opened := true }).issueOpen

/-- The stop of R203 has its 64 samples within unload_band. -/
def State.unloadDone (s : State) : Bool :=
  s.mode == .gridForming && s.unloading && !s.modes.stop.opened && decide (64 ≤ s.modes.stop.count)

/-- UNLOAD_COMPLETE: p_set and q_set have arrived and 64 samples of vmo_law lay in unload_band (R203). -/
def execUnloadComplete (s : State) : Host.Outcome State Fault Refusal :=
  .next (if s.unloadDone then s.stopOpen else s)

/-- UNLOAD_TIMEOUT: unload_timeout expires first; in RIDE_THROUGH no BRK_OPEN is issued (R190, R203). -/
def execUnloadTimeout (s : State) : Host.Outcome State Fault Refusal :=
  .next (if s.unloading ∧ ¬ s.modes.stop.opened ∧ ¬ s.modes.stop.expired ∧ s.unloadTimeout ≤ s.modes.stop.time
      ∧ ¬ s.unloadDone then
    let s := (s.setStop { s.modes.stop with expired := true }).raiseLane 0x2B []
    if s.mode = .gridForming then s.stopOpen else s
  else s)

/-- BRK_FB_CHANGE: the level of BRK_FB has been stable for 2 ms: the debounced level follows, and the next decision point
handles it; after reset the first such level is taken without counting a change (R184, R198). -/
def execBrkFbChange (closed : Bool) (s : State) : Host.Outcome State Fault Refusal :=
  .next (if ¬ s.modes.brk.fbKnown then
    (s.setBrk { s.modes.brk with fbKnown := true, event := some (closed, false) }).setModeBit 18 closed
  else if closed = s.brkFb then s
  else (s.setBrk { s.modes.brk with event := some (closed, true) }).setModeBit 18 closed)

/-- BREAKER_FAIL: t_cl + fb_margin has passed without confirmation (R198): a close failure is followed by BRK_OPEN and the
return to PRECHARGE; an open failure with the AC stage switching is cause 0x08 (R191, R202, R203). -/
def execBreakerFail (s : State) : Host.Outcome State Fault Refusal :=
  .next (if s.isLate 8 then (s.endLate 8).raiseLane 0x26 []
  else if s.closeFailed then
    ((s.raiseLane 0x26 []).setBrk { s.modes.brk with back := true }).issueOpen
  else if s.openFailed then
    let s := (s.raiseLane 0x26 []).setModeBit 17 false
    if s.mode.acOn then s.safelight 8 else s
  else s)

/-- SECONDARY_LOST: no secondary value for three consecutive secondary periods; the last ones are held (R58). -/
def execSecondaryLost (s : State) : Host.Outcome State Fault Refusal :=
  .next (let v := s.modes.second
    if s.bit Reg.fabSecCfg 0 ∧ ¬ v.lost ∧ 3 ≤ v.missed then
      State.raiseLane { s with modes := { s.modes with second := { v with lost := true } } } 0x2D []
    else s)

end Sys2Proof.Machine
end

