-- ==== Sys2Proof/Machine/Front.lean ====
section
/-! DEFINITION. Commands that waited for their start (R416, R418, R435), the transport rows that free a reply ring, and
the module tick (R593). -/

namespace Sys2Proof.Machine

/-! ### Commands that waited -/

/-- What an opcode of 0x0000 to 0x03FF does when it starts. -/
def State.runLow (s : State) (op : Nat) (p : Packet) (aid : Aid) : State :=
  let flag : Bool := match aid with | .flag b => b | _ => false
  match op with
  | 0x0000 => s.finish 0 p .notPermitted []
  | 0x0001 => if leAt p.payload 0 1 = 2 then s.runAuth2 p flag else s.runAuth1 p
  | 0x0002 => s.runClose p
  | 0x0003 => s.runKeepalive p
  | 0x0004 => s.runInfo p
  | 0x0100 => s.runCfgRead p
  | 0x0101 => s.runCfgWrite p flag
  | 0x0102 => s.runFix p
  | 0x0103 => s.runDiscard p
  | 0x0104 => s.runTake p flag
  | 0x0105 => s.runRelease p
  | 0x0200 => s.runSetCoef p
  | 0x0201 => s.runHold p
  | 0x0202 => s.runLawRelease p
  | 0x0203 => s.runProfileMove p
  | 0x0204 => s.runModeSet p
  | 0x0300 => s.runLoad p
  | 0x0301 => s.runStart p
  | 0x0302 => s.runPrgStop p
  | 0x0303 => s.runForceSet p
  | 0x0304 => s.runForceClear p
  | _ => s

/-- What an opcode of 0x0400 to 0x06FF does when it starts. -/
def State.runMid (s : State) (op : Nat) (p : Packet) (aid : Aid) : State :=
  match op with
  | 0x0400 => s.runOrder 0x0400 p (.arm (leAt p.payload 1 1 % 2 == 1))
  | 0x0401 => s.runOrder 0x0401 p .stop
  | 0x0402 => s.runOrder 0x0402 p .trigger
  | 0x0403 => s.runShutRelease p
  | 0x0404 => s.runShutStatus p
  | 0x0500 => match aid with | .host bytes corrected => s.runMemRead p bytes corrected | _ => s
  | 0x0501 => match aid with | .host _ corrected => s.runMemWrite p corrected | _ => s
  | 0x0502 => s.runMap p
  | 0x0503 => s.runUnmap p
  | 0x0504 => s.runDmaStart p
  | 0x0505 => s.runDmaAbort p
  | 0x0506 => s.runDmaStatus p
  | 0x0600 => s.runStatusRead p
  | 0x0601 => s.runSubscribe p
  | 0x0602 => s.runUnsubscribe p
  | 0x0603 => s.runCounterRead p
  | 0x0604 => s.runSheet p
  | _ => s

/-- What an opcode of 0x0700 and above does when it starts. -/
def State.runHigh (s : State) (op : Nat) (p : Packet) (aid : Aid) : State :=
  match op with
  | 0x0700 => s.runFabStatus p
  | 0x0701 => s.runNodeRead p
  | 0x0702 => s.runSurvey p
  | 0x0703 => s.runSwap p
  | 0x0800 => s.runImageBegin p
  | 0x0801 => s.runImageData p
  | 0x0802 => s.runCommit p
  | 0x0803 => s.runImageStatus p
  | 0x0804 => s.runAuditRead p
  | 0x0805 => s.runCredential p
  | 0x0806 => s.runCert p
  | 0x0807 => s.runTamperClear p
  | 0x0900 => s.runSafeStatus p
  | 0x0901 => s.runParamRead p
  | 0x0902 => s.runArm p (match aid with | .flag b => b | _ => false)
  | 0x0903 => s.runConfirm p
  | _ => s

/-- What an opcode does when it starts. -/
def State.runOp (s : State) (op : Nat) (p : Packet) (aid : Aid) : State :=
  if op < 0x0400 then s.runLow op p aid else if op < 0x0700 then s.runMid op p aid else s.runHigh op p aid

/-- The command of an in-flight entry is marked as started. -/
def markStarted (p : Packet) : List InFlight → List InFlight
  | [] => []
  | f :: fs =>
    if f.packet.session = p.session ∧ f.packet.seq = p.seq then { f with started := true } :: fs else f :: markStarted p fs

/-- Every command that waits and may now start does so, oldest first, those of a session in their order (R416, R418,
R435) (log entry 82, DESIGN CHOICE). -/
def State.startHeld (s : State) : State :=
  (s.inflight.filter (fun f => !f.started)).foldl (fun s f =>
    let first : Bool := s.inflight.find? (fun g => g.packet.session == f.packet.session && !g.started) = some f
    if first ∧ ¬ s.replyFull f.packet.chan ∧ ¬ s.heldBack f.opcode f.packet then
      let s := { s with inflight := markStarted f.packet s.inflight }
      (s.popUnit (2 * f.packet.chan)).runOp f.opcode f.packet f.aid
    else s) s

/-- FIX_APPLIED (R434) (log entry 32, DEDUCED). -/
def execFixApplied (s : State) : Host.Outcome State Fault Refusal :=
  .next (if s.fixes = [] then s else s.applyNow.startHeld)

/-! ### Transports -/

/-- PCIE_DOORBELL (R419): after the BAR0 writes of `setup`, the host writes CQ_TAIL; the module takes the slots up to it,
whose packets follow as commands of their own (log entry 64, DESIGN CHOICE). -/
def execPcieDoorbell (c : Nat) (setup : List (Nat × Word)) (tail : Nat) (s : State) : Host.Outcome State Fault Refusal :=
  .next (if c < 5 ∧ s.bit Reg.hostStatus 0 then
    let s := (s.writeWindow c setup).wr (winReg c 0x0C) (word (tail % 256))
    let s := if s.bit (winReg c 0x08) 8 then s.put (winReg c 0x10) 0 8 (tail % s.winSlots c 0x08) else s
    (s.drainPcie c).startHeld
  else s)

/-- PCIE_RQ_HEAD_WRITE (R419). -/
def execPcieRqHeadWrite (c head : Nat) (s : State) : Host.Outcome State Fault Refusal :=
  .next (if c < 5 ∧ s.bit Reg.hostStatus 0 then (s.advanceRq c head).startHeld else s)

/-- SPI_CS_RISE (R421, R422). -/
def execSpiCsRise (s : State) : Host.Outcome State Fault Refusal := .next s.spiEnd.startHeld

/-- ETH_FRAME_SENT (R448). -/
def execEthFrameSent (p what dt : Nat) (tsReq last : Bool) (s : State) : Host.Outcome State Fault Refusal :=
  .next (if s.hasFrame p what then (s.frameSent p what dt tsReq last).startHeld else s)

/-! ### The module tick -/

/-- Leases whose duration passed at an earlier tick and that no renewal of that tick kept end (R30, R439) (log entry 99,
DESIGN CHOICE). -/
def State.endPassed (s : State) : State :=
  (List.range 256).foldl (fun s i => if s.leaseKind i ≠ 0 ∧ s.leaseLeft i = 0 then s.endLease i .expiry else s) s

/-- Tasks whose watchdog limit, and a host link whose timeout, passed at an earlier tick trip or end (R30, R341, R350)
(log entry 99, DESIGN CHOICE). -/
def State.programPassed (s : State) : State := ((List.range 9).foldl State.programWatchdog s).hostLinkLost

/-- The remaining time of every lease (R439). -/
def State.leaseTick (s : State) : State :=
  (List.range 256).foldl (fun s i =>
    if s.leaseKind i ≠ 0 ∧ s.leaseLeft i ≠ 0 then s.put (Reg.hostLeaseB i) 16 16 (s.leaseLeft i - 1) else s) s

/-- The retry waits of the gate channels (R276). -/
def State.retryTick (s : State) : State :=
  (List.range 48).foldl (fun s c =>
    match (s.gch c).wait with
    | some (n + 1) => s.setGch c { s.gch c with wait := some n }
    | _ => s) s

/-- The measured VSYS and VIN_SNS in 10 mV and the die temperature, coded as its value + 50 °C (log entry 10, DESIGN
CHOICE). -/
def State.measure (s : State) (vsys vin temp : Nat) : State :=
  let s := s.wr Reg.sysVsys (word (min vsys 0xFFFF + min vin 0xFFFF * 2 ^ 16))
  let s : State := if vsys < 3250 then { s with sys := { s.sys with high := false } } else s
  let t := min temp 0xFF
  (s.put Reg.sysTemp 0 8 t).put Reg.sysTemp 8 8 (max t (s.fld Reg.sysTemp 8 8))

/-- CLK_CTL cycles of a module tick, 625,000, or a fiftieth of that on the detour clock (R516, R564) (log entry 80,
DESIGN CHOICE). -/
def State.ctlCycles (s : State) : Nat := if s.bit Reg.sysClkStat 3 then 12500 else 625000

/-- What a module tick does, before the held commands that may start then (R593) (log entry 8, DESIGN CHOICE; log entry
41, DEDUCED). -/
def State.tickWork (s : State) (vsys vin temp : Nat) : State :=
  let s := s.finishHold.endPassed.idlePassed.timeoutPassed.programPassed
  let s := { s with tick := s.tick + 1 }
  let s := ((s.takeItems s.appliesAtTick State.applyItem).loadEnabled s).closeFixes
  let s := (s.advanceTime 200000).tcUpdate
  let s := (s.leaseTick.retryTick.showSource.perfTick.showMarks.rtcTick).measure vsys vin temp
  s.countSource 0x8000 s.ctlCycles

/-- MODULE_TICK (R593): the millisecond timers, the fixed registers whose boundary it is (R434), and the time counter.
The first tick follows start-up step 2 (log entry 10, DESIGN CHOICE). -/
def execModuleTick (vsys vin temp : Nat) (s : State) : Host.Outcome State Fault Refusal :=
  .next (if s.fld Reg.sysBoot 0 4 < 2 then s else (s.tickWork vsys vin temp).startHeld)

end Sys2Proof.Machine
end

