-- ==== Sys2Proof/Machine/Boot.lean ====
section
/-! DEFINITION. Start-up (R525 to R527): its steps in order, and STARTUP_DONE. What the steps find outside the model comes
with the row. -/

namespace Sys2Proof.Machine

/-! ### Steps 1 to 3 -/

/-- Step 1: the rails lie within their windows and RB_GATE is driven. -/
def State.bootSupplies (x : BootChecks) (s : State) : State × Bool :=
  if x.rails then ((s.setSys { s.sys with gate := true }).setBit Reg.sysStatus 0 true, true) else (s, false)

/-- Step 2: the PLL locks and the outputs start. -/
def State.bootClocks (x : BootChecks) (s : State) : State × Bool := if x.locked then (s.startClocks, true) else (s, false)

/-- A lost vault (R532, R551): the RTC, the retained SRAM and the tamper latches are cleared, and so is the brown-out
latch (log entry 86, DEDUCED). -/
def State.loseVault (s : State) : State :=
  let s := s.setSec { s.sec with waiting := [], tampers := [] }
  let s := State.put { s with safe := { s.safe with causes := [], latticeCauses := [] } } Reg.safeStatus 4 3 0
  let s := (((s.wr Reg.sysRtcLo 0).wr Reg.sysRtcHi 0).wr Reg.safeCause 0).put Reg.secTamperStat 0 4 0
  let s := (s.setSys { s.sys with brownOut := false, rtcRest := 0 }).raise 0x0107 []
  (s.tamperRecord 15 (if s.certMode then 2 else 0)).raise 0x1008 []

/-- The time counter takes the RTC's seconds (R453). -/
def State.timeFromRtc (s : State) : State :=
  let sec := (s.rd Reg.sysRtcLo).toNat + s.fld Reg.sysRtcHi 0 16 * 2 ^ 32
  (s.setTime (sec * (1000000000 * 2 ^ 32))).put Reg.netStatus 0 2 0

/-- The vault has been lost (R532). -/
def State.vaultLost (x : BootChecks) (s : State) : Bool := s.sys.brownOut || !x.vault

/-- Revocations of owner slots come into force on verification at a start-up (R546). -/
def State.barOwners (s : State) : State :=
  s.setSec { s.sec with owners := s.sec.owners.map (fun e => (e.1, { e.2 with barred := e.2.revoked })) }

/-- Step 3: the vault check, the flash read, and a tamper response that waited (R532, R550) (log entry 86, DEDUCED). -/
def State.bootVault (x : BootChecks) (s : State) : State × Bool :=
  let s := if s.vaultLost x then s.loseVault else s
  let s := (s.barOwners.setBit Reg.sysStatus 2 true).timeFromRtc
  let s := if s.sys.tamperDue then (s.setSys { s.sys with tamperDue := false }).needReset 8 else s
  (s, x.flash && s.sys.due.isNone)

/-! ### Step 4 -/

def cryptoOf (x : BootChecks) (k b : Nat) : Crypto :=
  sparseGet (fun _ => { signature := false, hash := false, gcm := false }) x.crypto (2 * k + b)

/-- Slot `b` of type `k` verifies (R539). -/
def State.slotOk (x : BootChecks) (s : State) (k b : Nat) : Bool := s.verifySteps k (s.slot k b) (cryptoOf x k b) == 0

/-- The active slot of type `k` is verified, then the other, which becomes active with IMAGE_FALLBACK; false where both
fail (R540). -/
def State.pickImage (x : BootChecks) (s : State) (k : Nat) : State × Bool :=
  let b := s.imageActive k
  if s.slotOk x k b then (s, true)
  else if s.slotOk x k (1 - b) then
    let s := s.setImage { s.sec.image with active := sparseSet (fun _ => 0) s.sec.image.active k (1 - b) }
    (s.raise 0x1001 [], true)
  else (s, false)

/-- The object of type `k` is in use (R540) (log entry 89, DEDUCED). -/
def State.useImage (s : State) (k : Nat) : State := s.setImage { s.sec.image with used := s.sec.image.used ++ [k] }

/-- The body of the active slot of type `k`. -/
def State.imageBody (x : BootChecks) (s : State) (k : Nat) : List Byte :=
  let c := s.slot k (s.imageActive k)
  if hdrFlags c % 2 = 1 then sparseGet (fun _ => []) x.plain (2 * k + s.imageActive k) else c.drop 256

/-- Step 4: no tamper latch is set, and a FIRMWARE image verifies (R540, R550). -/
def State.bootImage (x : BootChecks) (s : State) : State × Bool :=
  if s.fld Reg.secTamperStat 0 4 ≠ 0 then (s.setSys { s.sys with tamperStop := true }, false)
  else
    let (s, ok) := s.pickImage x 1
    if ok then ((s.useImage 1).showCreds.showOwners, true) else (s.showCreds.showOwners, false)

/-! ### Step 5 -/

/-- The words of a parameter table's body, by their offset from 0x0100 (R317). -/
def tableWord (t : List Byte) (i : Nat) : Word := word (leAt t (12 + 4 * i) 4)

/-- Input `i` of a table: its mode, and whether its fields lie within their ranges (R318). -/
def tableInMode (t : List Byte) (i : Nat) : Nat := field (tableWord t i) 0 2
def tableInOk (t : List Byte) (i : Nat) : Bool :=
  decide (tableInMode t i ≠ 3) && (tableInMode t i == 0 || decide (1 ≤ field (tableWord t i) 2 12))

/-- Subscription `r` is enabled; its fields lie within their ranges. -/
def tableRxOn (t : List Byte) (r : Nat) : Bool := field (tableWord t (64 + r)) 0 1 == 1
def tableRxOk (t : List Byte) (r : Nat) : Bool :=
  !tableRxOn t r ||
    (let w := tableWord t (64 + r)
     decide (1 ≤ field w 1 12 ∧ field w 1 12 ≤ 0xFFE ∧ field w 17 6 ≤ 60))

/-- Function `f`: an enabled one names an input not off, or an enabled subscription (R317). -/
def tableSfOk (t : List Byte) (f : Nat) : Bool :=
  let w := tableWord t (16 + f)
  let src := field w 2 9
  field w 0 1 == 0 ||
    (if field w 1 1 = 0 then decide (src < 16) && decide (tableInMode t src ≠ 0) else tableRxOn t (src / 32))

/-- Output `n`: an enabled one has test fields within their ranges. -/
def tableOutOk (t : List Byte) (n : Nat) : Bool :=
  let w := tableWord t (48 + n)
  field w 0 1 == 0 || decide (1 ≤ field w 7 4 ∧ field w 7 4 ≤ 10 ∧ 1 ≤ field w 11 6 ∧ field w 11 6 ≤ 60)

/-- The lockout configuration's ranges. -/
def tableLockoutOk (t : List Byte) : Bool :=
  let w := tableWord t 57
  decide (10 ≤ field w 0 8 ∧ field w 0 8 ≤ 200 ∧ 2 ≤ field w 9 4 ∧ field w 9 4 ≤ 10)

/-- A valid parameter table (R317) (log entry 37, DEDUCED). -/
def tableOk (t : List Byte) : Bool :=
  decide (t.length = 336) && leAt t 0 4 == 0x5AFE7AB1 && leAt t 4 2 == 1 && leAt t 6 2 == 336
    && word (leAt t 332 4) == crc32c (t.take 332)
    && (List.range 16).all (tableInOk t) && (List.range 32).all (tableSfOk t) && (List.range 8).all (tableOutOk t)
    && tableLockoutOk t && (List.range 16).all (tableRxOk t)

/-- The mirror shows the table in force (R318). -/
def State.showTable (s : State) (t : List Byte) : State :=
  (List.range 80).foldl (fun s i =>
    let a := Reg.safeInCfg 0 + 4 * i
    if (regRow a).isSome then s.wr a (tableWord t i) else s) s

/-- The LOCKOUT state that the vault holds (R310): the lattice latches with it, the processor where it had latched (log
entry 84, DEDUCED). -/
def State.restoreLockout (s : State) : State :=
  if s.safe.causes ≠ [] then s.put Reg.safeStatus 4 3 7
  else if s.safe.latticeCauses ≠ [] then s.put Reg.safeStatus 4 3 5
  else s

/-- Subscriptions start at the safe value where enabled (log entry 48, DEDUCED). -/
def State.startSubs (s : State) : State :=
  (List.range 16).foldl (fun s r => s.setRxState r (if s.bit (Reg.safeRxCfg r) 0 then 2 else 3)) s

/-- The end of step 5: the LOCKOUT state is restored, and the start-up release goes to the lattice (R290). -/
def State.releaseSafe (s : State) (t : List Byte) (lost : Bool) : State :=
  let s := ((s.showTable t).startSubs).restoreLockout
  let s := if lost then s.latchLockout 9 0 else s
  ((s.setDiag { s.safe.diag with released := true }).showLattice).showProc

/-- Step 5 (R290): the table, the lattice's test, the outputs' readback, and the release; `lost`: step 3 found the vault
lost (log entry 84, DEDUCED). -/
def State.startSafe (x : BootChecks) (lost : Bool) (s : State) : State × Bool :=
  let (s, ok) := (s.setBit Reg.safeStatus 8 true).pickImage x 2
  let t := s.imageBody x 2
  if ok ∧ tableOk t then
    let s := ((s.useImage 2).setBit Reg.safeStatus 9 true).wr Reg.safeParamId (word (leAt t 8 4))
    let s := s.wr Reg.safeParamCrc (word (leAt t 332 4))
    if ¬ x.lattice then (s.restoreLockout.latchLockout 7 0, false)
    else
      let s := s.latticeTested true
      if x.outputsOpen then (s.releaseSafe t lost, true) else (s, false)
  else (s.restoreLockout.latchLockout 10 0, false)

/-- Step 5, after which the mirror shows what it has found (log entry 84, DEDUCED). -/
def State.bootSafe (x : BootChecks) (lost : Bool) (s : State) : State × Bool :=
  let (s, ok) := s.startSafe x lost
  (s.showMirror, ok)

/-! ### Step 6 -/

/-- A lane whose self-test fails is FAILED until module reset (R206). -/
def State.failBoot (s : State) (l : Nat) : State :=
  let s := (s.setRed l { s.redOf l with bootFailed := true }).setBit (Reg.laneRedStatus l) 8 true
  s.countUp (Reg.laneRedStatus l) 16 4 1

/-- The filter ROM's check (R119) (log entry 85, DEDUCED). -/
def State.bootRom (x : BootChecks) (s : State) : State × Bool :=
  match x.rom with
  | 0 => (s.setBit Reg.filtStatus 0 true, true)
  | 1 => ((s.raiseTransient 3 0 0).setBit Reg.filtStatus 0 true, true)
  | _ => (s.raiseLasting 3 0 0, false)

/-- Step 6: the self-tests of the SRAM (R358), the lanes (R206) and the filter ROM (R119) (log entry 85, DEDUCED). -/
def State.bootSelfTest (x : BootChecks) (s : State) : State × Bool :=
  if ¬ x.sram then (s, false) else
  let s : State := { s with mem := [] }
  let s := ((s.setBit Reg.memStatus 0 true).put Reg.memStatus 2 6 63).put Reg.memStatus 8 8 64
  let s := if x.laneA then s else s.failBoot 0
  let s := if x.laneB then s else s.failBoot 1
  let (s, ok) := s.bootRom x
  (s, ok && (x.laneA || x.laneB))

/-! ### Step 7 -/

/-- The rings that SYSTEM claims (R418, R447, R506, R561) (log entry 90, DEDUCED). -/
def systemRings : List Nat := List.range 16 ++ [39, 48, 49] ++ (List.range 8).map (56 + ·)

/-- What firmware sets up for its own use: its rings, the fault-record region (R368) and the cycle frame's slot
(R487) (log entry 90, DEDUCED). -/
def State.setUpSystem (s : State) : State :=
  let claims := (systemRings.map (fun r => (3, r))) ++ [(4, s.fld Reg.memFrCfg 0 8), (6, 0)]
  let s := systemRings.foldl (fun s r => (s.setBit (Reg.memRingCfg r) 24 true).setBit (Reg.memRingCfg r) 25 true) s
  claims.foldl (fun s c => s.addClaim { kind := c.1, granule := c.2, ownerKind := 0, ownerIdx := 0 }) s

/-- The pairs of address and value of a CONFIG body (R538). -/
def configPairs (b : List Byte) : List (Nat × Word) :=
  (List.range (b.length / 8)).map (fun i => (leAt b (8 * i) 4, word (leAt b (8 * i + 4) 4)))

/-- CONFIG_REFUSED: the reset configuration stays, and the audit log takes the refusal (R526) (log entry 87, DEDUCED). -/
def State.refuseConfig (s : State) (f : Status × List Byte) : State :=
  (({ s with staging := [] } : State).raise 0x0106 []).audit 0xFF 0 .configRefused f.1.code (bytesNat f.2)

/-- Why a pair of the stored configuration cannot be staged (R431). -/
def pairCheck (e : Nat × Word) : Option (Status × List Byte) :=
  if notForHost e.1 then some (.notPermitted, []) else if isStaged e.1 then none else some (.outOfRange, n32 e.1)

/-- The packet that stands for the module's own FIX: no session sends it, and no reply follows (log entry 90, DEDUCED).
-/
def systemPacket : Packet :=
  { chan := 0, srcIp := 0, srcPort := 0, session := 0xFF, seq := 0, tag := 0, lease := 0, auth := .absent, crc := 0,
    payload := [] }

/-- The stored configuration is fixed as a FIX set, acting as SYSTEM (R526). -/
def State.fixStored (s : State) (pairs : List (Nat × Word)) : State :=
  match pairs.findSome? pairCheck with
  | some f => s.refuseConfig f
  | none =>
    let s : State := { s with staging := pairs.foldl (fun l e => stage l (normReg e.1) e.2) [] }
    match s.fixVerdict with
    | some f => s.refuseConfig f
    | none => ((s.fixAccept 0x0102 systemPacket).applyNow).useImage 3

/-- Step 7: the stored configuration is applied; a failure never stops start-up (R526, R540) (log entry 87, DEDUCED). -/
def State.bootConfig (x : BootChecks) (s : State) : State × Bool :=
  let (s, ok) := s.setUpSystem.pickImage x 3
  (if ok then s.fixStored (configPairs (s.imageBody x 3)) else s.refuseConfig (.faultLasting, []), true)

/-! ### START_UP -/

/-- The steps in order from step `k`: SYS_BOOT shows the one in progress; a failing step stops start-up with failed = 1,
one that makes a reset due with failed = 0 (R525, R527). -/
def State.bootSteps (s : State) (k : Nat) : List (State → State × Bool) → State
  | [] => s
  | f :: fs =>
    let (s, ok) := f (s.put Reg.sysBoot 0 4 k)
    if ok then s.bootSteps (k + 1) fs else if s.sys.due.isSome then s else s.setBit Reg.sysBoot 4 true

/-- START_UP (R525): steps 1 to 7 after the release of a reset; the survey's wait of step 8 follows (log entry 83,
DESIGN CHOICE). -/
def execStartUp (checks : BootChecks) (s : State) : Host.Outcome State Fault Refusal :=
  .next (if s.sys.hold = 0 ∧ s.fld Reg.sysBoot 0 5 = 0 ∧ s.sys.due = none ∧ s.sys.low = none then
    let lost := s.vaultLost checks
    s.bootSteps 1 [State.bootSupplies checks, State.bootClocks checks, State.bootVault checks, State.bootImage checks,
      State.bootSafe checks lost, State.bootSelfTest checks, State.bootConfig checks, fun s => (s, true)]
  else s)

/-! ### STARTUP_DONE -/

/-- Anti-rollback counters advance to the versions of the objects in use (R540) (log entry 89, DEDUCED). -/
def State.advanceRollback (s : State) : State :=
  s.sec.image.used.foldl (fun s k =>
    let v := min 63 (hdrVersion (s.slot k (s.imageActive k)))
    if s.rollback k < v then (s.put Reg.secArb (8 * (k - 1)) 6 v).raise 0x1002 [] else s) s

/-- The tamper records enter the audit log (R550) (log entry 94, DEDUCED). -/
def State.auditTampers (s : State) : State :=
  let l := s.sec.tampers
  let s := s.setSec { s.sec with tampers := [] }
  l.foldl (fun s i => s.audit 0xFF 0 .tamper i 0) s

/-- The lanes take their roles: A the token where its self-test has passed, else B; the other is a standby out of step
(R206). -/
def State.startLanes (s : State) : State :=
  let a := if (s.redOf 0).bootFailed then 1 else 0
  let s := s.takeToken a
  if (s.redOf (1 - a)).bootFailed then s else (s.setBit (Reg.laneRedStatus (1 - a)) 1 true).outOfStep (1 - a)

/-- Start-up completes `ms` after power good: the mode target is STANDBY, and the module's time windows count from here
(R525, R593). -/
def State.bootDone (s : State) (ms : Nat) : State :=
  let s := ((s.put Reg.sysBoot 0 4 9).put Reg.sysBoot 16 16 (min ms 0xFFFF)).setBit Reg.sysStatus 3 true
  let s := (s.raise 0x0105 []).startLanes.setTarget .standby
  let s := s.advanceRollback.auditTampers
  { s with perf := { s.perf with epoch := s.tick } }

/-- STARTUP_DONE (R525): step 9. -/
def execStartupDone (ms : Nat) (s : State) : Host.Outcome State Fault Refusal :=
  .next (if s.fld Reg.sysBoot 0 5 = 8 ∧ s.sys.due = none ∧ s.sys.low = none then s.bootDone ms else s)

end Sys2Proof.Machine
end

