-- ==== Sys2Proof/Machine/Dispatch.lean ====
section
/-! DEFINITION. Dispatch: one arm per command; each arm is one direct call of the command's meaning. -/

namespace Sys2Proof.Machine

/-- The effect of one command on everything but the queue of waiting commands. -/
def exec (i : Instr) (s : State) : Host.Outcome State Fault Refusal :=
  match i with
  | .moduleTick vsys vin temp => Sys2Proof.Machine.execModuleTick vsys vin temp s
  | .internal1usBoundary => Sys2Proof.Machine.execInternal1usBoundary s
  | .samplingTrigger group now dt => Sys2Proof.Machine.execSamplingTrigger group now dt s
  | .conversionComplete channel level => Sys2Proof.Machine.execConversionComplete channel level s
  | .openWire channel => Sys2Proof.Machine.execOpenWire channel s
  | .openWireClear channel => Sys2Proof.Machine.execOpenWireClear channel s
  | .convOwTest packet => Sys2Proof.Machine.execConvOwTest packet s
  | .owTestWindowEnd channel => Sys2Proof.Machine.execOwTestWindowEnd channel s
  | .spareCalibrationDone checkOk => Sys2Proof.Machine.execSpareCalibrationDone checkOk s
  | .spareComparisonDone sumDiff => Sys2Proof.Machine.execSpareComparisonDone sumDiff s
  | .bitstreamStale input => Sys2Proof.Machine.execBitstreamStale input s
  | .bitstreamResumed input => Sys2Proof.Machine.execBitstreamResumed input s
  | .bitstreamWindowEnd input preset bits => Sys2Proof.Machine.execBitstreamWindowEnd input preset bits s
  | .settlingEnd channel preset => Sys2Proof.Machine.execSettlingEnd channel preset s
  | .thresholdAssert comparator now => Sys2Proof.Machine.execThresholdAssert comparator now s
  | .groupSampleComplete group => Sys2Proof.Machine.execGroupSampleComplete group s
  | .groupSampleWritten group => Sys2Proof.Machine.execGroupSampleWritten group s
  | .sampleSchedule now corrected diag agree linkA linkB => Sys2Proof.Machine.execSampleSchedule now corrected diag agree linkA linkB s
  | .measInvalidLimit law => Sys2Proof.Machine.execMeasInvalidLimit law s
  | .holdExpired law => Sys2Proof.Machine.execHoldExpired law s
  | .gateEnableRequestFall => Sys2Proof.Machine.execGateEnableRequestFall s
  | .rideThroughExit => Sys2Proof.Machine.execRideThroughExit s
  | .rideThroughExpired => Sys2Proof.Machine.execRideThroughExpired s
  | .prechargeDone => Sys2Proof.Machine.execPrechargeDone s
  | .prechargeTimeout => Sys2Proof.Machine.execPrechargeTimeout s
  | .dcLinkLost => Sys2Proof.Machine.execDcLinkLost s
  | .busDead => Sys2Proof.Machine.execBusDead s
  | .busLive => Sys2Proof.Machine.execBusLive s
  | .routeTimeout => Sys2Proof.Machine.execRouteTimeout s
  | .syncTimeout => Sys2Proof.Machine.execSyncTimeout s
  | .blackStartRampComplete => Sys2Proof.Machine.execBlackStartRampComplete s
  | .unloadComplete => Sys2Proof.Machine.execUnloadComplete s
  | .unloadTimeout => Sys2Proof.Machine.execUnloadTimeout s
  | .brkFbChange closed => Sys2Proof.Machine.execBrkFbChange closed s
  | .breakerFail => Sys2Proof.Machine.execBreakerFail s
  | .secondaryLost => Sys2Proof.Machine.execSecondaryLost s
  | .lawSetCoef packet => Sys2Proof.Machine.execLawSetCoef packet s
  | .lawHold packet => Sys2Proof.Machine.execLawHold packet s
  | .lawRelease packet => Sys2Proof.Machine.execLawRelease packet s
  | .profileMove packet => Sys2Proof.Machine.execProfileMove packet s
  | .modeSet packet => Sys2Proof.Machine.execModeSet packet s
  | .activeLaneFailed now => Sys2Proof.Machine.execActiveLaneFailed now s
  | .laneLinkWatchdog lane => Sys2Proof.Machine.execLaneLinkWatchdog lane s
  | .laneRecoveryStart lane => Sys2Proof.Machine.execLaneRecoveryStart lane s
  | .laneRecovered lane pass => Sys2Proof.Machine.execLaneRecovered lane pass s
  | .resyncCopy lane => Sys2Proof.Machine.execResyncCopy lane s
  | .laneResyncDone lane => Sys2Proof.Machine.execLaneResyncDone lane s
  | .laneChangeCmd packet => Sys2Proof.Machine.execLaneChangeCmd packet s
  | .laneResyncCmd packet => Sys2Proof.Machine.execLaneResyncCmd packet s
  | .generatorEpoch => Sys2Proof.Machine.execGeneratorEpoch s
  | .timebaseZeroPoint timebase now => Sys2Proof.Machine.execTimebaseZeroPoint timebase now s
  | .updatePoint timebase now => Sys2Proof.Machine.execUpdatePoint timebase now s
  | .tripSourceAssert source high held now => Sys2Proof.Machine.execTripSourceAssert source high held now s
  | .blankingWindowClose window now => Sys2Proof.Machine.execBlankingWindowClose window now s
  | .tripClear packet => Sys2Proof.Machine.execTripClear packet s
  | .gateCommandChange now => Sys2Proof.Machine.execGateCommandChange now s
  | .interlockGapEnd group channel => Sys2Proof.Machine.execInterlockGapEnd group channel s
  | .gatePhaseEnd channel elapsed now volts => Sys2Proof.Machine.execGatePhaseEnd channel elapsed now volts s
  | .gateEnableChange => Sys2Proof.Machine.execGateEnableChange s
  | .forcedRefresh pair => Sys2Proof.Machine.execForcedRefresh pair s
  | .sc channel sns since => Sys2Proof.Machine.execSc channel sns since s
  | .supplyUv channel kind level => Sys2Proof.Machine.execSupplyUv channel kind level s
  | .overtemp channel temp => Sys2Proof.Machine.execOvertemp channel temp s
  | .retryWaitEnd channel sns => Sys2Proof.Machine.execRetryWaitEnd channel sns s
  | .safetyTick raw rstA rstB closedA closedB voltage testOk persist => Sys2Proof.Machine.execSafetyTick raw rstA rstB closedA closedB voltage testOk persist s
  | .inputDiscrepancy input => Sys2Proof.Machine.execInputDiscrepancy input s
  | .latticeDemand input => Sys2Proof.Machine.execLatticeDemand input s
  | .latticeTest ok => Sys2Proof.Machine.execLatticeTest ok s
  | .heartbeatLost => Sys2Proof.Machine.execHeartbeatLost s
  | .lockstepMismatch => Sys2Proof.Machine.execLockstepMismatch s
  | .processorRestartDone => Sys2Proof.Machine.execProcessorRestartDone s
  | .soutTestPulse output switchB opened closed => Sys2Proof.Machine.execSoutTestPulse output switchB opened closed s
  | .safeFrameReceived plane node stream seq data crc inSlot => Sys2Proof.Machine.execSafeFrameReceived plane node stream seq data crc inSlot s
  | .degradedWindowExpiry subscription => Sys2Proof.Machine.execDegradedWindowExpiry subscription s
  | .localReset testOk persist => Sys2Proof.Machine.execLocalReset testOk persist s
  | .resetDiscrepancy => Sys2Proof.Machine.execResetDiscrepancy s
  | .lockoutArm packet testOk => Sys2Proof.Machine.execLockoutArm packet testOk s
  | .lockoutConfirm packet => Sys2Proof.Machine.execLockoutConfirm packet s
  | .armExpired => Sys2Proof.Machine.execArmExpired s
  | .safeStatus packet => Sys2Proof.Machine.execSafeStatus packet s
  | .safeParamRead packet => Sys2Proof.Machine.execSafeParamRead packet s
  | .taskStartPoint task dio => Sys2Proof.Machine.execTaskStartPoint task dio s
  | .programWatchdog task => Sys2Proof.Machine.execProgramWatchdog task s
  | .dispatchGrant core => Sys2Proof.Machine.execDispatchGrant core s
  | .blockCallComplete call effect rest cycles corrected => Sys2Proof.Machine.execBlockCallComplete call effect rest cycles corrected s
  | .errorTaskRun dio => Sys2Proof.Machine.execErrorTaskRun dio s
  | .prgLoad packet => Sys2Proof.Machine.execPrgLoad packet s
  | .prgStart packet => Sys2Proof.Machine.execPrgStart packet s
  | .prgStop packet => Sys2Proof.Machine.execPrgStop packet s
  | .programStopped => Sys2Proof.Machine.execProgramStopped s
  | .forceSet packet => Sys2Proof.Machine.execForceSet packet s
  | .forceClear packet => Sys2Proof.Machine.execForceClear packet s
  | .keyChange run stop => Sys2Proof.Machine.execKeyChange run stop s
  | .hostLinkLost => Sys2Proof.Machine.execHostLinkLost s
  | .uncorrectableError region addr ctx dma channel => Sys2Proof.Machine.execUncorrectableError region addr ctx dma channel s
  | .retryResult ok => Sys2Proof.Machine.execRetryResult ok s
  | .scrubAccess corrected bad => Sys2Proof.Machine.execScrubAccess corrected bad s
  | .badpageClear packet => Sys2Proof.Machine.execBadpageClear packet s
  | .badpageClearDone page => Sys2Proof.Machine.execBadpageClearDone page s
  | .bankGrant bank requests withdrawn beats wait => Sys2Proof.Machine.execBankGrant bank requests withdrawn beats wait s
  | .filmWrite bank => Sys2Proof.Machine.execFilmWrite bank s
  | .faultRecordWrite => Sys2Proof.Machine.execFaultRecordWrite s
  | .memRead packet host corrected => Sys2Proof.Machine.execMemRead packet host corrected s
  | .memWrite packet corrected => Sys2Proof.Machine.execMemWrite packet corrected s
  | .memMap packet => Sys2Proof.Machine.execMemMap packet s
  | .memUnmap packet => Sys2Proof.Machine.execMemUnmap packet s
  | .dmaStart packet => Sys2Proof.Machine.execDmaStart packet s
  | .dmaAbort packet => Sys2Proof.Machine.execDmaAbort packet s
  | .dmaStatus packet => Sys2Proof.Machine.execDmaStatus packet s
  | .dmaBurst engine err host corrected => Sys2Proof.Machine.execDmaBurst engine err host corrected s
  | .dmaFaultClear packet => Sys2Proof.Machine.execDmaFaultClear packet s
  | .descriptorAllocation ring descs bytes => Sys2Proof.Machine.execDescriptorAllocation ring descs bytes s
  | .ringHeadAdvance ring descs => Sys2Proof.Machine.execRingHeadAdvance ring descs s
  | .shutterSample shutter pads dio sins dt => Sys2Proof.Machine.execShutterSample shutter pads dio sins dt s
  | .patternTrigger shutter back frac held pads dio sins => Sys2Proof.Machine.execPatternTrigger shutter back frac held pads dio sins s
  | .recordClosed shutter => Sys2Proof.Machine.execRecordClosed shutter s
  | .shutterArm packet => Sys2Proof.Machine.execShutterArm packet s
  | .shutterStop packet => Sys2Proof.Machine.execShutterStop packet s
  | .shutterTrigger packet => Sys2Proof.Machine.execShutterTrigger packet s
  | .shutterRelease packet => Sys2Proof.Machine.execShutterRelease packet s
  | .shutterStatus packet => Sys2Proof.Machine.execShutterStatus packet s
  | .invalidPacket step opcode packet => Sys2Proof.Machine.execInvalidPacket step opcode packet s
  | .duplicatePacket opcode packet => Sys2Proof.Machine.execDuplicatePacket opcode packet s
  | .sessionOpen packet => Sys2Proof.Machine.execSessionOpen packet s
  | .sessionAuthPhase1 packet => Sys2Proof.Machine.execSessionAuthPhase1 packet s
  | .sessionAuthPhase2 packet sigOk => Sys2Proof.Machine.execSessionAuthPhase2 packet sigOk s
  | .sessionClose packet => Sys2Proof.Machine.execSessionClose packet s
  | .sessionKeepalive packet => Sys2Proof.Machine.execSessionKeepalive packet s
  | .sessionInfo packet => Sys2Proof.Machine.execSessionInfo packet s
  | .sessionIdleClose session => Sys2Proof.Machine.execSessionIdleClose session s
  | .commandTimeout session seq => Sys2Proof.Machine.execCommandTimeout session seq s
  | .cfgRead packet => Sys2Proof.Machine.execCfgRead packet s
  | .cfgWrite packet elsewhere => Sys2Proof.Machine.execCfgWrite packet elsewhere s
  | .cfgFix packet => Sys2Proof.Machine.execCfgFix packet s
  | .fixApplied => Sys2Proof.Machine.execFixApplied s
  | .cfgDiscard packet => Sys2Proof.Machine.execCfgDiscard packet s
  | .leaseTake packet elsewhere => Sys2Proof.Machine.execLeaseTake packet elsewhere s
  | .leaseRelease packet => Sys2Proof.Machine.execLeaseRelease packet s
  | .leaseExpiry entry => Sys2Proof.Machine.execLeaseExpiry entry s
  | .pcieDoorbell channel setup tail => Sys2Proof.Machine.execPcieDoorbell channel setup tail s
  | .pcieRqHeadWrite channel head => Sys2Proof.Machine.execPcieRqHeadWrite channel head s
  | .pcieLinkReset down => Sys2Proof.Machine.execPcieLinkReset down s
  | .bar2Write addr value => Sys2Proof.Machine.execBar2Write addr value s
  | .ethReassemblyTimeout port key => Sys2Proof.Machine.execEthReassemblyTimeout port key s
  | .ethPortDownFault port => Sys2Proof.Machine.execEthPortDownFault port s
  | .spiWrite whole => Sys2Proof.Machine.execSpiWrite whole s
  | .spiRead whole => Sys2Proof.Machine.execSpiRead whole s
  | .spiInvalidType => Sys2Proof.Machine.execSpiInvalidType s
  | .spiCsRise => Sys2Proof.Machine.execSpiCsRise s
  | .spiFrameAborted => Sys2Proof.Machine.execSpiFrameAborted s
  | .ethFrameReceived port frame dt => Sys2Proof.Machine.execEthFrameReceived port frame dt s
  | .ethFrameSent port what dt tsReq last => Sys2Proof.Machine.execEthFrameSent port what dt tsReq last s
  | .ptpSync offset incNs incFrac portState utc => Sys2Proof.Machine.execPtpSync offset incNs incFrac portState utc s
  | .timeLocked => Sys2Proof.Machine.execTimeLocked s
  | .timeSourceLost => Sys2Proof.Machine.execTimeSourceLost s
  | .timeFree => Sys2Proof.Machine.execTimeFree s
  | .timeAdjStep packet => Sys2Proof.Machine.execTimeAdjStep packet s
  | .timeAdjSlew packet => Sys2Proof.Machine.execTimeAdjSlew packet s
  | .timeSetSeconds packet => Sys2Proof.Machine.execTimeSetSeconds packet s
  | .timeMatch comparator dt => Sys2Proof.Machine.execTimeMatch comparator dt s
  | .canFrameReceived controller frame dt errors tec rec' => Sys2Proof.Machine.execCanFrameReceived controller frame dt errors tec rec' s
  | .canFrameSent controller lost dt errors tec rec' => Sys2Proof.Machine.execCanFrameSent controller lost dt errors tec rec' s
  | .canBusOff controller onBus dt => Sys2Proof.Machine.execCanBusOff controller onBus dt s
  | .canBusOn controller => Sys2Proof.Machine.execCanBusOn controller s
  | .canRestart packet => Sys2Proof.Machine.execCanRestart packet s
  | .canAbort packet => Sys2Proof.Machine.execCanAbort packet s
  | .linkUp port delay samePlane => Sys2Proof.Machine.execLinkUp port delay samePlane s
  | .linkDown port => Sys2Proof.Machine.execLinkDown port s
  | .fabFrameReceived port frame aborted arrival => Sys2Proof.Machine.execFabFrameReceived port frame aborted arrival s
  | .fabFrameCheckFail port tag copy frame => Sys2Proof.Machine.execFabFrameCheckFail port tag copy frame s
  | .nakReceived port tag passes => Sys2Proof.Machine.execNakReceived port tag passes s
  | .frameIdleStop port stray frame => Sys2Proof.Machine.execFrameIdleStop port stray frame s
  | .helloSend port => Sys2Proof.Machine.execHelloSend port s
  | .becomeSurveyor => Sys2Proof.Machine.execBecomeSurveyor s
  | .reportSend => Sys2Proof.Machine.execReportSend s
  | .surveyDone => Sys2Proof.Machine.execSurveyDone s
  | .fabSurvey packet => Sys2Proof.Machine.execFabSurvey packet s
  | .fabStatus packet => Sys2Proof.Machine.execFabStatus packet s
  | .fabNodeRead packet => Sys2Proof.Machine.execFabNodeRead packet s
  | .fabNodeReadTimeout => Sys2Proof.Machine.execFabNodeReadTimeout s
  | .fabTtSwap packet => Sys2Proof.Machine.execFabTtSwap packet s
  | .ttSwapped => Sys2Proof.Machine.execTtSwapped s
  | .ttDirectApply => Sys2Proof.Machine.execTtDirectApply s
  | .ttDistributionTimeout => Sys2Proof.Machine.execTtDistributionTimeout s
  | .cycleStart dt incNs incFrac => Sys2Proof.Machine.execCycleStart dt incNs incFrac s
  | .slotTransmit slot => Sys2Proof.Machine.execSlotTransmit slot s
  | .cycleLost => Sys2Proof.Machine.execCycleLost s
  | .surveyorChanged => Sys2Proof.Machine.execSurveyorChanged s
  | .streamLost subscription => Sys2Proof.Machine.execStreamLost subscription s
  | .streamReturned subscription => Sys2Proof.Machine.execStreamReturned subscription s
  | .secondaryReportSend => Sys2Proof.Machine.execSecondaryReportSend s
  | .secondaryCompute => Sys2Proof.Machine.execSecondaryCompute s
  | .portRetry port => Sys2Proof.Machine.execPortRetry port s
  | .portClear packet => Sys2Proof.Machine.execPortClear packet s
  | .pllLock => Sys2Proof.Machine.execPllLock s
  | .pllUnlock => Sys2Proof.Machine.execPllUnlock s
  | .relockStart => Sys2Proof.Machine.execRelockStart s
  | .relockTimeout => Sys2Proof.Machine.execRelockTimeout s
  | .refclkLost => Sys2Proof.Machine.execRefclkLost s
  | .refclkPresent => Sys2Proof.Machine.execRefclkPresent s
  | .vsysFail => Sys2Proof.Machine.execVsysFail s
  | .holdupEnd duration vmin => Sys2Proof.Machine.execHoldupEnd duration vmin s
  | .powerGood cold => Sys2Proof.Machine.execPowerGood cold s
  | .vsysHigh => Sys2Proof.Machine.execVsysHigh s
  | .railOutOfWindow => Sys2Proof.Machine.execRailOutOfWindow s
  | .reverseBlocked => Sys2Proof.Machine.execReverseBlocked s
  | .resetEntry => Sys2Proof.Machine.execResetEntry s
  | .resetAssert => Sys2Proof.Machine.execResetAssert s
  | .resetRequest packet => Sys2Proof.Machine.execResetRequest packet s
  | .startUp checks => Sys2Proof.Machine.execStartUp checks s
  | .startupDone ms => Sys2Proof.Machine.execStartupDone ms s
  | .vbatMeasure mv => Sys2Proof.Machine.execVbatMeasure mv s
  | .imageBegin packet => Sys2Proof.Machine.execImageBegin packet s
  | .imageEraseDone => Sys2Proof.Machine.execImageEraseDone s
  | .imageData packet => Sys2Proof.Machine.execImageData packet s
  | .imageCommit packet => Sys2Proof.Machine.execImageCommit packet s
  | .imageStatus packet => Sys2Proof.Machine.execImageStatus packet s
  | .auditRead packet => Sys2Proof.Machine.execAuditRead packet s
  | .auditFlush => Sys2Proof.Machine.execAuditFlush s
  | .credentialSet packet => Sys2Proof.Machine.execCredentialSet packet s
  | .certModeSet packet => Sys2Proof.Machine.execCertModeSet packet s
  | .tamper input high => Sys2Proof.Machine.execTamper input high s
  | .tamperClear packet => Sys2Proof.Machine.execTamperClear packet s
  | .eventWrite => Sys2Proof.Machine.execEventWrite s
  | .eventSubscribe packet => Sys2Proof.Machine.execEventSubscribe packet s
  | .eventUnsubscribe packet => Sys2Proof.Machine.execEventUnsubscribe packet s
  | .statusRead packet => Sys2Proof.Machine.execStatusRead packet s
  | .counterRead packet => Sys2Proof.Machine.execCounterRead packet s
  | .perfClear packet => Sys2Proof.Machine.execPerfClear packet s
  | .counterOverflow counter sample => Sys2Proof.Machine.execCounterOverflow counter sample s
  | .contactSheet packet => Sys2Proof.Machine.execContactSheet packet s
  | .bandwidthWindowEnd window => Sys2Proof.Machine.execBandwidthWindowEnd window s
  | .transientRate block => Sys2Proof.Machine.execTransientRate block s
  | .registerWrite packet => Sys2Proof.Machine.execRegisterWrite packet s
  | .latticeDemandEnd input => Sys2Proof.Machine.execLatticeDemandEnd input s
  | .supplyConditionClear channel kind level => Sys2Proof.Machine.execSupplyConditionClear channel kind level s
  | .badOpcode opcode packet => Sys2Proof.Machine.execBadOpcode opcode packet s
  | .ethLinkDown port => Sys2Proof.Machine.execEthLinkDown port s
  | .ethLinkUp port speed => Sys2Proof.Machine.execEthLinkUp port speed s
  | .pcieLinkUp gen width => Sys2Proof.Machine.execPcieLinkUp gen width s
  | .idAssignment partingX partingY => Sys2Proof.Machine.execIdAssignment partingX partingY s
  | .rtcWrite => Sys2Proof.Machine.execRtcWrite s
  | .rbGateDrive => Sys2Proof.Machine.execRbGateDrive s
  | .vaultBrownOut => Sys2Proof.Machine.execVaultBrownOut s
  | .imageCommitted signature hash gcm => Sys2Proof.Machine.execImageCommitted signature hash gcm s
  | .soutOvercurrent output => Sys2Proof.Machine.execSoutOvercurrent output s

end Sys2Proof.Machine
end

