-- ==== Sys2Proof/Safety.lean ====
section
/-! DEFINITION. The terms that claims are stated in: when a packet's command starts (R415, R416), the state in which it
starts, the reply it leaves, and the invariant of the machine's tables. -/

namespace Sys2Proof.Machine

/-- The packet passes every check of R415 before its opcode's own, and its command starts at once (R416, R418). -/
def State.takes (s : State) (op : Nat) (p : Packet) (lenOk : Bool) : Prop :=
  s.serves p.chan = true ∧ s.commandFull p.chan = false ∧ s.judge op p = .take ∧ s.admission op p lenOk = none
    ∧ (s.consume p).mayStart op p = true

/-- The state in which the command then starts: its packet has consumed its seq, and it is in flight. -/
def State.taken (s : State) (op : Nat) (p : Packet) (aid : Aid := .none) : State :=
  let s := s.consume p
  let s : State := { s with inflight := s.inflight ++ [({ opcode := op, packet := p, started := true, aid := aid, tick := s.tick } : InFlight)] }
  s.put (Reg.hostSess p.session) 8 5 (s.fld (Reg.hostSess p.session) 8 5 + 1)

/-- The latest reply kept for the packet of session `n` with sequence number `seq` (R425). -/
def State.keptReply (s : State) (n seq : Nat) : Option Reply :=
  ((s.session n).history.find? (fun c => c.seq == seq)).bind Consumed.reply

/-- The packet `p` writes the one word `v` to register `a` of its context, and no check of R373 and R432 refuses it. -/
def State.writesReg (s : State) (p : Packet) (a : Nat) (v : Word) : Prop :=
  p.payload.length = 8 ∧ leAt p.payload 0 4 = a ∧ word (leAt p.payload 4 4) = v ∧ a % 4 = 0
    ∧ s.place p.session a = .reg a ∧ s.wordRefused p a v = none

/-- The state in which the MEM_WRITE of a register row starts. -/
def State.takenWrite (s : State) (p : Packet) : State := s.taken 0x0501 p (.host [] 0)

/-- The tables of a state are in their canonical form: the shared SRAM and the register file list no entry twice, none out
of order, and none that reads as an unlisted one does. -/
def State.canonical (s : State) : Prop := Memory.wf s.mem = true ∧ sparseWf resetValue s.regs = true

end Sys2Proof.Machine
end

