-- ==== Sys2Proof/WellFormed.lean ====
section
/-! DEFINITION. Well-formed commands: every index an operand names exists, and a packet's header fields fit their widths
(R414). Another command names nothing that the module has. -/

namespace Sys2Proof

/-- A packet's header fields fit: a channel of R418, session and seq of 8 bits, tag and lease of 16, and at most 4,096
payload bytes. -/
def Packet.wellFormed (p : Packet) : Bool :=
  decide (p.chan < 8 ∧ p.session < 2 ^ 8 ∧ p.seq < 2 ^ 8 ∧ p.tag < 2 ^ 16 ∧ p.lease < 2 ^ 16 ∧ p.payload.length ≤ 4096)

/-- Whether a command is well formed. -/
def Instr.wellFormed : Instr → Bool
  | .moduleTick _ _ _ | .internal1usBoundary | .spareCalibrationDone _ | .spareComparisonDone _
  | .sampleSchedule _ _ _ _ _ _ | .gateEnableRequestFall | .rideThroughExit | .rideThroughExpired
  | .prechargeDone | .prechargeTimeout | .dcLinkLost | .busDead | .busLive | .routeTimeout | .syncTimeout
  | .blackStartRampComplete | .unloadComplete | .unloadTimeout | .brkFbChange _ | .breakerFail | .secondaryLost
  | .activeLaneFailed _ | .generatorEpoch | .gateCommandChange _ | .gateEnableChange
  | .safetyTick _ _ _ _ _ _ _ _ | .latticeTest _ | .heartbeatLost | .lockstepMismatch | .processorRestartDone
  | .localReset _ _ | .resetDiscrepancy | .armExpired | .blockCallComplete _ _ _ _ _ | .errorTaskRun _
  | .programStopped | .keyChange _ _ | .hostLinkLost | .retryResult _ | .scrubAccess _ _ | .faultRecordWrite
  | .commandTimeout _ _ | .fixApplied | .pcieLinkReset _ | .bar2Write _ _ | .spiWrite _ | .spiRead _
  | .spiInvalidType | .spiCsRise | .spiFrameAborted | .ptpSync _ _ _ _ _ | .timeLocked | .timeSourceLost
  | .timeFree | .becomeSurveyor | .reportSend | .surveyDone | .fabNodeReadTimeout | .ttSwapped | .ttDirectApply
  | .ttDistributionTimeout | .cycleStart _ _ _ | .cycleLost | .surveyorChanged | .secondaryReportSend
  | .secondaryCompute | .pllLock | .pllUnlock | .relockStart | .relockTimeout | .refclkLost | .refclkPresent
  | .vsysFail | .holdupEnd _ _ | .powerGood _ | .vsysHigh | .railOutOfWindow | .reverseBlocked | .resetEntry
  | .resetAssert | .startUp _ | .startupDone _ | .vbatMeasure _ | .imageEraseDone | .auditFlush | .eventWrite
  | .idAssignment _ _ | .rtcWrite | .rbGateDrive | .vaultBrownOut | .imageCommitted _ _ _ => true
  | .samplingTrigger group _ _ | .groupSampleComplete group | .groupSampleWritten group => decide (group < 16)
  | .conversionComplete channel _ | .openWire channel | .openWireClear channel | .owTestWindowEnd channel =>
    decide (channel < 64)
  | .convOwTest packet | .lawSetCoef packet | .lawHold packet | .lawRelease packet | .profileMove packet
  | .modeSet packet | .laneChangeCmd packet | .laneResyncCmd packet | .tripClear packet | .lockoutArm packet _
  | .lockoutConfirm packet | .safeStatus packet | .safeParamRead packet | .prgLoad packet
  | .prgStart packet | .prgStop packet | .forceSet packet | .forceClear packet | .badpageClear packet
  | .memRead packet _ _ | .memWrite packet _ | .memMap packet | .memUnmap packet | .dmaStart packet
  | .dmaAbort packet | .dmaStatus packet | .dmaFaultClear packet | .shutterArm packet | .shutterStop packet
  | .shutterTrigger packet | .shutterRelease packet | .shutterStatus packet | .duplicatePacket _ packet
  | .sessionOpen packet | .sessionAuthPhase1 packet | .sessionAuthPhase2 packet _ | .sessionClose packet
  | .sessionKeepalive packet | .sessionInfo packet | .cfgRead packet | .cfgWrite packet _ | .cfgFix packet
  | .cfgDiscard packet | .leaseTake packet _ | .leaseRelease packet | .timeAdjStep packet | .timeAdjSlew packet
  | .timeSetSeconds packet | .canRestart packet | .canAbort packet | .fabSurvey packet | .fabStatus packet
  | .fabNodeRead packet | .fabTtSwap packet | .portClear packet | .resetRequest packet | .imageBegin packet
  | .imageData packet | .imageCommit packet | .imageStatus packet | .auditRead packet | .credentialSet packet
  | .certModeSet packet | .tamperClear packet | .eventSubscribe packet | .eventUnsubscribe packet
  | .statusRead packet | .counterRead packet | .perfClear packet | .registerWrite packet | .badOpcode _ packet =>
    packet.wellFormed
  | .bitstreamStale input | .bitstreamResumed input | .inputDiscrepancy input | .latticeDemand input
  | .latticeDemandEnd input => decide (input < 16)
  | .bitstreamWindowEnd input preset _ => decide (input < 16 ∧ preset < 4)
  | .settlingEnd channel preset => decide (channel < 80 ∧ preset < 4)
  | .thresholdAssert comparator _ => decide (comparator < 64)
  | .measInvalidLimit law | .holdExpired law => decide (law < 4)
  | .laneLinkWatchdog lane | .laneRecoveryStart lane | .laneRecovered lane _ | .resyncCopy lane
  | .laneResyncDone lane => decide (lane < 2)
  | .timebaseZeroPoint timebase _ | .updatePoint timebase _ => decide (timebase < 12)
  | .tripSourceAssert source _ _ _ => decide (source < 16)
  | .blankingWindowClose window _ => decide (window < 48)
  | .interlockGapEnd group channel => decide (group < 16 ∧ channel < 48)
  | .gatePhaseEnd channel _ _ _ | .sc channel _ _ | .overtemp channel _ | .retryWaitEnd channel _ => decide (channel < 48)
  | .forcedRefresh pair => decide (pair < 24)
  | .supplyUv channel kind _ | .supplyConditionClear channel kind _ => decide (channel < 48 ∧ kind < 3)
  | .soutTestPulse output _ _ _ | .soutOvercurrent output => decide (output < 8)
  | .safeFrameReceived plane node stream seq _ _ _ => decide (plane < 2 ∧ node < 4096 ∧ stream < 16 ∧ seq < 65536)
  | .degradedWindowExpiry subscription => decide (subscription < 16)
  | .taskStartPoint task _ => decide (task < 8)
  | .programWatchdog task => decide (task < 9)
  | .dispatchGrant core => decide (core < 16)
  | .uncorrectableError region _ _ _ _ => decide (region < 6)
  | .badpageClearDone page => decide (page < 4096)
  | .bankGrant bank _ _ _ _ | .filmWrite bank => decide (bank < 16)
  | .dmaBurst engine err _ _ => decide (engine < 4 ∧ err < 3)
  | .descriptorAllocation ring _ _ | .ringHeadAdvance ring _ => decide (ring < 64)
  | .shutterSample shutter _ _ _ _ | .recordClosed shutter => decide (shutter < 8)
  | .patternTrigger shutter _ frac _ _ _ _ => decide (shutter < 8 ∧ frac < 256)
  | .invalidPacket step _ packet => packet.wellFormed && decide (1 ≤ step ∧ step ≤ 6)
  | .sessionIdleClose session => decide (session < 128)
  | .leaseExpiry entry => decide (entry < 256)
  | .pcieDoorbell channel _ _ | .pcieRqHeadWrite channel _ => decide (channel < 5)
  | .ethReassemblyTimeout port _ | .ethPortDownFault port | .ethFrameReceived port _ _
  | .ethFrameSent port _ _ _ _ | .ethLinkDown port | .ethLinkUp port _ => decide (port < 2)
  | .timeMatch comparator _ => decide (comparator < 16)
  | .canFrameReceived controller _ _ _ _ _ | .canFrameSent controller _ _ _ _ _ | .canBusOff controller _ _
  | .canBusOn controller => decide (controller < 4)
  | .linkUp port _ _ | .linkDown port | .fabFrameReceived port _ _ _ | .nakReceived port _ _
  | .frameIdleStop port _ _ | .helloSend port | .portRetry port => decide (port < 4)
  | .fabFrameCheckFail port _ copy _ => decide (port < 4 ∧ copy < 3)
  | .slotTransmit slot => decide (1 ≤ slot ∧ slot < 4096)
  | .streamLost subscription | .streamReturned subscription => decide (subscription < 256)
  | .tamper input _ => decide (input < 4)
  | .counterOverflow counter _ => decide (counter < 32)
  | .contactSheet packet => packet.all Packet.wellFormed
  | .bandwidthWindowEnd window => decide (window < 16)
  | .transientRate block => decide (1 ≤ block ∧ block ≤ 17)
  | .pcieLinkUp gen width => decide (1 ≤ gen ∧ gen ≤ 3 ∧ 1 ≤ width ∧ width ≤ 2)

end Sys2Proof
end

