-- ==== Sys2Proof/Certificates/Slice0/Obligations.lean ====
section
/-! DEFINITION. The statements for the provers. Each docstring names the rules that the statement formalises. In the
statements of completion `u` stands for the state in which a taken command starts (`State.taken`), so that each conclusion
says exactly what the command does, and with it everything it leaves alone. -/

open Sys2Proof Sys2Proof.Machine

/-- A step runs the command at the front of the queue. For every command c and every state, one step of the state whose
queue is c followed by rest is exec of c on the state whose queue is rest. (00_scope.md, 95_what_each_step_holds.md) -/
def Obligations.StepRunsTheFrontCommand : Prop :=
  ∀ (c : Instr) (rest : List Instr) (s : State),
    step { s with pending := c :: rest } = exec c { s with pending := rest }

/-- With no command waiting a step changes nothing. With an empty queue a step answers the same state: the model's
choice of log entry 12, since the spec gives the block no idle step. (00_scope.md) -/
def Obligations.EmptyQueueIdles : Prop :=
  ∀ s : State, s.pending = [] → step s = .next s

/-- At reset every register reads its Reset column. In the state after reset every register of the register maps outside
the vault domain reads the Reset column of its map, where the map gives a value; a register marked U or V reads 0,
the choice of log entry 2; no command waits and shared SRAM lists no byte. (R10) -/
def Obligations.RegistersReadTheirResetColumn : Prop :=
  (∀ a r, regRow a = some r → State.reset.rd a = word r.reset)
    ∧ State.reset.pending = [] ∧ State.reset.mem = [] ∧ State.reset.staging = [] ∧ State.reset.ledger = []

/-- The state after reset is canonical. The tables of the state after reset are in their canonical form. (R5, R18) -/
def Obligations.CanonicalAtReset : Prop :=
  State.reset.canonical

/-- Every step keeps the shared SRAM and the register file canonical. From every state whose shared SRAM and register
file list their entries in strictly rising address order and list none that reads as an unlisted one does, a step
that answers a next state gives a state of which the same holds: equal memories stay equal data. (R5, R18, R357) -/
def Obligations.StepKeepsTablesCanonical : Prop :=
  ∀ s t : State, s.canonical → step s = .next t → t.canonical

/-- No command touches the commands that wait behind it. For every command and state, the next state that exec answers
holds the same waiting commands: resets, start-up and every firmware action keep them. (00_scope.md, R530) -/
def Obligations.CommandsLeaveTheQueue : Prop :=
  ∀ (c : Instr) (s t : State), exec c s = .next t → t.pending = s.pending

/-- Session opcodes complete. SESSION_OPEN of a packet that opens no session again and finds a free session opens it and
answers OK. SESSION_AUTH phase 1 on an enabled credential holds the phase in its session and answers OK with 224
bytes. Phase 2 within 5 s of it, with a right signature, gives the session its role and answers OK. SESSION_CLOSE,
SESSION_KEEPALIVE and SESSION_INFO, once taken, answer OK and end the session, renew its leases, or return its
information. (R423, R426, R428, R439, R547) -/
def Obligations.SessionOpcodesComplete : Prop :=
  (∀ (s : State) (p : Packet) (n : Nat), p.session = 0xFF → s.serves p.chan = true → s.commandFull p.chan = false →
      p.auth = .absent → p.payload.length = 4 → s.openedAgain p = none → s.freeSession = some n →
      exec (.sessionOpen p) s = .next ((s.openSession n p).refuse 0 p .ok (s.openReply n p.chan) false))
    ∧ (∀ (s : State) (p : Packet), s.takes 1 p true → p.payload.length = 132 → leAt p.payload 0 1 = 1 →
      (s.taken 1 p).isAuth p.session = false → ((s.taken 1 p).cred (leAt p.payload 1 1)).enabled = true →
      ∃ (u : State) (nonce key : BitVec 128) (reply : List Byte),
        exec (.sessionAuthPhase1 p) s = .next (u.finish 1 p .ok reply) ∧ reply.length = 224 ∧
        (u.session p.session).phase1
          = some { slot := leAt p.payload 1 1, nonce := nonce, key := key, tick := (s.taken 1 p).tick })
    ∧ (∀ (s : State) (p : Packet) (a : AuthPhase), s.takes 1 p true → p.payload.length = 100 →
      leAt p.payload 0 1 = 2 →
      p.session < 128 → (s.taken 1 p (.flag true)).isAuth p.session = false →
      ((s.taken 1 p (.flag true)).session p.session).phase1 = some a →
      (s.taken 1 p (.flag true)).tick ≤ a.tick + 5000 →
      ∃ u : State, exec (.sessionAuthPhase2 p true) s = .next (u.finish 1 p .ok []) ∧ u.isAuth p.session = true ∧
        u.role p.session = ((s.taken 1 p (.flag true)).cred a.slot).role % 4 ∧
        (u.session p.session).key = some a.key ∧ (u.session p.session).phase1 = none)
    ∧ (∀ (s : State) (p : Packet), s.takes 2 p true → p.payload = [] →
      exec (.sessionClose p) s = .next (((s.taken 2 p).finish 2 p .ok []).endSession p.session .close))
    ∧ (∀ (s : State) (p : Packet), s.takes 3 p true → p.payload = [] →
      exec (.sessionKeepalive p) s = .next (((s.taken 3 p).renewLeases p.session).finish 3 p .ok []))
    ∧ (∀ (s : State) (p : Packet), s.takes 4 p true → p.payload = [] →
      exec (.sessionInfo p) s = .next ((s.taken 4 p).finish 4 p .ok ((s.taken 4 p).sessionInfo p.session)))

/-- Packets that fail a check of R415, and resent ones. INVALID_PACKET at step 1 counts in HOST_DROP alone; at steps 2
and 3 it is refused with BAD_LENGTH and BAD_CRC; at steps 4 to 6 with the status its failing check names, its seq
unconsumed. BAD_OPCODE consumes its seq and is refused. DUPLICATE_PACKET sends the kept reply again.
SESSION_IDLE_CLOSE ends an open session whose timeout has passed, COMMAND_TIMEOUT answers TIMEOUT to a command that
has not started within command_timeout of its arrival. (R415, R425, R426, R428, R442) -/
def Obligations.PacketFailuresAnsweredAsR415Says : Prop :=
  (∀ (s : State) (op : Nat) (p : Packet), s.serves p.chan = true →
      exec (.invalidPacket 1 op p) s = .next (s.countUp Reg.hostDrop 0 16 1))
    ∧ (∀ (s : State) (op : Nat) (p : Packet), s.serves p.chan = true → s.commandFull p.chan = false →
      exec (.invalidPacket 2 op p) s = .next (s.refuse op p .badLength [] false) ∧
      exec (.invalidPacket 3 op p) s = .next (s.refuse op p .badCrc [] false))
    ∧ (∀ (s : State) (k op : Nat) (p : Packet) (st : Status) (payload : List Byte) (tagged : Bool), 4 ≤ k → k ≤ 6 →
      s.serves p.chan = true → s.commandFull p.chan = false → s.judge op p = .refuse st payload tagged →
      exec (.invalidPacket k op p) s = .next (s.refused op p st payload tagged))
    ∧ (∀ (s : State) (op : Nat) (p : Packet), opRow op = none → s.serves p.chan = true →
      s.commandFull p.chan = false →
      s.judge op p = .take →
      exec (.badOpcode op p) s = .next (State.answer (if audited op then
        (s.consume p).audit p.session ((s.consume p).role p.session) .opcode op 0x0101 else s.consume p) op p .badOpcode []))
    ∧ (∀ (s : State) (op : Nat) (p : Packet) (c : Consumed) (r : Reply), s.serves p.chan = true →
      s.commandFull p.chan = false → s.judge op p = .resend c → c.reply = some r →
      exec (.duplicatePacket op p) s = .next (s.emit r))
    ∧ (∀ (s : State) (n : Nat), s.isOpen n = true → (s.session n).lastTick + s.sessionTimeout ≤ s.tick →
      exec (.sessionIdleClose n) s = .next (s.endSession n .idle))
    ∧ (∀ (s : State) (n seq : Nat) (f : InFlight),
      s.inflight.find? (fun f => s.timedOut f && f.packet.session == n && f.packet.seq == seq) = some f →
      exec (.commandTimeout n seq) s
        = .next (((s.popUnit (2 * f.packet.chan)).finish f.opcode f.packet .timeout []).raise 0x0D07 []))

/-- Lease and configuration opcodes complete. LEASE_TAKE of a free object that the role may lease takes the lowest free
table entry with the next handle. LEASE_RELEASE of a held lease ends it. CFG_READ of registers and of the ledger
answers their contents. CFG_WRITE of staged registers enters the staging area. CFG_DISCARD empties it. CFG_FIX of an
empty staging area answers OK; of a set with no failing check it answers PENDING and enters the ledger. FIX_APPLIED
takes every register without a boundary. LEASE_EXPIRY ends a lease with no time left. (R430, R431, R433, R434, R436,
R437, R438, R439) -/
def Obligations.LeaseAndConfigurationOpcodesComplete : Prop :=
  (∀ (s u : State) (p : Packet) (e : Bool) (mask top i : Nat), s.takes 0x0104 p true →
      u = s.taken 0x0104 p (.flag e) →
      p.payload.length = 8 → leaseKinds (leAt p.payload 0 1) = some (mask, top) → leAt p.payload 2 2 ≤ top →
      100 ≤ leAt p.payload 4 4 → leAt p.payload 4 4 ≤ 60000 → mask / 2 ^ u.role p.session % 2 = 1 →
      u.leaseOn (leAt p.payload 0 1) (leAt p.payload 2 2) = none →
      (List.range 256).find? (fun i => u.leaseKind i == 0) = some i →
      (leAt p.payload 0 1 = 7 → e = false ∧ u.hasSurveyor = true) →
      ∃ v : State, exec (.leaseTake p e) s = .next (v.granted p u.nextHandle) ∧ v.leaseLast = u.nextHandle ∧
        sparseGet (fun _ => 0) v.leaseDur i = leAt p.payload 4 4)
    ∧ (∀ (s u : State) (p : Packet) (i : Nat), s.takes 0x0105 p true → u = s.taken 0x0105 p → p.payload.length = 4 →
      u.leaseCheck (leAt p.payload 0 1) (leAt p.payload 2 2) p = none →
      u.leaseOn (leAt p.payload 0 1) (leAt p.payload 2 2) = some i →
      exec (.leaseRelease p) s = .next ((u.endLease i .release).finish 0x0105 p .ok []))
    ∧ (∀ (s u : State) (p : Packet), s.takes 0x0100 p true → u = s.taken 0x0100 p → p.payload.length = 8 →
      leAt p.payload 0 1 = 2 → 1 ≤ leAt p.payload 2 2 → leAt p.payload 2 2 ≤ 512 →
      exec (.cfgRead p) s = .next (u.finish 0x0100 p .ok
        (((u.ledger.drop (leAt p.payload 4 4)).take (leAt p.payload 2 2)).flatMap claimBytes)))
    ∧ (∀ (s u : State) (p : Packet) (a n : Nat), s.takes 0x0100 p true → u = s.taken 0x0100 p →
      p.payload.length = 8 →
      a = leAt p.payload 4 4 → n = leAt p.payload 2 2 → 1 ≤ n → n ≤ 1024 → a % 4 = 0 → inBlocks a = true →
      inBlocks (a + 4 * n - 4) = true →
      (leAt p.payload 0 1 = 0 →
          exec (.cfgRead p) s = .next ((u.readFixed a n).2.finish 0x0100 p .ok (u.readFixed a n).1)) ∧
      (leAt p.payload 0 1 = 1 → u.leaseCheck 1 0 p = none → exec (.cfgRead p) s = .next (u.finish 0x0100 p .ok
        ((List.range n).flatMap (fun i => wordBytes ((u.stagedValue (a + 4 * i)).getD (u.readReg (a + 4 * i))))))))
    ∧ (∀ (s u : State) (p : Packet) (e : Bool) (l : List (Nat × Word)), s.takes 0x0101 p true →
      u = s.taken 0x0101 p (.flag e) → 8 ≤ p.payload.length →
      p.payload.length ≤ 4096 → p.payload.length % 4 = 0 → u.leaseCheck 1 0 p = none →
      (∀ i < (p.payload.length - 4) / 4, u.stageCheck p e (leAt p.payload 0 4 + 4 * i) = none) →
      l = stageAll u.staging (leAt p.payload 0 4) (bytesWords ((p.payload.length - 4) / 4) (p.payload.drop 4)) →
      l.length ≤ 4096 → exec (.cfgWrite p e) s = .next (State.finish { u with staging := l } 0x0101 p .ok []))
    ∧ (∀ (s u : State) (p : Packet), s.takes 0x0103 p true → u = s.taken 0x0103 p → p.payload = [] →
      u.leaseCheck 1 0 p = none →
      exec (.cfgDiscard p) s = .next (State.finish { u with staging := [] } 0x0103 p .ok []))
    ∧ (∀ (s u : State) (p : Packet), s.takes 0x0102 p true → u = s.taken 0x0102 p → p.payload = [] →
      u.leaseCheck 1 0 p = none →
      (u.staging = [] → exec (.cfgFix p) s = .next (u.finish 0x0102 p .ok [])) ∧
      (u.staging ≠ [] → u.fixVerdict = none → exec (.cfgFix p) s = .next ((u.pend 0x0102 p).fixAccept 0x0102 p)))
    ∧ (∀ s : State, s.fixes ≠ [] → exec .fixApplied s = .next s.applyNow.startHeld)
    ∧ (∀ (s : State) (i : Nat), i < 256 → s.leaseKind i ≠ 0 → s.leaseLeft i = 0 →
      exec (.leaseExpiry i) s = .next (s.endLease i .expiry))

/-- Law, profile and mode opcodes complete. With the lease held and no check failing, LAW_SET_COEF queues its words and
answers the sample at which the last takes effect, LAW_HOLD makes a hold due at the law's next sample, LAW_RELEASE
ends a hold, PROFILE_MOVE sets a profile target, and MODE_SET replaces the mode target. (R156, R157, R162, R164,
R181, R187) -/
def Obligations.ControlOpcodesComplete : Prop :=
  (∀ (s u : State) (p : Packet), s.takes 0x0200 p true → u = s.taken 0x0200 p →
      p.payload.length = 4 + 8 * leAt p.payload 2 2 → u.leaseCheck 2 (leAt p.payload 0 1) p = none →
      leAt p.payload 0 1 ≤ 3 → coefEntries p.payload ≠ [] → (coefEntries p.payload).length ≤ 256 →
      (coefEntries p.payload).all coefOk = true → u.lane.queue.length + (coefEntries p.payload).length ≤ 256 →
      ∃ v : State, exec (.lawSetCoef p) s = .next (v.finish 0x0200 p .ok (wordBytes (v.coefSample (leAt p.payload 0 1)))) ∧
        v.lane.queue = u.lane.queue ++ (coefEntries p.payload).map
          (fun e => { law := leAt p.payload 0 1, index := e.1, value := e.2 }))
    ∧ (∀ (s u : State) (p : Packet), s.takes 0x0201 p true → u = s.taken 0x0201 p → p.payload.length = 4 →
      u.leaseCheck 2 (leAt p.payload 0 1) p = none → leAt p.payload 0 1 ≤ 3 → 1 ≤ leAt p.payload 1 1 →
      leAt p.payload 1 1 ≤ 64 → u.lawOn (leAt p.payload 0 1) = true → u.lawHeld (leAt p.payload 0 1) = false →
      (u.law (leAt p.payload 0 1)).holdDue = none → (leAt p.payload 0 1 = u.vmoLaw → u.limiting = false) →
      exec (.lawHold p) s = .next ((u.setLaw (leAt p.payload 0 1)
        { u.law (leAt p.payload 0 1) with holdDue := some (leAt p.payload 1 1) }).finish 0x0201 p .ok
          (wordBytes (u.lrd (fun L => Reg.laneLawSample L (leAt p.payload 0 1)) + 1))))
    ∧ (∀ (s u : State) (p : Packet), s.takes 0x0202 p true → u = s.taken 0x0202 p → p.payload.length = 8 →
      u.leaseCheck 2 (leAt p.payload 0 1) p = none → leAt p.payload 0 1 ≤ 3 →
      u.lawHeld (leAt p.payload 0 1) = true →
      u.pendingWords (leAt p.payload 0 1) = 0 →
      (leAt p.payload 1 1 % 2 = 1 →
        word (leAt p.payload 4 4) = u.lrd (fun L => Reg.laneLawCoefCrc L (leAt p.payload 0 1))) →
      exec (.lawRelease p) s = .next ((u.setHeld (leAt p.payload 0 1) false 0).finish 0x0202 p .ok []))
    ∧ (∀ (s u : State) (p : Packet), s.takes 0x0203 p true → u = s.taken 0x0203 p → p.payload.length = 8 →
      u.leaseCheck 3 0 p = none → u.profileCheck .host (leAt p.payload 0 1) (word (leAt p.payload 4 4)) = none →
      exec (.profileMove p) s = .next ((u.setProfile (leAt p.payload 0 1) (word (leAt p.payload 4 4))).finish 0x0203 p .ok
        (wordBytes (u.lrd Reg.laneSample + 1))))
    ∧ (∀ (s u : State) (p : Packet), s.takes 0x0204 p true → u = s.taken 0x0204 p → p.payload.length = 4 →
      u.leaseCheck 3 0 p = none → u.modeCheck .host (leAt p.payload 0 1) = none →
      exec (.modeSet p) s = .next ((u.acceptTarget (leAt p.payload 0 1)).finish 0x0204 p .ok []))

/-- Program and force opcodes complete. With the lease held and no check failing, PRG_LOAD of a first part holds it,
PRG_START starts the loaded program, PRG_STOP of a running program answers PENDING and lets it stop, FORCE_SET and
FORCE_CLEAR change the table of forces. (R336, R337, R338, R352, R354) -/
def Obligations.ProgramOpcodesComplete : Prop :=
  (∀ (s u v : State) (p : Packet) (l : List Byte), s.takes 0x0300 p true →
      u = s.taken 0x0300 p → 8 ≤ p.payload.length → p.payload.length ≤ 4096 → u.leaseCheck 4 0 p = none →
      u.prgRuns = false → (leAt p.payload 0 4 = 0 ∨ (u.prgState = 1 ∧ leAt p.payload 0 4 = u.cyc.image.length)) →
      l = (if leAt p.payload 0 4 = 0 then p.payload.drop 8 else u.cyc.image ++ p.payload.drop 8) →
      v = State.setPrgState { u with cyc := { u.cyc with image := l } } 1 →
      (leAt p.payload 4 1 % 2 = 0 → exec (.prgLoad p) s = .next (v.finish 0x0300 p .ok [])) ∧
      (leAt p.payload 4 1 % 2 = 1 → exec (.prgLoad p) s = .next (v.checkImage p)))
    ∧ (∀ (s u : State) (p : Packet) (g : Program), s.takes 0x0301 p true →
      u = s.taken 0x0301 p → p.payload.length = 4 → u.leaseCheck 4 0 p = none →
      (u.prgState = 2 ∨ u.prgState = 5 ∨ u.prgState = 6) → u.cyc.loaded = some g →
      (leAt p.payload 0 1 % 2 = 1 → u.prgState ≠ 2 ∧ g.crc = u.inForce.crc) → u.collision g.claims = none →
      g.claims.any u.claimMarked = false →
      exec (.prgStart p) s
        = .next ((u.startProgram g (decide (leAt p.payload 0 1 % 2 = 0))).finish 0x0301 p .ok []))
    ∧ (∀ (s u : State) (p : Packet), s.takes 0x0302 p true → u = s.taken 0x0302 p → p.payload = [] →
      u.leaseCheck 4 0 p = none → u.prgState = 3 →
      exec (.prgStop p) s = .next ((State.setPrgState { u with cyc := { u.cyc with stop := some p } } 4).pend 0x0302 p))
    ∧ (∀ (s u : State) (p : Packet) (f : Force) (l : List Force), s.takes 0x0303 p true → u = s.taken 0x0303 p →
      p.payload.length = 8 →
      u.leaseCheck 5 0 p = none →
      u.forceCheck (leAt p.payload 0 1) (leAt p.payload 2 2) (word (leAt p.payload 4 4)) = none →
      (u.forceOn (leAt p.payload 0 1) (leAt p.payload 2 2) = none → u.cyc.forces.length < 256) →
      f = { kind := leAt p.payload 0 1, index := leAt p.payload 2 2, value := word (leAt p.payload 4 4) } →
      l = (if (u.forceOn f.kind f.index).isSome then
          u.cyc.forces.map (fun g => if g.kind = f.kind ∧ g.index = f.index then f else g)
        else u.cyc.forces ++ [f]) →
      exec (.forceSet p) s
        = .next ((State.showForces { u with cyc := { u.cyc with forces := l } } p 1).finish 0x0303 p .ok []))
    ∧ (∀ (s u : State) (p : Packet) (l : List Force), s.takes 0x0304 p true → u = s.taken 0x0304 p →
      p.payload.length = 4 →
      u.leaseCheck 5 0 p = none →
      l = (if leAt p.payload 0 1 = 0xFF then []
        else u.cyc.forces.filter (fun f => f.kind != leAt p.payload 0 1 || f.index != leAt p.payload 2 2)) →
      exec (.forceClear p) s
        = .next ((State.showForces { u with cyc := { u.cyc with forces := l } } p 0).finish 0x0304 p .ok []))

/-- Memory and DMA opcodes complete. MEM_READ of words that no check refuses answers them; MEM_WRITE writes them in
ascending address and answers OK. MEM_MAP of a new range adds one mapping, MEM_UNMAP of exactly mapped ranges
removes them. DMA_START on an idle, unmarked channel of the session queues its chain, DMA_ABORT discards what is not
complete, DMA_STATUS returns the status and clears the completions. (R373, R374, R375, R378, R382) -/
def Obligations.MemoryOpcodesComplete : Prop :=
  (∀ (s u : State) (p : Packet) (host : List Byte) (k : Nat), s.takes 0x0500 p true →
      u = s.taken 0x0500 p (.host host k) →
      p.payload.length = 8 → leAt p.payload 0 4 % 4 = 0 → leAt p.payload 4 4 % 4 = 0 → 4 ≤ leAt p.payload 4 4 →
      leAt p.payload 4 4 ≤ 4088 →
      u.rangeFault p.session (leAt p.payload 0 4) (leAt p.payload 4 4 / 4) false = none →
      ∃ v : State, exec (.memRead p host k) s = .next (v.finish 0x0500 p .ok
          ((u.countEcc p.session (leAt p.payload 0 4) (leAt p.payload 4 4 / 4) k).readWords p.session (leAt p.payload 0 4) (leAt p.payload 4 4 / 4) host).1) ∧
        v = ((u.countEcc p.session (leAt p.payload 0 4) (leAt p.payload 4 4 / 4) k).readWords p.session (leAt p.payload 0 4) (leAt p.payload 4 4 / 4) host).2)
    ∧ (∀ (s u : State) (p : Packet) (k : Nat), s.takes 0x0501 p true → u = s.taken 0x0501 p (.host [] k) →
      8 ≤ p.payload.length →
      p.payload.length ≤ 4092 → leAt p.payload 0 4 % 4 = 0 → (p.payload.length - 4) % 4 = 0 →
      u.firstRefused p (leAt p.payload 0 4) (bytesWords ((p.payload.length - 4) / 4) (p.payload.drop 4)) = none →
      exec (.memWrite p k) s = .next (((u.countEcc p.session (leAt p.payload 0 4) ((p.payload.length - 4) / 4) k).writeWords p.session (leAt p.payload 0 4)
        (bytesWords ((p.payload.length - 4) / 4) (p.payload.drop 4))).finish 0x0501 p .ok []))
    ∧ (∀ (s u : State) (p : Packet) (va da n page : Nat) (m : Mapping), s.takes 0x0502 p true →
      u = s.taken 0x0502 p →
      p.payload.length = 16 → va = leAt p.payload 0 4 → da = leAt p.payload 4 4 → n = leAt p.payload 8 4 →
      page = (if leAt p.payload 12 4 / 2 % 2 = 1 then 0x200000 else 0x1000) → 0 < n →
      va % page = 0 → da % page = 0 → n % page = 0 → va + n ≤ 2 ^ 32 → da + n ≤ memSize →
      (u.memx.maps.filter (fun m => m.ctx == p.session)).any (fun m => overlaps va n m.vaddr m.size) = false →
      overlaps va n 0x10000000 0x110000 = false → overlaps va n 0x80000000 (u.hostWindow p.session) = false →
      (u.memx.maps.filter (fun m => m.ctx == p.session)).length < 1024 →
      m = { ctx := p.session, vaddr := va, daddr := da, size := n, write := leAt p.payload 12 4 % 2 == 1 } →
      exec (.memMap p) s
        = .next (State.finish { u with memx := { u.memx with maps := u.memx.maps ++ [m] } } 0x0502 p .ok []))
    ∧ (∀ (s u : State) (p : Packet) (va n : Nat) (ms rest : List Mapping), s.takes 0x0503 p true →
      u = s.taken 0x0503 p →
      p.payload.length = 8 → va = leAt p.payload 0 4 → n = leAt p.payload 4 4 →
      ms = u.memx.maps.filter (fun m => m.ctx == p.session && overlaps va n m.vaddr m.size) → ms ≠ [] →
      (∀ m ∈ ms, va ≤ m.vaddr ∧ m.vaddr + m.size ≤ va + n) → ms.foldl (fun a m => a + m.size) 0 = n →
      rest = u.memx.maps.filter (fun m => !(m.ctx == p.session && overlaps va n m.vaddr m.size)) →
      exec (.memUnmap p) s
        = .next (State.finish { u with memx := { u.memx with maps := rest } } 0x0503 p .ok []))
    ∧ (∀ (s u : State) (p : Packet) (k : Nat), s.takes 0x0504 p true → u = s.taken 0x0504 p →
      p.payload.length = 4 + 16 * leAt p.payload 2 2 → u.ownChannel p = some k →
      u.bit (Reg.memDmaFault (k / 32)) (k % 32) = false → u.dmaState k = 0 → dmaXfers p.payload ≠ [] →
      (dmaXfers p.payload).length ≤ 255 → (dmaXfers p.payload).all DmaXfer.ok = true →
      exec (.dmaStart p) s = .next ((((u.setDmaCh k
        { xfers := dmaXfers p.payload, moved := 0, index := 0, packet := some p }).setDmaState k 1).showDma k).finish
          0x0504 p .ok []))
    ∧ (∀ (s u : State) (p : Packet) (k : Nat), s.takes 0x0505 p true → u = s.taken 0x0505 p → p.payload.length = 4 →
      u.ownChannel p = some k →
      (u.dmaState k = 0 → exec (.dmaAbort p) s = .next (u.finish 0x0505 p .ok [])) ∧
      (u.dmaState k = 1 ∨ u.dmaState k = 2 →
          exec (.dmaAbort p) s = .next ((u.discardChain k 0).finish 0x0505 p .ok [])))
    ∧ (∀ (s u : State) (p : Packet) (k : Nat), s.takes 0x0506 p true → u = s.taken 0x0506 p → p.payload.length = 4 →
      leAt p.payload 0 1 < 4 → leAt p.payload 1 1 < 32 → k = 32 * leAt p.payload 0 1 + leAt p.payload 1 1 →
      exec (.dmaStatus p) s
        = .next ((u.clearRc (dmaDone k)).finish 0x0506 p .ok (wordsBytes [u.rd (dmaStat k), u.rd (dmaDone k)])))

/-- Rows of registers that act directly complete: CONV, LANE, PWM, MEM and FAB. A MEM_WRITE packet that is taken, writes
one word to the register its row names, and is refused by no check answers OK after that register's effect:
CONV_OW_TEST starts the channel's open-wire test or starts its window again, LANE_RED_CMD asks for a lane change
with key 0xA5 or puts the standby lane out of step for a resynchronisation with key 0x5A, PWM_TRIP_CLR clears the
trip, MEM_BADPAGE and MEM_DMA_FAULT clear marks, FAB_PORT_CMD clears a port's mark. (R7, R104, R226, R246, R363,
R381, R478) -/
def Obligations.DirectRegisterRowsComplete : Prop :=
  (∀ (s : State) (p : Packet) (v : Word), s.takes 0x0501 p true → (s.takenWrite p).writesReg p Reg.convOwTest v →
      exec (.convOwTest p) s = .next (((s.takenWrite p).owTestStart v).finish 0x0501 p .ok []))
    ∧ (∀ (s : State) (p : Packet) (v : Word) (l : Nat), s.takes 0x0501 p true →
      (s.takenWrite p).writesReg p (Reg.laneRedCmd l) v → l < 2 → field v 0 8 = 0xA5 →
      exec (.laneChangeCmd p) s = .next (((s.takenWrite p).redCommand v).finish 0x0501 p .ok []))
    ∧ (∀ (s : State) (p : Packet) (v : Word) (l : Nat), s.takes 0x0501 p true →
      (s.takenWrite p).writesReg p (Reg.laneRedCmd l) v → l < 2 → field v 0 8 = 0x5A →
      exec (.laneResyncCmd p) s = .next (((s.takenWrite p).redCommand v).finish 0x0501 p .ok []))
    ∧ (∀ (s : State) (p : Packet) (v : Word) (l : Nat), s.takes 0x0501 p true →
      (s.takenWrite p).writesReg p (Reg.pwmTripClr l) v → l < 2 →
      exec (.tripClear p) s = .next (((s.takenWrite p).clearTrip (field v 0 7)).finish 0x0501 p .ok []))
    ∧ (∀ (s : State) (p : Packet) (v : Word) (w : Nat), s.takes 0x0501 p true →
      (s.takenWrite p).writesReg p (Reg.memBadpage 0 + 4 * w) v → w < 128 →
      exec (.badpageClear p) s = .next (((s.takenWrite p).clearPages w v).finish 0x0501 p .ok []))
    ∧ (∀ (s : State) (p : Packet) (v : Word) (e : Nat), s.takes 0x0501 p true →
      (s.takenWrite p).writesReg p (Reg.memDmaFault 0 + 4 * e) v → e < 4 →
      exec (.dmaFaultClear p) s = .next (((s.takenWrite p).clearChannels e v).finish 0x0501 p .ok []))
    ∧ (∀ (s : State) (p : Packet) (v : Word) (q : Nat), s.takes 0x0501 p true →
      (s.takenWrite p).writesReg p (Reg.fabPortCmd 0 + 0x10 * q) v → q < 4 →
      exec (.portClear p) s = .next (((s.takenWrite p).clearPort q v).finish 0x0501 p .ok []))

/-- Rows of registers that act directly complete: NET, SYS, PERF and the others. A MEM_WRITE packet that is taken,
writes one word to the register its row names, and is refused by no check answers OK after that register's effect:
NET_TC_ADJ steps or slews the time, NET_TC_SETSEC sets the seconds, NET_CAN_CMD restarts or aborts, SYS_RESET_CMD
requests a reset, PERF_CLEAR sets counters to 0. REGISTER_WRITE of a W1C register without a row of its own clears
the bits written as 1, and of an RC register changes nothing. (R7, R432, R455, R467, R468, R529, R567) -/
def Obligations.ClockAndBusRegisterRowsComplete : Prop :=
  (∀ (s : State) (p : Packet) (v : Word), s.takes 0x0501 p true → (s.takenWrite p).writesReg p Reg.netTcAdj v →
      field v 31 1 = 1 →
      exec (.timeAdjStep p) s = .next (((s.takenWrite p).adjustTime v).finish 0x0501 p .ok []))
    ∧ (∀ (s : State) (p : Packet) (v : Word), s.takes 0x0501 p true →
      (s.takenWrite p).writesReg p Reg.netTcAdj v → field v 31 1 = 0 →
      exec (.timeAdjSlew p) s = .next (((s.takenWrite p).adjustTime v).finish 0x0501 p .ok []))
    ∧ (∀ (s : State) (p : Packet) (v : Word), s.takes 0x0501 p true →
      (s.takenWrite p).writesReg p Reg.netTcSetsec v →
      exec (.timeSetSeconds p) s = .next (((s.takenWrite p).setSeconds v).finish 0x0501 p .ok []))
    ∧ (∀ (s : State) (p : Packet) (v : Word) (n : Nat), s.takes 0x0501 p true →
      (s.takenWrite p).writesReg p (Reg.netCanCmd 0 + 0x200 * n) v → n < 4 → field v 0 1 = 1 →
      exec (.canRestart p) s = .next (((s.takenWrite p).canCommand n v).finish 0x0501 p .ok []))
    ∧ (∀ (s : State) (p : Packet) (v : Word) (n : Nat), s.takes 0x0501 p true →
      (s.takenWrite p).writesReg p (Reg.netCanCmd 0 + 0x200 * n) v → n < 4 → field v 1 1 = 1 →
      exec (.canAbort p) s = .next (((s.takenWrite p).canCommand n v).finish 0x0501 p .ok []))
    ∧ (∀ (s : State) (p : Packet) (v : Word), s.takes 0x0501 p true →
      (s.takenWrite p).writesReg p Reg.sysResetCmd v →
      exec (.resetRequest p) s = .next (((s.takenWrite p).requestReset).finish 0x0501 p .ok []))
    ∧ (∀ (s : State) (p : Packet) (v : Word), s.takes 0x0501 p true → (s.takenWrite p).writesReg p Reg.perfClear v →
      exec (.perfClear p) s = .next (((s.takenWrite p).clearCounters v).finish 0x0501 p .ok []))
    ∧ (∀ (s : State) (p : Packet) (a : Nat) (v : Word) (r : RegRow), s.takes 0x0501 p true →
      (s.takenWrite p).writesReg p a v →
      regRow a = some r → ownRow a = false →
      (r.access = .w1c → exec (.registerWrite p) s
        = .next (((s.takenWrite p).wr a ((s.takenWrite p).rd a &&& ~~~v)).finish 0x0501 p .ok [])) ∧
      (r.access = .rc → exec (.registerWrite p) s = .next ((s.takenWrite p).finish 0x0501 p .ok [])))

/-- Shutter opcodes complete. With the shutter lease held and no check failing, SHUTTER_ARM, SHUTTER_STOP and
SHUTTER_TRIGGER give the shutter their order, which acts at its next sample, SHUTTER_RELEASE frees the closed
records up to seq, and SHUTTER_STATUS returns the shutter's state and record number. (R404, R405) -/
def Obligations.ShutterOpcodesComplete : Prop :=
  (∀ (s u : State) (p : Packet), s.takes 0x0400 p true → u = s.taken 0x0400 p → p.payload.length = 4 →
      u.leaseCheck 6 (leAt p.payload 0 1) p = none → u.shutCheck .host (leAt p.payload 0 1) = none →
      u.admits (leAt p.payload 0 1) (.arm (leAt p.payload 1 1 % 2 == 1)) = true →
      exec (.shutterArm p) s = .next ((u.order (leAt p.payload 0 1) (.arm (leAt p.payload 1 1 % 2 == 1))).finish 0x0400 p .ok []))
    ∧ (∀ (s u : State) (p : Packet), s.takes 0x0401 p true → u = s.taken 0x0401 p → p.payload.length = 4 →
      u.leaseCheck 6 (leAt p.payload 0 1) p = none → u.shutCheck .host (leAt p.payload 0 1) = none →
      u.admits (leAt p.payload 0 1) .stop = true →
      exec (.shutterStop p) s = .next ((u.order (leAt p.payload 0 1) .stop).finish 0x0401 p .ok []))
    ∧ (∀ (s u : State) (p : Packet), s.takes 0x0402 p true → u = s.taken 0x0402 p → p.payload.length = 4 →
      u.leaseCheck 6 (leAt p.payload 0 1) p = none → u.shutCheck .host (leAt p.payload 0 1) = none →
      u.admits (leAt p.payload 0 1) .trigger = true →
      exec (.shutterTrigger p) s = .next ((u.order (leAt p.payload 0 1) .trigger).finish 0x0402 p .ok []))
    ∧ (∀ (s u : State) (p : Packet), s.takes 0x0403 p true → u = s.taken 0x0403 p → p.payload.length = 8 →
      u.leaseCheck 6 (leAt p.payload 0 1) p = none → u.shutCheck .host (leAt p.payload 0 1) = none →
      leAt p.payload 4 4 ≤ (u.rd (Reg.shutSSeq (leAt p.payload 0 1))).toNat →
      exec (.shutterRelease p) s
        = .next ((u.releaseRecords (leAt p.payload 0 1) (leAt p.payload 4 4)).finish 0x0403 p .ok []))
    ∧ (∀ (s u : State) (p : Packet), s.takes 0x0404 p true → u = s.taken 0x0404 p → p.payload.length = 4 →
      leAt p.payload 0 1 < 8 →
      exec (.shutterStatus p) s = .next (u.finish 0x0404 p .ok
        (wordsBytes [u.rd (Reg.shutSState (leAt p.payload 0 1)), u.rd (Reg.shutSSeq (leAt p.payload 0 1))])))

/-- Event and counter opcodes complete. EVENT_SUBSCRIBE and EVENT_UNSUBSCRIBE of a ring of the session set and empty its
filter list. COUNTER_READ returns the counters asked for. CONTACT_SHEET takes a sheet and returns its number and the
32 snapshots; a comparator firing with cs_trig takes one as well. (R561, R567, R568) -/
def Obligations.EventOpcodesComplete : Prop :=
  (∀ (s u : State) (p : Packet), s.takes 0x0601 p true → u = s.taken 0x0601 p → 4 ≤ p.payload.length →
      p.payload.length = 4 + 4 * leAt p.payload 2 2 → 1 ≤ leAt p.payload 2 2 → leAt p.payload 2 2 ≤ 32 →
      u.eventRingCheck p (leAt p.payload 0 1) true = none →
      exec (.eventSubscribe p) s = .next ((u.setFilters p (leAt p.payload 0 1) ((List.range (leAt p.payload 2 2)).map
        (fun i => (leAt p.payload (4 + 4 * i) 2, leAt p.payload (6 + 4 * i) 2)))).finish 0x0601 p .ok []))
    ∧ (∀ (s u : State) (p : Packet), s.takes 0x0602 p true → u = s.taken 0x0602 p → p.payload.length = 4 →
      u.eventRingCheck p (leAt p.payload 0 1) true = none →
      exec (.eventUnsubscribe p) s = .next ((u.setFilters p (leAt p.payload 0 1) []).finish 0x0602 p .ok []))
    ∧ (∀ (s u : State) (p : Packet), s.takes 0x0603 p true → u = s.taken 0x0603 p → p.payload.length = 4 →
      1 ≤ leAt p.payload 1 1 → leAt p.payload 0 1 + leAt p.payload 1 1 ≤ 32 →
      exec (.counterRead p) s = .next (u.finish 0x0603 p .ok (wordsBytes ((List.range (leAt p.payload 1 1)).map
        (fun i => u.rd (Reg.perfCntVal (leAt p.payload 0 1 + i)))))))
    ∧ (∀ (s u : State) (p : Packet), s.takes 0x0604 p true → u = s.taken 0x0604 p → p.payload = [] →
      exec (.contactSheet (some p)) s = .next (u.takeSheet.finish 0x0604 p .ok
        (wordsBytes (u.takeSheet.rd Reg.perfCsSeq :: (List.range 32).map (fun k => u.takeSheet.rd (Reg.perfCntSnap k))))))
    ∧ (∀ s : State, s.perf.sheet = true → exec (.contactSheet none) s = .next s.takeSheet)

/-- STATUS_READ returns two words of every block and clears nothing. STATUS_READ, whose payload is empty, answers OK
with the words at offsets 0x0000 and 0x0004 of the 17 blocks in ascending block number, 136 bytes, as the registers
hold them in the state in which the command starts; it does nothing to that state but answer. (R562) -/
def Obligations.StatusReadReturnsEveryBlock : Prop :=
  ∀ (s u : State) (p : Packet), s.takes 0x0600 p true → u = s.taken 0x0600 p → p.payload = [] →
    ∃ reply : List Byte, exec (.statusRead p) s = .next (u.finish 0x0600 p .ok reply) ∧ reply.length = 136 ∧
      ∀ b < 17, (reply.drop (8 * b)).take 8
        = wordBytes (u.readReg (0x10000000 + 0x10000 * b)) ++ wordBytes (u.readReg (0x10000004 + 0x10000 * b))

/-- Fabric opcodes complete. FAB_STATUS returns its nine words. FAB_NODE_READ of another known node is answered PENDING
and sends the request; of the node itself it is answered at once. FAB_SURVEY with a surveyor known is answered
PENDING and asks for a survey. FAB_TT_SWAP with the TIMETABLE lease is answered OK where shadow and active are
alike, and otherwise PENDING with the swap asked for. (R484, R494, R507) -/
def Obligations.FabricOpcodesComplete : Prop :=
  (∀ (s u : State) (p : Packet), s.takes 0x0700 p true → u = s.taken 0x0700 p → p.payload = [] →
      exec (.fabStatus p) s = .next (u.finish 0x0700 p .ok (wordsBytes [u.rd Reg.fabStatus, u.rd Reg.fabNode,
        u.rd Reg.fabNodes, u.rd Reg.fabCycle, u.rd Reg.fabTtStat, u.rd (Reg.fabPortStat 0), u.rd (Reg.fabPortStat 1),
        u.rd (Reg.fabPortStat 2), u.rd (Reg.fabPortStat 3)])))
    ∧ (∀ (s u : State) (p : Packet) (node n port : Nat) (r : NodeRead), s.takes 0x0701 p true →
      u = s.taken 0x0701 p → p.payload.length = 12 →
      node = leAt p.payload 0 2 % 2 ^ 12 → n = leAt p.payload 8 2 → u.knowsNode node = true → 1 ≤ n → n ≤ 256 →
      deviceRange (leAt p.payload 4 4) n = true → port = (u.wayPorts node 0 ++ u.wayPorts node 1).head?.getD 4 →
      r = { packet := p, tag := u.fab.seq, node := node, start := u.tick, port := port } →
      (node = u.nodeId → u.bit Reg.fabCfg 1 = true → exec (.fabNodeRead p) s
        = .next (u.finish 0x0701 p .ok (wordsBytes ((List.range n).map (fun k => u.bar2Word (leAt p.payload 4 4 + 4 * k)))))) ∧
      (node ≠ u.nodeId → exec (.fabNodeRead p) s
        = .next (((u.setFab { u.fab with reads := u.fab.reads ++ [r] }).pend 0x0701 p).sendFab node
          (.readReq u.fab.seq (leAt p.payload 4 4) n))))
    ∧ (∀ (s u v : State) (p : Packet), s.takes 0x0702 p true → u = s.taken 0x0702 p → p.payload = [] →
      u.hasSurveyor = true →
      v = (u.setSurvey { u.fab.survey with cmds := u.fab.survey.cmds ++ [p] }).pend 0x0702 p →
      exec (.fabSurvey p) s = .next (if v.isSurveyor then v.startReports else v.sendFab v.surveyorId .again))
    ∧ (∀ (s u v : State) (p : Packet) (cycle : Nat), s.takes 0x0703 p true → u = s.taken 0x0703 p → p.payload = [] →
      u.leaseCheck 7 0 p = none → u.hasSurveyor = true → u.fab.tt.dist = none →
      cycle = (if u.isSurveyor then (u.rd Reg.fabCycle).toNat + 16 else 0) →
      v = ((u.setTt { u.fab.tt with swap := some cycle, swapCmd := some p }).setBit Reg.fabTtStat 15 true).pend 0x0703 p →
      (u.fab.shadow = u.fab.active ∧ u.fld Reg.fabTtCycle 0 14 = u.activeCycle →
        exec (.fabTtSwap p) s = .next (u.finish 0x0703 p .ok [])) ∧
      (¬ (u.fab.shadow = u.fab.active ∧ u.fld Reg.fabTtCycle 0 14 = u.activeCycle) →
        exec (.fabTtSwap p) s = .next (if v.isSurveyor then v else v.sendFab v.surveyorId (.timetable .swap))))

/-- Security opcodes complete. IMAGE_BEGIN of a known object is answered PENDING while the slot is erased; IMAGE_COMMIT
of a whole object is answered PENDING while it is verified; IMAGE_STATUS returns 16 bytes for each type; AUDIT_READ
returns the entries from the one asked for; CREDENTIAL_SET of a role entry, a new owner key or a revocation raises
CREDENTIAL_CHANGED and answers OK; CERT_MODE_SET takes one vault step; TAMPER_CLEAR clears the latches named. (R541,
R543, R544, R545, R549, R551, R553) -/
def Obligations.SecurityOpcodesComplete : Prop :=
  (∀ (s u : State) (p : Packet) (t : Transfer) (l : List (Nat × Nat)), s.takes 0x0800 p true →
      u = s.taken 0x0800 p → p.payload.length = 8 →
      1 ≤ leAt p.payload 0 1 → leAt p.payload 0 1 ≤ 3 → (leAt p.payload 0 1 ≠ 1 → u.role p.session = engineer) →
      256 ≤ leAt p.payload 4 4 → bodyLengthOk (leAt p.payload 0 1) (leAt p.payload 4 4 - 256) = true →
      (∀ o, u.sec.image.transfer = some o → o.session = p.session) →
      t = Transfer.mk p.session (leAt p.payload 0 1) (leAt p.payload 4 4) 0 true false p →
      l = sparseSet (fun _ => 0) u.sec.image.pending (leAt p.payload 0 1) 0 →
      exec (.imageBegin p) s = .next (((u.setImage { u.sec.image with transfer := some t, pending := l }).setBit
        Reg.secStatus 10 true).pend 0x0800 p))
    ∧ (∀ (s u : State) (p : Packet) (t : Transfer), s.takes 0x0802 p true → u = s.taken 0x0802 p → p.payload = [] →
      u.sec.image.transfer = some t → t.session = p.session → t.erasing = false → t.verifying = false →
      t.length ≤ t.next →
      exec (.imageCommit p) s
        = .next ((u.setImage { u.sec.image with transfer := some { t with verifying := true, packet := p } }).pend 0x0802 p))
    ∧ (∀ (s u : State) (p : Packet), s.takes 0x0803 p true → u = s.taken 0x0803 p → p.payload = [] →
      exec (.imageStatus p) s = .next (u.finish 0x0803 p .ok ([1, 2, 3].flatMap (fun k =>
        n8 (u.imageActive k) ++ n8 (if u.pendingSlot k = 0 then 0xFF else u.pendingSlot k - 1)
          ++ n16 (hdrVersion (u.slot k (u.imageActive k))) ++ n32 (leAt (u.slot k (u.imageActive k)) 92 4)
          ++ n8 (u.rollback k) ++ n8 0 ++ n16 0 ++ n32 0))))
    ∧ (∀ (s u : State) (p : Packet), s.takes 0x0804 p true → u = s.taken 0x0804 p → p.payload.length = 6 →
      1 ≤ leAt p.payload 4 2 → leAt p.payload 4 2 ≤ 127 →
      exec (.auditRead p) s = .next (u.finish 0x0804 p .ok ((((u.sec.flash ++ u.sec.waiting).dropWhile
        (fun e => decide (e.seq < leAt p.payload 0 4))).take (leAt p.payload 4 2)).flatMap AuditEntry.bytes)))
    ∧ (∀ (s u : State) (p : Packet) (i flags : Nat) (key : List Byte), s.takes 0x0805 p true →
      u = s.taken 0x0805 p →
      p.payload.length = 116 → i = leAt p.payload 0 1 → flags = leAt p.payload 3 1 →
      key = (p.payload.drop 4).take 96 →
      (∀ c : Cred, ∀ table : List (Nat × Cred), leAt p.payload 1 1 = 0 → i ≤ 31 → leAt p.payload 2 1 ≤ 3 →
          onCurve key = true →
        c = { key := key, role := leAt p.payload 2 1, name := p.payload.drop 100, enabled := flags % 2 == 1 } →
        table = sparseSet (fun _ => Cred.empty) u.sec.creds i c → adminIn table = true →
        (u.certMode = true → sameKeys table = false) →
        exec (.credentialSet p) s = .next ((((u.setSec { u.sec with creds := table }).showCreds.raise 0x1003 []).finish
          0x0805 p .ok []).faultCredential i)) ∧
      (leAt p.payload 1 1 = 1 → flags / 2 % 2 = 0 → 1 ≤ i → i ≤ 4 → (u.owner i).key = [] → onCurve key = true →
        exec (.credentialSet p) s = .next (((u.setOwner i { u.owner i with key := key }).showOwners.raise 0x1003 []).finish
          0x0805 p .ok [])) ∧
      (leAt p.payload 1 1 = 1 → flags / 2 % 2 = 1 → 1 ≤ i → i ≤ 4 →
        (u.certMode = true → ∃ j < 5, j ≠ i ∧ u.ownerOk j = true) →
        exec (.credentialSet p) s = .next (((u.setOwner i { u.owner i with revoked := true }).showOwners.raise 0x1003 []).finish
          0x0805 p .ok [])))
    ∧ (∀ (s u : State) (p : Packet), s.takes 0x0806 p true → u = s.taken 0x0806 p → p.payload.length = 4 →
      leAt p.payload 0 1 % 2 ≠ u.sec.certSteps % 2 → u.sec.certSteps < 16 →
      (leAt p.payload 0 1 % 2 = 1 → u.certFails = none) →
      exec (.certModeSet p) s = .next (((((((u.setSec { u.sec with certSteps := u.sec.certSteps + 1 }).setBit Reg.secStatus 0
        true).setBit Reg.secStatus 1 (leAt p.payload 0 1 % 2 == 0)).setBit Reg.hostStatus 16 true).put Reg.secStatus 2 4
        (min 15 (u.sec.certSteps + 1))).raise 0x1004 []).finish 0x0806 p .ok []))
    ∧ (∀ (s u v : State) (p : Packet), s.takes 0x0807 p true → u = s.taken 0x0807 p → p.payload.length = 4 →
      (∀ i < 4, leAt p.payload 0 4 / 2 ^ i % 2 = 1 → u.bit Reg.secTamperStat (4 + i) = false) →
      v = ((List.range 4).foldl (fun s i => if leAt p.payload 0 4 / 2 ^ i % 2 = 1 then s.setBit Reg.secTamperStat i false
        else s) u).finish 0x0807 p .ok [] →
      exec (.tamperClear p) s
        = .next (if v.fld Reg.secTamperStat 0 4 = 0 ∧ v.sys.tamperStop = true then v.requestReset else v))

/-- IMAGE_DATA writes its bytes into the inactive slot. IMAGE_DATA carries an offset and 4 to 4,088 bytes. From the
session of the open transfer, at the end of the previous chunk and within the length, it appends its bytes to the
inactive slot and answers OK. A session without an open transfer is refused with NOT_PERMITTED, and another offset
or data beyond the length with OUT_OF_RANGE. (R542) -/
def Obligations.ImageDataWritesTheInactiveSlot : Prop :=
  (∀ (s u : State) (p : Packet) (t : Transfer), s.takes 0x0801 p true → u = s.taken 0x0801 p →
      8 ≤ p.payload.length →
      p.payload.length ≤ 4092 → u.sec.image.transfer = some t → t.erasing = false → t.verifying = false →
      (t.session = p.session → leAt p.payload 0 4 = t.next → t.next + (p.payload.length - 4) ≤ t.length →
        ∃ v : State, exec (.imageData p) s = .next (v.finish 0x0801 p .ok []) ∧
          v.slot t.kind (u.inactiveSlot t.kind) = u.slot t.kind (u.inactiveSlot t.kind) ++ p.payload.drop 4 ∧
          v.slot t.kind (1 - u.inactiveSlot t.kind) = u.slot t.kind (1 - u.inactiveSlot t.kind) ∧
          v.sec.image.transfer = some { t with next := t.next + (p.payload.length - 4) }) ∧
      (t.session ≠ p.session → exec (.imageData p) s = .next (u.finish 0x0801 p .notPermitted [])) ∧
      (t.session = p.session →
          leAt p.payload 0 4 ≠ t.next ∨ t.length < leAt p.payload 0 4 + (p.payload.length - 4) →
        exec (.imageData p) s = .next (u.finish 0x0801 p .outOfRange [])))
    ∧ (∀ (s u : State) (p : Packet), s.takes 0x0801 p true → u = s.taken 0x0801 p → 8 ≤ p.payload.length →
      p.payload.length ≤ 4092 → u.sec.image.transfer = none →
      exec (.imageData p) s = .next (u.finish 0x0801 p .notPermitted []))

/-- Safety opcodes complete. SAFE_STATUS returns the SAFE words at 0x0000 to 0x0034 as the latest tick left them and
SAFE_PARAM_READ the parameter table. LOCKOUT_ARM with the right count, LOCKOUT latched, remote reset allowed, no
other arm and no standing cause arms with a fresh challenge and answers OK with the challenge and its expiry tick.
LOCKOUT_CONFIRM is answered PENDING and waits for the next safety tick. (R313, R314, R316) -/
def Obligations.SafetyOpcodesComplete : Prop :=
  (∀ (s u : State) (p : Packet), s.takes 0x0900 p true → u = s.taken 0x0900 p → p.payload = [] →
      exec (.safeStatus p) s
        = .next (u.finish 0x0900 p .ok (wordsBytes ((List.range 14).map (fun k => u.mirrorWord (Reg.safeStatus + 4 * k))))))
    ∧ (∀ (s u : State) (p : Packet), s.takes 0x0901 p true → u = s.taken 0x0901 p → p.payload = [] →
      exec (.safeParamRead p) s = .next (u.finish 0x0901 p .ok u.paramTable))
    ∧ (∀ (s u : State) (p : Packet) (testOk : Bool) (e : Nat), s.takes 0x0902 p true →
      u = s.taken 0x0902 p (.flag testOk) →
      p.payload.length = 4 → u.remoteReset = true → u.bit Reg.safeStatus 4 = true →
      word (leAt p.payload 0 4) = u.rd Reg.safeLockoutCount → u.safe.arm = none → u.standing testOk = [] →
      e = ((u.rd Reg.safeTick).toNat + 1 + u.fld Reg.safeLockoutCfg 9 4 * 1000) % 2 ^ 32 →
      ∃ (v : State) (c : Word), exec (.lockoutArm p testOk) s = .next (v.finish 0x0902 p .ok (wordBytes c ++ n32 e)) ∧
        v.safe.arm = some { session := p.session, challenge := c, expiry := e, expired := false } ∧
        v.bit Reg.safeStatus 7 = true ∧ v.fld Reg.safeStatus 16 7 = p.session % 128)
    ∧ (∀ (s u v : State) (p : Packet) (l : List Packet), s.takes 0x0903 p true → u = s.taken 0x0903 p →
      p.payload.length = 8 →
      l = u.safe.confirms ++ [p] →
      v = { u with safe := { u.safe with confirms := l } } → exec (.lockoutConfirm p) s = .next (v.pend 0x0903 p))

/-- The module tick, the sample schedule and the 1 µs boundary complete. From start-up step 2 on a module tick counts
and does its work, then starts held commands. A base sample whose aperture closes runs its schedule: it begins,
computes, decides the mode and ends. Where the schedule timebase is stopped and a lane computes, the 1 µs boundary
applies coefficient words and decides the mode. (R14, R160, R184, R214, R434, R593) -/
def Obligations.TicksAndSamplesComplete : Prop :=
  (∀ (s : State) (vsys vin temp : Nat), 2 ≤ s.fld Reg.sysBoot 0 4 →
      exec (.moduleTick vsys vin temp) s = .next (s.tickWork vsys vin temp).startHeld)
    ∧ (∀ (s r u v : State) (now corrected n : Nat) (diag : List LaneFault) (agree linkA linkB vmo : Bool), s.sampleAt now = true → r = (s.reach now).countUp Reg.memEccCorr 0 16 corrected → n = (r.lrd Reg.laneSample + 1).toNat → u = r.startSample n → vmo = (u.xfOn && u.lawDue u.vmoLaw n) → v = u.computeSample n vmo →
      exec (.sampleSchedule now corrected diag agree linkA linkB) s = .next (((v.advance v.baseInterval).decideMode (vmo && v.lane.limitReached)).endSample now
        diag agree linkA linkB))
    ∧ (∀ (s r u v : State), r = s.finishHold → r.schedRuns = false →
      u = (List.range 4).foldl (fun s l => (s.applyWords l).showCoefCrc l) r → u.someLane = true →
      v = u.openDecision.showLane →
      exec .internal1usBoundary s = .next ((((v.advance 1000).decideMode false).failStandby 0).failStandby 1))

/-- Conversions, open wires and the spare slice complete. A conversion applies fixed changes of its input, clamps the
level to 16 bits, judges clipping and the open wire, feeds its filters and stages the result. OPEN_WIRE marks the
channel after ow_count conversions beyond the threshold and OPEN_WIRE_CLEAR unmarks it. The end of a test window
starts 10 µs of invalid results. A passed calibration check starts the comparison; a passed comparison exchanges the
spare. (R78, R97, R98, R100, R101, R102, R103) -/
def Obligations.ConversionRowsComplete : Prop :=
  (∀ (s u : State) (c : Nat) (level code : Int) (clip : Bool), c < 64 → s.outputsRun = true →
      u = s.takeItems (fun a => a == Reg.convAinCfg c) State.applyConv → code = clampInt (-32768) 32767 level →
      clip = decide (code ≠ level) →
      exec (.conversionComplete c level) s = .next ((((u.clipJudge c clip).owJudge c code).sarFeed c code clip).stageResult c))
    ∧ (∀ (s u : State) (c : Nat), c < 64 → s.bankBit Reg.convOwStatus0 c = false → 0 < (s.ain c).owCount →
      s.fld (Reg.convAinCfg c) 16 8 ≤ (s.ain c).owCount → u = s.setBankBit Reg.convOwStatus0 c true →
      exec (.openWire c) s = .next ((u.setAin c { u.ain c with owClear := 0, inTest := (s.ain c).test.isSome }).raise 0x0200 [word c]))
    ∧ (∀ (s u : State) (c : Nat), c < 64 → s.bankBit Reg.convOwStatus0 c = true →
      s.fld (Reg.convAinCfg c) 16 8 ≤ (s.ain c).owClear → 0 < (s.ain c).owClear →
      u = s.setBankBit Reg.convOwStatus0 c false →
      exec (.openWireClear c) s = .next ((u.setAin c { u.ain c with owCount := 0, owClear := 0 }).raise 0x0201 [word c]))
    ∧ (∀ (s : State) (c n : Nat), (s.ain c).test = some n → 20 * s.fld (Reg.convAinCfg c) 24 8 ≤ n →
      exec (.owTestWindowEnd c) s = .next (s.setAin c { s.ain c with test := none, tail := 51, owCount := 0 }))
    ∧ (∀ (s : State), s.calRuns = true → s.conv.spare.comparing = false →
      exec (.spareCalibrationDone true) s = .next (s.setSpare { s.conv.spare with comparing := true, checkFailed := false }))
    ∧ (∀ (s : State), s.calRuns = true → s.conv.spare.comparing = false → s.conv.spare.checkFailed = false →
      exec (.spareCalibrationDone false) s = .next (s.setSpare { s.conv.spare with checkFailed := true }))
    ∧ (∀ (s : State) (sumDiff : Int) (v : Spare) (l : List (Nat × Nat)), s.calRuns = true → v = s.conv.spare →
      v.comparing = true → sumDiff.natAbs ≤ 512 → l = sparseSet id v.attached v.input (s.fld Reg.convStatus 0 7) →
      exec (.spareComparisonDone sumDiff) s = .next ((((s.setSpare { v with attached := l }).put Reg.convStatus 0 7 (sparseGet id v.attached v.input)).setBankBit
        Reg.convSuspect0 v.input false).nextInput))
    ∧ (∀ (s : State) (sumDiff : Int) (v : Spare), s.calRuns = true → v = s.conv.spare → v.comparing = true →
      512 < sumDiff.natAbs → v.compareFailed = false →
      exec (.spareComparisonDone sumDiff) s = .next ((s.raise 0x0204 [word v.input]).setSpare { v with comparing := false, compareFailed := true }))

/-- Bitstream inputs, settling and comparators complete. An enabled bitstream input without edges becomes stale, and one
that is stale resumes flushed; a window of modulator bits feeds its filter, settling ends once every stage holds
samples from after the flush, and a comparator whose count-th output has come asserts. (R106, R107, R108, R115,
R120, R122) -/
def Obligations.BitstreamAndFilterRowsComplete : Prop :=
  (∀ (s u : State) (m : Nat), m < 16 → s.bsEnabled m = true → s.bsStale m = false →
      u = (s.setBit Reg.convBsStatus m true).setBit Reg.convBsStatus (16 + m) false →
      exec (.bitstreamStale m) s = .next (((u.flush (64 + m)).raise 0x0202 [word m]).invalidAll (64 + m)))
    ∧ (∀ (s : State) (m : Nat), m < 16 → s.outputsRun = true → s.bsEnabled m = true → s.bsStale m = true →
      exec (.bitstreamResumed m) s = .next ((((s.setBit Reg.convBsStatus m false).setBit Reg.convBsStatus (16 + m) true).flush (64 + m)).raise 0x0203 [word m]))
    ∧ (∀ (s u : State) (m p : Nat) (bits : List Bool), m < 16 → p < 4 → s.outputsRun = true →
      s.bsEnabled m = true → s.bsStale m = false → bits.length = sincDecim p → u = s.sincFeed m p bits →
      exec (.bitstreamWindowEnd m p bits) s = .next (if u.bit Reg.convBsStatus (16 + m) && u.isSettled (64 + m) (u.preset (64 + m)) then
        u.setBit Reg.convBsStatus (16 + m) false else u))
    ∧ (∀ (s : State) (c p : Nat), p < 4 → c < 64 → s.isSettled c p = false → s.sarSettled c p = true →
      exec (.settlingEnd c p) s = .next (s.settle c p))
    ∧ (∀ (s : State) (c p : Nat), p < 4 → 64 ≤ c → c < 80 → s.isSettled c p = false → 3 ≤ (s.sinc (c - 64) p).wins →
      exec (.settlingEnd c p) s = .next (if p = (s.settle c p).preset c then (s.settle c p).setBit Reg.convBsStatus (c - 48) false else s.settle c p))
    ∧ (∀ (s u : State) (k now : Nat) (pw : PwmSt), k < 64 → (s.cmp k).due = true →
      s.bit (Reg.filtThrCfg k) 0 = true → pw = { s.pwm with now := max now s.pwm.now } → u = { s with pwm := pw } →
      exec (.thresholdAssert k now) s = .next ((u.setCmp k Cmp.idle).cmpAssert k))

/-- Conversion groups trigger and deliver. At a group's sampling trigger its apertures close. A recorded sample with its
last result joins the delivery queue, or is dropped where four wait. The oldest queued sample is written to the
group's ring, after an overflow marker where samples were dropped, or dropped where there is no room. (R81, R85,
R93, R95, R96) -/
def Obligations.GroupRowsComplete : Prop :=
  (∀ (s u : State) (g now dt : Nat), g < 16 → s.pwm.now ≤ now →
      (s.triggerAt g now || (s.takeGroup g).triggerAt g now) = true → u = s.takeGroup g → u.triggerAt g now = true →
      exec (.samplingTrigger g now dt) s = .next (u.groupTrigger g dt))
    ∧ (∀ (s u : State) (g seq : Nat) (time : Word), (s.group g).sample = some (time, seq) →
      (s.group g).await = [] → u = s.setGroup g { s.group g with sample := none } →
      exec (.groupSampleComplete g) s = .next (if (s.group g).queue.length < 4 then
        u.setGroup g { u.group g with queue := (s.group g).queue ++ [(s.sampleBytes g time seq, seq)] }
      else u.dropSample g seq))
    ∧ (∀ (s u : State) (g r seq : Nat) (b bytes : List Byte) (rest : List (List Byte × Nat)), (s.group g).queue = (b, seq) :: rest → r = 16 + s.fld (Reg.convGrpCfg g) 8 4 → bytes = (if (s.group g).dropped = 0 then [] else markerBytes (s.group g).dropped g (s.group g).firstDropped) ++ b → u = s.setGroup g { s.group g with queue := rest } →
      exec (.groupSampleWritten g) s = .next (if u.room r (inlineDescs bytes.length) = .granted then (u.append r (inlineDescs bytes.length) bytes).setGroup g
        { s.group g with queue := rest, dropped := 0, firstDropped := 0, dropRun := false }
      else (u.dropUnit r (u.room r (inlineDescs bytes.length))).dropSample g seq))

/-- Limits of the control laws and of ride-through complete. MEAS_INVALID_LIMIT withholds the sample and is cause 0x03.
HOLD_EXPIRED is cause 0x04 with hold_exp_act and otherwise only its event. The gate-enable request falls 4 µs after
a release. RIDE_THROUGH returns when its exit condition has held, and t_fc running out without it is cause 0x05.
SECONDARY_LOST is raised once after three periods without a value. (R58, R63, R64, R137, R165, R185) -/
def Obligations.LawAndRideThroughRowsComplete : Prop :=
  (∀ (s u : State) (l : Nat), l < 4 → s.invalidDue l = true →
      u = (s.setLaw l { s.law l with limitDone := true }).raiseLane 4 [] →
      exec (.measInvalidLimit l) s = .next (u.withholdSample.safelight 3))
    ∧ (∀ (s u : State) (l : Nat), l < 4 → (s.law l).expired = true →
      u = (s.setLaw l { s.law l with expired := false }).raiseLane 0 [] →
      exec (.holdExpired l) s = .next (if u.bit (Reg.laneLawCfg 0 l) 19 then u.withholdSample.safelight 4 else u))
    ∧ (∀ (s : State), s.modes.stage.gateFall = true → s.pwm.relDue = [] →
      exec .gateEnableRequestFall s = .next (s.setStage { s.modes.stage with gateReq := false, gateFall := false }).busUpdate)
    ∧ (∀ (s : State), s.exitDue = true → s.mayDecide 4 = true → s.mayEnter s.retMode = true →
      exec .rideThroughExit s = .next (s.goMode s.retMode))
    ∧ (∀ (s : State), s.isLate 5 = false → s.expiryDue = true → s.exitDue = false → s.mayDecide 2 = true →
      exec .rideThroughExpired s = .next ((s.raiseLane 0x2C []).withholdSample.safelight 5))
    ∧ (∀ (s : State), s.isLate 5 = true →
      exec .rideThroughExpired s = .next ((s.endLate 5).raiseLane 0x2C []).withholdSample)
    ∧ (∀ (s u : State) (v : SecondarySt), s.bit Reg.fabSecCfg 0 = true → v = s.modes.second → v.lost = false →
      3 ≤ v.missed → u = { s with modes := { s.modes with second := { v with lost := true } } } →
      exec .secondaryLost s = .next (u.raiseLane 0x2D []))

/-- Pre-charge, DC link and bus rows complete. PRECHARGE_DONE sets the mark that the link is charged; PRECHARGE_TIMEOUT
is cause 0x07 while charging and cancels a route that waits in STANDBY; DC_LINK_LOST is cause 0x0D above PRECHARGE;
BUS_DEAD and BUS_LIVE set their mark; ROUTE_TIMEOUT cancels the route; SYNC_TIMEOUT returns to PRECHARGE. (R189,
R193, R194, R196, R202) -/
def Obligations.LinkAndBusRowsComplete : Prop :=
  (∀ (s u : State) (w : WaitSt), s.mode = .precharge → s.pcDone = false → s.pcConfirm < s.modes.wait.band →
      u = s.setModeBit 15 true → w = { u.modes.wait with charging := none } →
      exec .prechargeDone s = .next ((((u.setWait w).disown (u.setWait w).pcOut).showOwned).raiseLane 0x21 []))
    ∧ (∀ (s : State), s.isLate 7 = false → s.chargeTimeout = true → s.modes.wait.band ≤ s.pcConfirm →
      s.mayDecide 2 = true →
      exec .prechargeTimeout s = .next (((s.setWait { s.modes.wait with charging := none }).raiseLane 0x22 []).safelight 7))
    ∧ (∀ (s : State), s.isLate 7 = false → s.chargeTimeout = false → s.mode = .standby →
      s.pcTimeout < s.modes.wait.route → s.mayDecide 6 = true →
      exec .prechargeTimeout s = .next ((s.raiseLane 0x22 []).setTarget .standby))
    ∧ (∀ (s : State), s.isLate 7 = true →
      exec .prechargeTimeout s = .next ((s.endLate 7).raiseLane 0x22 []))
    ∧ (∀ (s u : State), s.isLate 0xD = false → s.linkLost = true → u = (s.setModeBit 15 false).raiseLane 0x2F [] →
      exec .dcLinkLost s = .next (if u.mode.acOn then u.safelight 0x0D else u))
    ∧ (∀ (s : State), s.isLate 0xD = true →
      exec .dcLinkLost s = .next ((s.endLate 0xD).raiseLane 0x2F []))
    ∧ (∀ (s u : State) (m : ModeSt), s.deadDue = true → m = { s.modes with alone := !s.hasFabric } →
      u = { s with modes := m } →
      exec .busDead s = .next ((u.setModeBit 13 true).raiseLane 0x23 []).tellDead)
    ∧ (∀ (s : State), s.liveDue = true →
      exec .busLive s = .next ((s.setModeBit 14 true).raiseLane 0x24 []).tellLive)
    ∧ (∀ (s : State), s.mode = .precharge → s.routeTimeout < s.modes.wait.route → s.deadDue = false →
      s.liveDue = false →
      exec .routeTimeout s = .next ((s.raiseLane 0x2A []).setTarget .precharge))
    ∧ (∀ (s : State), s.syncExpired = true → s.canClose = false → s.mayDecide 5 = true →
      s.mayEnter .precharge = true →
      exec .syncTimeout s = .next ((s.raiseLane 0x29 []).goMode .precharge))

/-- Black start, unloading and breaker rows complete. The black-start ramp ends in GRID_FORMING. UNLOAD_COMPLETE opens
the breaker; UNLOAD_TIMEOUT does so in GRID_FORMING and is raised once. A stable BRK_FB level is first taken, then
confirms a command or is handled as uncommanded. A missing confirmation of a close opens the breaker again; one of
an opening with the AC stage on is cause 0x08. (R190, R191, R198, R199, R200, R203) -/
def Obligations.BreakerRowsComplete : Prop :=
  (∀ (s : State), s.rampDone = true → s.mayDecide 5 = true → s.mayEnter .gridForming = true →
      exec .blackStartRampComplete s = .next (s.goMode .gridForming))
    ∧ (∀ (s : State), s.unloadDone = true →
      exec .unloadComplete s = .next s.stopOpen)
    ∧ (∀ (s u : State), s.unloading = true → s.modes.stop.opened = false → s.modes.stop.expired = false →
      s.unloadTimeout ≤ s.modes.stop.time → s.unloadDone = false →
      u = (s.setStop { s.modes.stop with expired := true }).raiseLane 0x2B [] →
      exec .unloadTimeout s = .next (if u.mode = .gridForming then u.stopOpen else u))
    ∧ (∀ (s : State) (closed : Bool), s.modes.brk.fbKnown = false →
      exec (.brkFbChange closed) s = .next ((s.setBrk { s.modes.brk with fbKnown := true, event := some (closed, false) }).setModeBit 18 closed))
    ∧ (∀ (s : State) (closed : Bool), s.modes.brk.fbKnown = true → closed ≠ s.brkFb →
      exec (.brkFbChange closed) s = .next ((s.setBrk { s.modes.brk with event := some (closed, true) }).setModeBit 18 closed))
    ∧ (∀ (s : State) (b : BrkSt), s.isLate 8 = false → s.closeFailed = true →
      b = { s.modes.brk with back := true } →
      exec .breakerFail s = .next (((s.raiseLane 0x26 []).setBrk b).issueOpen))
    ∧ (∀ (s u : State), s.isLate 8 = false → s.closeFailed = false → s.openFailed = true →
      u = (s.raiseLane 0x26 []).setModeBit 17 false →
      exec .breakerFail s = .next (if u.mode.acOn then u.safelight 8 else u))
    ∧ (∀ (s : State), s.isLate 8 = true →
      exec .breakerFail s = .next ((s.endLate 8).raiseLane 0x26 []))

/-- Lane redundancy rows complete. A faulty ACTIVE lane hands the token over at the update point. A missed heartbeat is
recorded as the loss of the peer. A failed lane starts its self-test where R225 lets it, and becomes a standby out
of step or FAILED with its result. A resynchronisation copies the dynamic state and then the coefficients, and is
done after 16 steps alike. (R211, R216, R223, R224, R225) -/
def Obligations.LaneRowsComplete : Prop :=
  (∀ (s : State) (now l : Nat), l < 2 → s.pwm.now ≤ now → s.schedPoint now = true ∨ s.schedRuns = false →
      s.isActive l = true → s.isActive (1 - l) = false → (s.redOf l).faulty = true →
      exec (.activeLaneFailed now) s = .next (s.laneChange l now true))
    ∧ (∀ (s : State) (l : Nat), l < 2 → s.computes l = true → s.computes (1 - l) = true →
      (s.redOf (1 - l)).faulty = false →
      exec (.laneLinkWatchdog l) s = .next (s.selfFault { lane := 1 - l, code := 5, unit := 0, phase := 0, lasting := false }))
    ∧ (∀ (s u : State) (l : Nat), l < 2 → s.isFailed l = true → (s.redOf l).waiting = true → u = s.finishHold →
      u.mayRecover l = true →
      exec (.laneRecoveryStart l) s = .next (((u.setRed l { u.redOf l with waiting := false }).setBit (Reg.laneRedStatus l) 8 false).setBit
        (Reg.laneRedStatus l) 9 true))
    ∧ (∀ (s u : State) (l : Nat), l < 2 → s.isFailed l = true → (s.redOf l).waiting = true → u = s.finishHold →
      u.mayRecover l = false →
      exec (.laneRecoveryStart l) s = .next (u.setRed l { u.redOf l with waiting := false }))
    ∧ (∀ (s u : State) (l : Nat) (pass : Bool), l < 2 → s.isRecovering l = true →
      u = s.setBit (Reg.laneRedStatus l) 9 false →
      exec (.laneRecovered l pass) s = .next (if pass then ((u.setBit (Reg.laneRedStatus l) 1 true).outOfStep l).raiseRed l 6 []
        else u.setBit (Reg.laneRedStatus l) 8 true))
    ∧ (∀ (s r u v : State) (l : Nat), l < 2 → r = s.finishHold → r.isStandby l = true →
      r.isActive (1 - l) = true → r.bit (Reg.laneRedStatus l) 10 = true →
      u = dynamicRegs.foldl (fun s f => s.wr (f l) (s.rd (f (1 - l)))) r →
      v = (u.setBit (Reg.laneRedStatus l) 10 false).setStepCount l 0 →
      exec (.resyncCopy l) s = .next (if v.coefsDiffer then (v.setBit (Reg.laneRedStatus l) 11 true).setRed l { v.redOf l with coefLeft := 126 }
        else v.setRed l { v.redOf l with syncing := true }))
    ∧ (∀ (s r u v : State) (l : Nat), l < 2 → r = s.finishHold → r.isStandby l = true →
      r.isActive (1 - l) = true → r.bit (Reg.laneRedStatus l) 10 = false → r.bit (Reg.laneRedStatus l) 11 = true →
      (r.redOf l).coefLeft = 0 →
      u = (List.range 4).foldl (fun s k => s.wr (Reg.laneLawCoefCrc l k) (s.rd (Reg.laneLawCoefCrc (1 - l) k))) r → v = (u.setBit (Reg.laneRedStatus l) 11 false).setStepCount l 0 →
      exec (.resyncCopy l) s = .next (v.setRed l { v.redOf l with syncing := true }))
    ∧ (∀ (s : State) (l : Nat), l < 2 → s.isStandby l = true → (s.redOf l).syncing = true → 16 ≤ s.stepCount l →
      exec (.laneResyncDone l) s = .next ((s.setRed l { s.redOf l with syncing := false }).raiseRed l 4 []))

/-- PWM rows complete. The epoch starts every enabled timebase. At a zero point and at an update point of a running
timebase fixed changes take effect and compares load. A trip source that has changed latches an enabled, unblanked
trip; a blanking window that closes lets the trips it blanked latch; the selector gives the gate commands of its
cycle. (R232, R233, R238, R239, R242, R243, R252, R268) -/
def Obligations.PwmRowsComplete : Prop :=
  (∀ (s : State), s.pwm.epochDue = true →
      exec .generatorEpoch s = .next s.startEpoch)
    ∧ (∀ (s : State) (t now : Nat), s.tbRuns t = true → s.pwm.now ≤ now → (s.tbAt t now).2 = 0 →
      exec (.timebaseZeroPoint t now) s = .next (s.zeroPoint t now))
    ∧ (∀ (s r u v : State) (t now : Nat), s.pwm.now ≤ now → s.isUpdate t now = true → r = s.reach now →
      u = (if (r.tbAt t now).2 = 0 then r.changeTb t now else r) → u.isUpdate t now = true →
      v = (if u.schedPoint now && u.modes.changeDue then u.commandedChange now else u) →
      exec (.updatePoint t now) s = .next (v.updatePoint t now ([0, 1].filter (fun l => !(u.schedPoint now && (v.redOf l).faulty)))))
    ∧ (∀ (s : State) (i held now : Nat) (high : Bool), i < 16 → s.pwm.now ≤ now →
      4 * s.fld (Reg.pwmTripCfg 0 i) 17 8 ≤ held → s.padAsserts i high ≠ s.tripAsserted i →
      exec (.tripSourceAssert i high held now) s = .next (((s.reach now).setSource i (s.padAsserts i high)).judgeTrip i now))
    ∧ (∀ (s u : State) (w now : Nat), w < 48 → s.pwm.now ≤ now → s.windowOpen w now = false → u = s.reach now →
      exec (.blankingWindowClose w now) s = .next ((List.range 80).foldl (fun s i =>
        if s.bit (Reg.pwmTripCfg 0 i) 9 ∧ s.fld (Reg.pwmTripCfg 0 i) 10 6 = w then s.judgeTrip i now else s) u))
    ∧ (∀ (s : State) (now : Nat), s.pwm.now ≤ now →
      exec (.gateCommandChange now) s = .next ((s.reach now).pwmCycle now))

/-- Gate channel rows complete. An interlock gap and a gate phase end, and held commands are judged again; the
gate-enable bus takes its level; a due forced refresh starts; a short circuit, an over-temperature and a supply
condition of a driven channel are faults, a supply condition of another channel holds it in UNPOWERED and clears to
OFF; at the retry tick a channel recovers or fails again. (R254, R258, R262, R267, R270, R271, R273, R274, R276) -/
def Obligations.GateRowsComplete : Prop :=
  (∀ (s : State) (g c : Nat), g < 16 → c < 48 → s.occupied g c = true → (s.chanState c).ended = true →
      exec (.interlockGapEnd g c) s = .next ((s.setOccupied g c false).endOverride (c / 2)).gateSettle)
    ∧ (∀ (s : State) (c elapsed now : Nat) (volts : Int), c < 48 → s.pwm.now ≤ now →
      s.phaseEnds c elapsed volts = true →
      exec (.gatePhaseEnd c elapsed now volts) s = .next (((s.reach now).endPhase c).endOverride (c / 2)).gateSettle)
    ∧ (∀ (s : State), 
      exec .gateEnableChange s = .next s.busUpdate)
    ∧ (∀ (s : State) (p : Nat), p < 24 → s.mayRefresh p = true → s.atLowerZero p = true →
      (s.refresh p).first = true ∨ s.fld (Reg.gatePairCfg p) 12 6 + 1 ≤ (s.refresh p).count →
      exec (.forcedRefresh p) s = .next ((((s.setRefresh p { s.refresh p with count := 0, first := false, stage := 1, accepted := none }).setBit
        (Reg.gateChStatus (2 * p)) 14 true).countUp Reg.gateRefresh 0 16 1).gateSettle))
    ∧ (∀ (s : State) (c sns since : Nat), c < 48 → s.bit (Reg.gateChCfg c) 16 = true →
      s.chanState c = .turnOn ∨ s.chanState c = .on → 20 * s.fld (Reg.gateChProt c) 8 8 ≤ since →
      s.scAbove c sns = true →
      exec (.sc c sns since) s = .next (s.chanFault c 3).afterFault)
    ∧ (∀ (s u : State) (c kind : Nat) (level : Int), c < 48 → kind < 3 → u = s.monSupply c kind level →
      u.supplyTest c kind = true → u.supplyFails c kind level = true →
      u.bit (Reg.gateChStatus c) (4 + kind) = false →
      u.eff c = .on ∨ u.eff c = .off ∨ u.chanState c = .turnOn ∨ u.chanState c = .on ∨ u.chanState c = .turnOff ∨ u.chanState c = .softOff →
      exec (.supplyUv c kind level) s = .next (u.chanFault c kind).afterFault)
    ∧ (∀ (s u : State) (c kind : Nat) (level : Int), c < 48 → kind < 3 → u = s.monSupply c kind level →
      u.supplyTest c kind = true → u.supplyFails c kind level = true →
      u.bit (Reg.gateChStatus c) (4 + kind) = false → u.eff c ≠ .on → u.eff c ≠ .off → u.chanState c = .off →
      exec (.supplyUv c kind level) s = .next ((u.setBit (Reg.gateChStatus c) (4 + kind) true).enter c .unpowered))
    ∧ (∀ (s u : State) (c : Nat) (temp : Int), c < 48 → u = s.monTemp c temp → 150 ≤ temp →
      u.chanState c ≠ .disabled → u.bit (Reg.gateChStatus c) 8 = false →
      exec (.overtemp c temp) s = .next (u.chanFault c 4).afterFault)
    ∧ (∀ (s u : State) (c : Nat) (temp : Int), c < 48 → u = s.monTemp c temp → temp ≤ 135 →
      exec (.overtemp c temp) s = .next (u.setBit (Reg.gateChStatus c) 8 false))
    ∧ (∀ (s r u : State) (c kind : Nat) (level : Int), c < 48 → kind < 3 → r = s.monSupply c kind level →
      r.bit (Reg.gateChStatus c) (4 + kind) = true →
      r.supplyGood c kind level = true ∨ r.supplyTest c kind = false →
      u = r.setBit (Reg.gateChStatus c) (4 + kind) false →
      exec (.supplyConditionClear c kind level) s = .next (if u.chanState c = .unpowered ∧ (u.supplyLow c).isNone then (u.enter c .off).gateSettle else u))
    ∧ (∀ (s u : State) (c sns kind : Nat), c < 48 → (s.gch c).wait = some 0 → s.chanState c = .fault →
      kind = s.fld (Reg.gateChStatus c) 9 3 →
      u = (if kind = 3 then s.setBit (Reg.gateChStatus c) 7 (s.scAbove c sns) else s) →
      exec (.retryWaitEnd c sns) s = .next (if u.bit (Reg.gateChStatus c) (4 + kind) then u.failAgain c else u.recover c).afterFault)

/-- The safety tick, the inputs and the outputs complete. While the processor is well a safety tick runs its steps; a
discrepancy that has lasted N ticks faults its pair, shows demand and latches LOCKOUT with cause 0x02; a passed
output test marks the output tested, a failed one and an overcurrent fault it; the local reset evaluates the
release, and a reset channel high alone for 500 ms is ignored. (R291, R295, R296, R301, R302, R312) -/
def Obligations.SafetyTickRowsComplete : Prop :=
  (∀ (s : State) (raw : Word) (rstA rstB testOk : Bool) (closedA closedB voltage : Nat) (persist : List Nat) (r : TickRest), s.procOk = true → r = { closedA := closedA, closedB := closedB, voltage := voltage, testOk := testOk, persist := persist } →
      exec (.safetyTick raw rstA rstB closedA closedB voltage testOk persist) s = .next (s.safetyWork raw rstA rstB r))
    ∧ (∀ (s : State) (i : Nat), i < 16 → s.procOk = true → s.discDue i = true →
      exec (.inputDiscrepancy i) s = .next (s.faultInput i).goOnTick)
    ∧ (∀ (s u : State) (n opened closed : Nat) (b : Bool), n < 8 → s.procOk = true → s.pulseDue n = true →
      b = (s.outTest n).nextB → u = s.setOutTest n { age := 0, nextB := !b } →
      exec (.soutTestPulse n b opened closed) s = .next (if opened ≤ 100 * s.fld (Reg.safeOutCfg n) 7 4 ∧ closed ≤ 100 * s.fld (Reg.safeOutCfg n) 7 4 + 100 then u
        else u.faultOutput n))
    ∧ (∀ (s : State) (n : Nat), n < 8 → s.procOk = true → s.bit Reg.safeOutState (24 + n) = false →
      exec (.soutOvercurrent n) s = .next (s.faultOutput n))
    ∧ (∀ (s : State) (testOk : Bool) (persist : List Nat), s.localDue = true →
      (s.tryRelease testOk persist).2 = true →
      exec (.localReset testOk persist) s = .next (s.tryRelease testOk persist).1.showMirror)
    ∧ (∀ (s u : State) (testOk : Bool) (persist : List Nat) (r : LocalReset), s.localDue = true →
      u = (s.tryRelease testOk persist).1 → (s.tryRelease testOk persist).2 = false →
      r = { u.safe.rst with hold := 0, lowA := false, lowB := false } →
      exec (.localReset testOk persist) s = .next (u.setRst r).showMirror)
    ∧ (∀ (s : State), s.procOk = true → 500 < s.safe.rst.aloneA ∨ 500 < s.safe.rst.aloneB →
      s.safe.rst.ignored = false →
      exec .resetDiscrepancy s = .next ((s.setRst { s.safe.rst with ignored := true, hold := 0 }).raise 0x0904 []))

/-- The lattice, the processor and safe streams complete. A demand of a lattice-marked input enters the lattice and
leaves it; a lattice test passes or latches LOCKOUT with cause 0x07; a lost heartbeat latches the lattice, and a
lock-step mismatch also restarts the processor until it reports done; a safe frame is judged, a subscription in its
degraded window is lost when that ends, and an arm expires at its tick. (R287, R288, R292, R293, R304, R306, R313) -/
def Obligations.LatticeAndSafeStreamRowsComplete : Prop :=
  (∀ (s : State) (i : Nat), i < 16 → s.latticeMarked i = true → s.safe.diag.demand / 2 ^ i % 2 = 0 →
      exec (.latticeDemand i) s = .next (s.setDiag { s.safe.diag with demand := s.safe.diag.demand + 2 ^ i }).showLattice)
    ∧ (∀ (s : State) (i : Nat), i < 16 → s.safe.diag.demand / 2 ^ i % 2 = 1 →
      exec (.latticeDemandEnd i) s = .next (s.setDiag { s.safe.diag with demand := s.safe.diag.demand - 2 ^ i }).showLattice)
    ∧ (∀ (s : State) (ok : Bool), s.procOk = true → 10 ≤ s.safe.diag.busLow → testAge < s.safe.diag.testTick →
      exec (.latticeTest ok) s = .next (if ok then s.latticeTested ok else (s.latticeTested ok).latchLockout 7 0))
    ∧ (∀ (s : State), 
      exec .heartbeatLost s = .next ((s.setDiag { s.safe.diag with beats := 0 }).latticeLatches 6 0))
    ∧ (∀ (s u v : State) (m : List (Nat × Word)) (w : SafeSt), s.procOk = true →
      u = (s.countUp Reg.safeDiag 0 4 1).setBit Reg.safeStatus 8 false →
      v = ((u.setDiag { u.safe.diag with restarting := true, restarted := false }).latticeLatches 5 0).showProc →
      m = sparseSet resetValue v.safe.mirror Reg.safeStatus (v.mirrorWord Reg.safeStatus &&& ~~~(word (2 ^ 8))) →
      w = { v.safe with rest := none, mirror := m } →
      exec .lockstepMismatch s = .next { v with safe := w })
    ∧ (∀ (s : State) (d : SafeDiag), s.safe.diag.restarting = true →
      d = { s.safe.diag with restarting := false, restarted := true } →
      exec .processorRestartDone s = .next ((s.setDiag d).setBit Reg.safeStatus 8 true).showProc)
    ∧ (∀ (s : State) (plane node stream seq : Nat) (data crc : Word) (inSlot : Bool), 
      exec (.safeFrameReceived plane node stream seq data crc inSlot) s = .next (s.takeSafeFrame plane node stream seq data crc inSlot))
    ∧ (∀ (s : State) (r : Nat), r < 16 → s.procOk = true → s.windowDue r = true →
      exec (.degradedWindowExpiry r) s = .next (s.loseSub r).goOnTick)
    ∧ (∀ (s u : State) (a : Arm) (w : SafeSt), s.safe.arm = some a → a.expired = false →
      s.tickPast a.expiry = true ∨ (s.rd Reg.safeTick).toNat = a.expiry →
      w = { s.safe with arm := some { a with expired := true } } → u = { s with safe := w } →
      exec .armExpired s = .next ((u.setBit Reg.safeStatus 7 false).put Reg.safeStatus 16 7 0).showMirror)

/-- Cycle program rows complete. At its start point a free task of a RUNNING program starts a cycle and one still
running overruns; the watchdog halts the program; a free core is granted the ready call of the highest priority; a
call completes with its results; the error task runs for the oldest cause; a stopping program with no cycle in
progress is STOPPED; the key takes its new position, and the host link is lost after host_timeout. (R324, R328,
R329, R338, R341, R344, R348, R350) -/
def Obligations.ProgramRowsComplete : Prop :=
  (∀ (s u : State) (t : Nat) (dio : Word), t < 8 → s.prgRuns = true → s.isStart t = true →
      (∀ k < t, s.isStart k = false) →
      u = s.setTask t { s.task t with point := s.tick + 1, limit := s.fld Reg.cycleWdCfg 0 4 + 1 } →
      exec (.taskStartPoint t dio) s = .next (if (u.task t).running then u.overrun t else if u.prgState = 3 then u.startCycle t dio else u))
    ∧ (∀ (s : State) (t : Nat), s.prgRuns = true → s.watchdogDue t = true →
      exec (.programWatchdog t) s = .next (s.raise 0x0A01 []).haltProgram)
    ∧ (∀ (s : State) (c i : Nat), c < 16 → s.prgRuns = true → s.bit Reg.cycleCores c = true →
      s.bit Reg.cycleCores (16 + c) = false → s.nextCall = some i →
      exec (.dispatchGrant c) s = .next (s.grant i c))
    ∧ (∀ (s : State) (i rest cycles corrected : Nat) (e : BlockEffect) (r : CallRun) (c : Call), s.cyc.calls.find? (fun r => r.index == i && r.effect.isNone) = some r → s.inForce.calls[i]? = some c →
      exec (.blockCallComplete i e rest cycles corrected) s = .next (s.completeCall r c e (s.callAge i + min rest 19) cycles corrected))
    ∧ (∀ (s : State) (c : Nat × Nat) (cs : List (Nat × Nat)) (dio : Word), s.cyc.causes = c :: cs →
      s.prgState = 3 → (s.task 8).running = false →
      exec (.errorTaskRun dio) s = .next (s.startError c cs dio))
    ∧ (∀ (s : State), s.prgState = 4 → (∀ t < 9, (s.task t).running = false) → s.cyc.stop = none →
      exec .programStopped s = .next (s.leaveProgram 5))
    ∧ (∀ (s : State) (p : Packet), s.prgState = 4 → (∀ t < 9, (s.task t).running = false) → s.cyc.stop = some p →
      exec .programStopped s = .next ((s.leaveProgram 5).finishLate 0x0302 p .ok []))
    ∧ (∀ (s u v : State) (run stop : Bool) (new : Nat), new = keyPosition run stop →
      u = (s.setBit Reg.cycleKey 2 run).setBit Reg.cycleKey 3 stop → s.fld Reg.cycleKey 0 2 ≠ new →
      v = ((u.put Reg.cycleKey 0 2 new).showSource).raise 0x0A09 [] →
      exec (.keyChange run stop) s = .next (if new = 2 then v.setTarget .standby else v))
    ∧ (∀ (s : State), s.hostAlive = true → s.cyc.hostTick + s.fld Reg.cycleKeyCfg 0 10 * 100 ≤ s.tick →
      exec .hostLinkLost s = .next ((((s.setBit Reg.cycleKey 4 false).showSource).raise 0x0A07 []).queueCause 0x07 0))

/-- Memory errors, arbitration, DMA bursts and rings complete. An uncorrectable error is retried, and one of conversion
staging delivers an invalid sample; a retry ends as a transient or lasting fault; the scrubber advances by 64 bytes;
a cleared page reads zeros and is unmarked; a bank is granted to the winner of its arbitration; a film beat and a
fault record are written; a DMA burst moves; a unit is offered to a ring; returned descriptors free their pool.
(R31, R32, R33, R360, R363, R366, R367, R368, R379, R383, R387) -/
def Obligations.MemoryRowsComplete : Prop :=
  (∀ (s u : State) (region addr ctx channel : Nat) (dma : Bool) (r : Retry) (m : MemSt), region < 5 →
      (region = 0 → addr < memSize ∧ s.pageMarked addr = false) →
      r = { region := region, addr := addr, ctx := ctx, dma := dma, channel := channel, marks := true, burst := none } → m = { s.memx with retries := s.memx.retries ++ [r] } → u = { s with memx := m } →
      exec (.uncorrectableError region addr ctx dma channel) s = .next (if region = 2 ∧ channel < 2 then u.selfFault { lane := channel, code := 2, unit := 0, phase := 0, lasting := false }
        else u))
    ∧ (∀ (s u : State) (addr ctx channel : Nat) (dma : Bool) (r : Retry) (m : MemSt), r = { region := 5, addr := addr, ctx := ctx, dma := dma, channel := channel, marks := true, burst := none } → m = { s.memx with retries := s.memx.retries ++ [r] } → u = { s with memx := m } →
      exec (.uncorrectableError 5 addr ctx dma channel) s = .next (u.setStaged channel { u.staged channel with valid := false }))
    ∧ (∀ (s u : State) (r : Retry) (rs : List Retry) (ok : Bool) (m : MemSt), s.memx.retries = r :: rs →
      m = { s.memx with retries := rs } → u = { s with memx := m } →
      exec (.retryResult ok) s = .next (u.endRetry r ok))
    ∧ (∀ (s u : State) (corrected : Nat) (m : MemSt), u = s.countUp Reg.memEccCorr 0 16 corrected →
      m = { u.memx with scrub := (s.memx.scrub + 64) % memSize } →
      exec (.scrubAccess corrected false) s = .next { u with memx := m })
    ∧ (∀ (s u : State) (p : Nat) (m : MemSt) (l : List Host.Cell), s.memx.clearing.contains p = true →
      m = { s.memx with clearing := s.memx.clearing.filter (· != p) } →
      l = s.mem.filter (fun e => e.1 / 0x1000 != p) → u = { s with mem := l, memx := m } →
      exec (.badpageClearDone p) s = .next (u.setBankBit (Reg.memBadpage 0) p false).showMarked)
    ∧ (∀ (s : State) (b q beats wait : Nat) (qs rest : List Nat) (withdrawn : Bool), b < 16 →
      qs.filter (fun q => requester q && !(q == 16 && s.bankHoldsFilm b)) = q :: rest →
      exec (.bankGrant b qs withdrawn beats wait) s = .next (s.grantBank b (q :: rest) (s.winner b q rest) withdrawn beats wait))
    ∧ (∀ (s : State) (b : Nat) (w : FilmWord), s.shut.film.find? (fun w => w.addr / 0x100000 == b) = some w →
      s.bankHoldsFilm b = true →
      exec (.filmWrite b) s = .next ((s.writeFilm (fun x => x.addr / 8 == w.addr / 8 && x.shutter == w.shutter)).countBeats b 1 0 1 0))
    ∧ (∀ (s u : State) (r : List Word) (rs : List (List Word)) (m : MemSt), s.memx.records = r :: rs →
      m = { s.memx with records := rs } → u = { s with memx := m } →
      exec .faultRecordWrite s = .next ((u.writerStore (u.fld Reg.memFrCfg 0 8 * 0x10000 + 256 * u.fld Reg.perfFrStat 0 8) (wordsBytes r)).1.countWrap
        Reg.perfFrStat 0 8 1))
    ∧ (∀ (s : State) (e k err corrected : Nat) (host : List Byte) (x : DmaXfer) (xs : List DmaXfer), e < 4 →
      s.dmaNext e = some k → (s.dmaCh k).xfers = x :: xs →
      exec (.dmaBurst e err host corrected) s = .next ((s.countUp Reg.memEccCorr 0 16 corrected).burst k x err host))
    ∧ (∀ (s : State) (r n : Nat) (bytes : List Byte), 16 ≤ r → r < 64 → r < 32 ∨ 40 ≤ r → s.ringEnabled r = true →
      1 ≤ n → bytes.length ≤ 56 * n →
      exec (.descriptorAllocation r n bytes) s = .next (s.offer r n bytes))
    ∧ (∀ (s : State) (r n : Nat) (l : List RingUnit), 16 ≤ r → r < 64 → n ≤ s.ringFill r →
      l = retireDescs n (s.ring r).units →
      exec (.ringHeadAdvance r n) s = .next ((s.setRing r { s.ring r with units := l }).setFill r (s.ringFill r - n)))

/-- Shutter samples, triggers and records complete. A due sample of a shutter runs its tracker, its waiting order and
its record; a pattern that has become true triggers an armed shutter; a record that has ended is closed. (R392,
R397, R398, R401) -/
def Obligations.ShutterRowsComplete : Prop :=
  (∀ (s : State) (q : Nat) (pads dio sins : Word) (dt : Nat), s.sampleDue q = true →
      exec (.shutterSample q pads dio sins dt) s = .next (s.shutterSample q pads dio sins (s.linearAt dt)))
    ∧ (∀ (s : State) (q back frac held : Nat) (pads dio sins : Word), s.patternDue q back frac held pads dio sins = true →
      exec (.patternTrigger q back frac held pads dio sins) s = .next (s.patternAt q back frac))
    ∧ (∀ (s : State) (q : Nat) (e : ShutEnd) (t : ShutTrig), (s.shutRun q).closing = some e →
      (s.shutRun q).trig = some t →
      exec (.recordClosed q) s = .next (s.closeRecord q e t))

/-- PCI Express and SPI rows complete. A trained link shows its generation and width; a doorbell takes the slots up to
CQ_TAIL and RQ_HEAD frees reply slots; a link reset returns the ring windows to reset and faults the sessions of
channels 0 to 4. A BAR2 write of shared SRAM outside CERT_MODE writes it; any other of CERT_MODE or of a register is
discarded and counted. SPI transactions write, read, are ignored, end and abort. (R21, R419, R421, R422) -/
def Obligations.PcieAndSpiRowsComplete : Prop :=
  (∀ (s : State) (gen width : Nat), 1 ≤ gen → gen ≤ 3 → 1 ≤ width → width ≤ 2 →
      exec (.pcieLinkUp gen width) s = .next (((s.setBit Reg.hostStatus 0 true).put Reg.hostStatus 1 2 gen).put Reg.hostStatus 3 2 width))
    ∧ (∀ (s u v : State) (c tail : Nat) (setup : List (Nat × Word)), c < 5 → s.bit Reg.hostStatus 0 = true →
      u = (s.writeWindow c setup).wr (winReg c 0x0C) (word (tail % 256)) →
      v = (if u.bit (winReg c 0x08) 8 then u.put (winReg c 0x10) 0 8 (tail % u.winSlots c 0x08) else u) →
      exec (.pcieDoorbell c setup tail) s = .next (v.drainPcie c).startHeld)
    ∧ (∀ (s : State) (c head : Nat), c < 5 → s.bit Reg.hostStatus 0 = true →
      exec (.pcieRqHeadWrite c head) s = .next (s.advanceRq c head).startHeld)
    ∧ (∀ (s u v : State) (down : Bool) (l : List (Nat × Word)), u = s.faultSessions (fun c => decide (c < 5)) →
      l = u.regs.filter (fun e => !(decide (0x100000000 ≤ e.1) && decide (e.1 < 0x100000500))) →
      v = { u with regs := l } →
      exec (.pcieLinkReset down) s = .next (if down then v.put Reg.hostStatus 0 5 0 else v))
    ∧ (∀ (s : State) (a : Nat) (v : Word), s.certMode = false → a < memSize → a % 4 = 0 → s.pageMarked a = false →
      exec (.bar2Write a v) s = .next (s.wrBytes a (wordBytes v)))
    ∧ (∀ (s : State) (a : Nat) (v : Word), s.certMode = true ∨ inBlocks a = true →
      exec (.bar2Write a v) s = .next ((s.countUp Reg.hostBar2Discard 0 16 1).raise 0x0D05 []))
    ∧ (∀ (s : State) (whole : Bool), s.serves 7 = true → s.net.spi = .idle ∨ s.net.spi = .writing →
      exec (.spiWrite whole) s = .next (s.setSpi (if whole then .written else .writing)))
    ∧ (∀ (s : State) (whole : Bool), s.serves 7 = true → s.net.spi = .idle ∨ s.net.spi = .reading false →
      exec (.spiRead whole) s = .next (s.setSpi (.reading (whole && decide (s.waitingReplies 7 ≠ [])))))
    ∧ (∀ (s : State), s.serves 7 = true → s.net.spi = .idle →
      exec .spiInvalidType s = .next ((s.setSpi .ignored).countUp Reg.hostDrop 0 16 1))
    ∧ (∀ (s : State), 
      exec .spiCsRise s = .next s.spiEnd.startHeld)
    ∧ (∀ (s : State), s.net.spi = .writing →
      exec .spiFrameAborted s = .next (((s.setSpi .ignored).countUp Reg.hostSpiAbort 16 16 1).raise 0x0D06 []))

/-- Ethernet and CAN rows complete. A good frame of an enabled port that is up is taken, a bad one counts; a frame that
a port has to send leaves; links come up and go down; an incomplete datagram is discarded after 20 ms; a port down
for 1 s faults its sessions. A CAN controller receives frames that its filters accept into ring 59, sends the oldest
of its ring, goes off the bus, and returns. (R420, R443, R445, R446, R448, R466, R467) -/
def Obligations.EthernetAndCanRowsComplete : Prop :=
  (∀ (s : State) (p dt : Nat) (f : EthFrame), p < 2 → s.fld (Reg.netEthCfg p) 0 3 ≠ 0 →
      s.bit (Reg.netEthStat p) 0 = true → ethGood f = true →
      exec (.ethFrameReceived p f dt) s = .next (s.takeEth p f dt))
    ∧ (∀ (s : State) (p dt : Nat) (f : EthFrame), p < 2 → s.fld (Reg.netEthCfg p) 0 3 ≠ 0 →
      s.bit (Reg.netEthStat p) 0 = true → ethGood f = false →
      exec (.ethFrameReceived p f dt) s = .next (s.countUp (Reg.netEthErr p) 0 16 1))
    ∧ (∀ (s : State) (p what dt : Nat) (tsReq last : Bool), s.hasFrame p what = true →
      exec (.ethFrameSent p what dt tsReq last) s = .next (s.frameSent p what dt tsReq last).startHeld)
    ∧ (∀ (s u : State) (p speed mode : Nat), p < 2 → s.ethClock = true → mode = s.fld (Reg.netEthCfg p) 0 3 →
      mode ∈ [1, 2, 3, 4, 5] → (ethSpeeds mode).contains speed = true →
      u = (s.setBit (Reg.netEthStat p) 0 true).put (Reg.netEthStat p) 1 2 speed →
      exec (.ethLinkUp p speed) s = .next (((u.setBit (Reg.netEthStat p) 3 (s.bit (Reg.netEthCfg p) 5)).setBit Reg.netStatus (6 + p) true).setBit
        Reg.hostStatus (5 + p) true))
    ∧ (∀ (s : State) (p : Nat), p < 2 →
      exec (.ethLinkDown p) s = .next (s.ethDown p))
    ∧ (∀ (s : State) (p key t : Nat) (v : NetSt), (p, key, t) ∈ s.net.reasm → t + 20 ≤ s.tick →
      v = { s.net with reasm := s.net.reasm.filter (fun r => !(r.1 == p && r.2.1 == key)) } →
      exec (.ethReassemblyTimeout p key) s = .next ((s.setNet v).countUp Reg.hostEthReasm 0 16 1))
    ∧ (∀ (s : State) (p : Nat), p < 2 → s.bit (Reg.netEthStat p) 0 = false →
      sparseGet (fun _ => 0) s.net.downTick p + 1000 ≤ s.tick →
      exec (.ethPortDownFault p) s = .next (s.faultSessions (fun c => c == 5 + p)))
    ∧ (∀ (s u : State) (n dt errors tec rec' : Nat) (f : CanFrame), n < 4 → s.canFormat n ≠ 0 →
      canClass f.flags ≤ s.canFormat n → s.canState n ≠ 2 → u = s.canErrors n errors tec rec' →
      exec (.canFrameReceived n f dt errors tec rec') s = .next (if u.accepts n f ∧ u.ringEnabled 59 then u.offer 59 (inlineDescs (u.canBytes n f dt).length) (u.canBytes n f dt) else u))
    ∧ (∀ (s : State) (n dt errors tec rec' : Nat) (lost : Bool) (r : RingUnit) (l : List RingUnit), n < 4 →
      s.canFormat n ≠ 0 → s.canState n ≠ 2 → s.bit (Reg.netCanCfg n) 3 = false → (s.ring (60 + n)).units = r :: l →
      exec (.canFrameSent n lost dt errors tec rec') s = .next (s.canSent n r lost dt errors tec rec'))
    ∧ (∀ (s : State) (n dt : Nat) (onBus : Bool), n < 4 → s.canFormat n ≠ 0 → s.canState n ≠ 2 →
      exec (.canBusOff n onBus dt) s = .next (s.canOff n onBus dt))
    ∧ (∀ (s u : State) (n : Nat), n < 4 → s.canState n = 2 →
      (s.canSt n).recovering = true ∨ s.bit (Reg.netCanCfg n) 4 = true →
      u = ((s.wr (Reg.netCanStat n) 0).setBit Reg.netStatus (8 + n) false).setBit Reg.netStatus (12 + n) false →
      exec (.canBusOn n) s = .next ((u.setCanSt n { u.canSt n with recovering := false }).raise 0x0E08 []))

/-- Time rows complete. With a source configured a synchronisation adjusts the counter; after 16 good ones the counter
is LOCKED; a lost source starts holdover, which ends in FREE; a comparator whose time has come fires; the RTC takes
the seconds of a LOCKED counter. (R452, R454, R457, R533) -/
def Obligations.TimeRowsComplete : Prop :=
  (∀ (s : State) (offset : Int) (incNs incFrac portState utc : Nat), s.timeSource = 1 ∨ s.timeSource = 2 →
      exec (.ptpSync offset incNs incFrac portState utc) s = .next (((s.hearSync.put Reg.netPtpStat 0 4 portState).put Reg.netPtpStat 16 16 utc).syncTime offset incNs incFrac))
    ∧ (∀ (s : State), s.timeState ≠ 1 → 16 ≤ s.net.good → s.timeSource ≠ 0 →
      exec .timeLocked s = .next ((s.put Reg.netStatus 0 2 1).raise 0x0E00 []).tcUpdate)
    ∧ (∀ (s : State), s.sourceSilent = true →
      exec .timeSourceLost s = .next s.loseTime)
    ∧ (∀ (s : State), s.timeState = 2 → s.net.holdTick + s.fld Reg.netTimeCfg 16 12 * 1000 ≤ s.tick →
      exec .timeFree s = .next ((s.put Reg.netStatus 0 2 0).raise 0x0E02 []).tcUpdate)
    ∧ (∀ (s : State) (k dt : Nat), k < 16 → s.bit (Reg.netCmpCfg k) 0 = true → 0 ≤ s.cmpDistance k dt →
      dt = 0 ∨ s.net.moved = true ∨ s.cmpDistance k (dt - 1) < 0 →
      exec (.timeMatch k dt) s = .next (s.fireCmp k dt))
    ∧ (∀ (s u : State) (n : Nat), s.timeState = 1 → s.wholeSecond = some n →
      u = (s.wr Reg.sysRtcLo (word n)).wr Reg.sysRtcHi (word (n / 2 ^ 32)) →
      exec .rtcWrite s = .next (u.setSys { u.sys with rtcRest := 0 }))

/-- Fabric links and frames complete. A trained link with a delay of at most 320 ns and its own plane at the far end
comes up and is refused otherwise; a link goes down; a marked port tries again after 1 s. A frame is taken; one that
fails its check ends in an abort and asks for a resend or marks the link; a NAK resends the copy kept; an idle stop
closes the forwarded copy; HELLO is sent every 100 ms. (R472, R475, R476, R477, R478, R479) -/
def Obligations.FabricLinkRowsComplete : Prop :=
  (∀ (s : State) (p delay : Nat) (same : Bool), p < 4 → s.fabClock = true → s.portState p < 2 →
      (s.port p).again ≤ s.tick →
      exec (.linkUp p delay same) s = .next (if delay ≤ 320 ∧ same = true then s.qualify p delay else s.refuseLink p))
    ∧ (∀ (s : State) (p : Nat), s.portUp p = true →
      exec (.linkDown p) s = .next (s.dropLink p 0))
    ∧ (∀ (s : State) (p : Nat), p < 4 → s.portState p = 3 → (s.port p).held = false →
      (s.port p).marks.head?.getD 0 + 1000 ≤ s.tick →
      exec (.portRetry p) s = .next (s.put (Reg.fabPortStat p) 0 2 1))
    ∧ (∀ (s : State) (p arrival : Nat) (f : FabFrame) (aborted : Bool), s.portUp p = true → f.body ≠ .other →
      (s.nodeId ≠ 0 → f.src ≠ s.nodeId) →
      isSurvey f.body = true ∨ s.hasRoutes = true ∨ f.dst = s.nodeId ∨ f.dst = broadcast →
      exec (.fabFrameReceived p f aborted arrival) s = .next (s.takeFrame p f aborted (s.inSlot (p / 2) f arrival)))
    ∧ (∀ (s u : State) (p tag : Nat) (f : FabFrame), s.portUp p = true → u = s.passOn p f true →
      exec (.fabFrameCheckFail p tag 0 f) s = .next (u.setPort p { u.port p with nak := some (tag % 256) }))
    ∧ (∀ (s : State) (p tag : Nat) (f : FabFrame), s.portUp p = true →
      exec (.fabFrameCheckFail p tag 1 f) s = .next ((s.passOn p f true).markLink p))
    ∧ (∀ (s u : State) (p tag : Nat) (k : Kept) (passes : Bool), s.portUp p = true →
      (s.port p).kept.find? (fun k => k.tag == tag % 256) = some k → k.copy = false →
      u = s.sendOn k.frame k.aborted true p →
      exec (.nakReceived p tag passes) s = .next (if passes then (u.raiseTransient 0x0F (word p) (linkInfo false)).countUp (Reg.fabPortErr p) 0 16 1
        else u.markLink p))
    ∧ (∀ (s : State) (p stray : Nat) (f : FabFrame), s.portUp p = true →
      exec (.frameIdleStop p stray f) s = .next (((s.passOn p f true).countUp (Reg.fabPortErr p) 16 16 1).countUp Reg.fabErr 0 16 stray))
    ∧ (∀ (s u : State) (p : Nat), s.portUp p = true → s.bit Reg.fabCfg 0 = true →
      (∀ t, (s.port p).hello = some t → t + 100 ≤ s.tick) →
      u = s.originate broadcast 0 false 1 (.hello s.ownKey s.nodeId s.bestKey) [p] →
      exec (.helloSend p) s = .next (u.setPort p { u.port p with hello := some u.tick }))

/-- The survey and the surveyor complete. A node whose own key is the best known for 50 ms becomes surveyor; a report
that is due is sent; the surveyor assigns the IDs and ends the survey when every node has confirmed; a node read
without a reply times out; after three cycles without a cycle frame the deputy becomes surveyor. (R480, R481, R482,
R500, R507) -/
def Obligations.SurveyRowsComplete : Prop :=
  (∀ (s u : State), s.bit Reg.fabCfg 0 = true → s.isSurveyor = false → s.bit Reg.fabStatus 5 = true →
      s.bestKey = s.ownKey → s.fab.survey.bestTick + 50 ≤ s.tick → u = s.setBit Reg.fabStatus 1 true →
      exec .becomeSurveyor s = .next (u.put Reg.fabNode 12 12 s.nodeId).startReports)
    ∧ (∀ (s u : State), s.fab.survey.reportDue = true → s.bit Reg.fabCfg 0 = true → s.isSurveyor = false →
      u = s.setSurvey { s.fab.survey with reportDue := false } →
      exec .reportSend s = .next (u.sendFab (if u.surveyorId = 0 then broadcast else u.surveyorId) (.report u.ownReport)))
    ∧ (∀ (s : State) (x y : Nat), s.isSurveyor = true → s.bit Reg.fabStatus 5 = true → s.fab.survey.waits = false →
      exec (.idAssignment x y) s = .next (s.assignNodes x y))
    ∧ (∀ (s : State), s.isSurveyor = true → s.fab.survey.waits = true → s.allConfirmed = true →
      exec .surveyDone s = .next s.endSurvey)
    ∧ (∀ (s : State) (r : NodeRead), s.fab.reads.find? (fun r => decide (r.start + 100 ≤ s.tick)) = some r →
      exec .fabNodeReadTimeout s = .next (s.endReads (fun q => q == r) .timeout []))
    ∧ (∀ (s u v : State) (l : List NodeReport), s.bit Reg.fabStatus 2 = true → s.isSurveyor = false →
      3 ≤ s.fab.cyc.missed → u = s.setFabCyc { s.fab.cyc with missed := 0, lost := false } →
      v = (((u.setBit Reg.fabStatus 1 true).setBit Reg.fabStatus 2 false).put Reg.fabNode 12 12
        ((u.setBit Reg.fabStatus 1 true).setBit Reg.fabStatus 2 false).nodeId).put Reg.fabNodes 12 12 0 →
            l = v.routeReports ++ [v.ownReport] →
      exec .surveyorChanged s = .next ((v.setSurvey { v.fab.survey with reports := l, second := none, waits := false }).raise 0x0F04 []).showFab)

/-- The timetable, the fabric cycle, streams and the secondary layer complete. The shadow becomes active at its cycle, a
direct write at its own; a distribution ends after 200 ms; the surveyor leads each cycle and another node keeps it;
8 cycles without a frame lose the cycle; a node publishes in its own slots; a subscription is lost and returns; the
secondary layer reports and computes. (R346, R489, R493, R494, R495, R498, R499, R500, R502, R504) -/
def Obligations.TimetableRowsComplete : Prop :=
  (∀ (s : State) (cycle : Nat), s.fab.tt.swap = some cycle → cycle ≠ 0 → cycle = (s.rd Reg.fabCycle).toNat + 1 →
      exec .ttSwapped s = .next (s.swapTables cycle))
    ∧ (∀ (s : State) (v : TtDirect), s.fab.tt.direct = some v → v.boundary ≠ 0 → v.late = false →
      v.boundary = (s.rd Reg.fabCycle).toNat + 1 →
      exec .ttDirectApply s = .next (s.applyDirect v))
    ∧ (∀ (s : State) (v : TtDirect), s.fab.tt.direct = some v → v.late = true →
      v.boundary = (s.rd Reg.fabCycle).toNat →
      exec .ttDirectApply s = .next (s.writeActive v.entries).endDirect)
    ∧ (∀ (s : State) (d : TtDist), s.fab.tt.dist = some d → d.start + 200 ≤ s.tick →
      exec .ttDistributionTimeout s = .next s.endDist)
    ∧ (∀ (s : State) (dt incNs incFrac : Nat), s.fabClock = true → s.isSurveyor = true →
      exec (.cycleStart dt incNs incFrac) s = .next (s.leadCycle dt))
    ∧ (∀ (s : State) (dt incNs incFrac : Nat), s.fabClock = true → s.isSurveyor = false → s.hasRoutes = true →
      exec (.cycleStart dt incNs incFrac) s = .next (s.keepCycle dt incNs incFrac))
    ∧ (∀ (s u : State), s.isSurveyor = false → 8 ≤ s.fab.cyc.missed → s.fab.cyc.lost = false →
      u = ((s.setFabCyc { s.fab.cyc with lost := true }).setBit Reg.fabStatus 3 false).raise 0x0F09 [] →
      exec .cycleLost s = .next (if u.timeSource = 3 then u.loseTime else u).showFab)
    ∧ (∀ (s : State) (n i : Nat), s.ownSlot n = true → s.pubOf (slotAt s.fab.active n).stream = some i →
      (s.fld (Reg.fabPubCfg i) 1 2 = 1 → s.bit Reg.safeTxCfg 0 = true) →
      exec (.slotTransmit n) s = .next (s.publish i (slotAt s.fab.active n)))
    ∧ (∀ (s u : State) (j : Nat), j < 256 → s.subOn j = true → s.subKind j ≠ 1 →
      s.bit (Reg.fabSubStat j) 1 = false → s.fld (Reg.fabSubCfg j) 19 8 ≤ (s.subAt j).missed →
      u = ((s.setBit (Reg.fabSubStat j) 0 false).setBit (Reg.fabSubStat j) 1 true).raise 0x0F0A [] →
      exec (.streamLost j) s = .next (if u.subKind j = 0 then u.loseStation j else u))
    ∧ (∀ (s u : State) (j : Nat), j < 256 → s.subOn j = true → s.bit (Reg.fabSubStat j) 1 = true →
      2 ≤ (s.subAt j).run →
      u = ((s.setBit (Reg.fabSubStat j) 0 true).setBit (Reg.fabSubStat j) 1 false).raise 0x0F0B [] →
      exec (.streamReturned j) s = .next (if u.subKind j = 0 then u.returnStation j else u))
    ∧ (∀ (s : State), s.bit Reg.fabSecCfg 0 = true → s.modes.second.since + s.secondaryPeriod ≤ s.tick →
      exec .secondaryReportSend s = .next s.secondaryReport)
    ∧ (∀ (s u : State) (w : FabSecond), s.isSurveyor = true → s.fab.second.since + s.secondaryPeriod ≤ s.tick →
      w = { s.fab.second with reports := [], since := s.tick } → u = s.setFab { s.fab with second := w } →
      exec .secondaryCompute s = .next ((List.range 256).foldl (fun u z =>
        u.secondarySection z (s.fab.second.reports.filter (fun r => r.sect == z))) u))

/-- Clock and supply rows complete. An unlock asks for a relock, or for a reset with cause 0x05 while a lane switches; a
relock starts, ends in lock, or is retried once before a lasting fault; a lost reference asks for a reset with cause
0x04 and its return releases the module. A power fail lowers gate enable and starts the hold-up, whose length is
recorded; a rail outside its window asks for a reset with cause 0x03; the reverse switch opens and closes; VBAT is
measured once an hour. (R513, R515, R518, R519, R520, R521, R522, R523, R531) -/
def Obligations.ClockAndSupplyRowsComplete : Prop :=
  (∀ (s u : State), s.bit Reg.sysClkStat 2 = true → u = (s.setBit Reg.sysClkStat 2 false).raise 0x0100 [] →
      exec .pllUnlock s = .next (if u.laneSwitching then u.needReset 5 else u.setSys { u.sys with relock := true }))
    ∧ (∀ (s : State), s.sys.relock = true ∨ s.refModeDue = true → s.sys.acquiring = 0 →
      exec .relockStart s = .next (s.stopClocks.setSys { s.stopClocks.sys with relock := false, acquiring := 1, acquireTick := s.tick }))
    ∧ (∀ (s u : State), s.sys.acquiring ≠ 0 →
      u = (s.setSys { s.sys with acquiring := 0 }).takeItems (fun a => a == Reg.sysClkCfg) State.wrRw →
      exec .pllLock s = .next ((u.startClocks.raise 0x0101 []).countUp Reg.sysRelockCount 0 16 1).closeFixes)
    ∧ (∀ (s : State), s.sys.acquiring = 1 → s.sys.acquireTick + 2 ≤ s.tick →
      exec .relockTimeout s = .next (s.setSys { s.sys with acquiring := 2, acquireTick := s.tick }))
    ∧ (∀ (s u : State), 2 ≤ s.sys.acquiring → s.sys.acquireTick + 2 ≤ s.tick → u = s.raiseLasting 1 0 0 →
      exec .relockTimeout s = .next ((u.setSys { s.sys with acquiring := 0 }).needReset 5))
    ∧ (∀ (s : State), 
      exec .refclkLost s = .next (s.needReset 4))
    ∧ (∀ (s : State), s.sys.hold = 2 →
      exec .refclkPresent s = .next (s.setSys { s.sys with hold := 0 }))
    ∧ (∀ (s : State), s.bit Reg.sysStatus 4 = false →
      exec .vsysFail s = .next s.powerFail)
    ∧ (∀ (s u : State) (duration vmin : Nat), s.bit Reg.sysStatus 4 = true →
      duration = 1000 ∨ (duration < 1000 ∧ vmin < 1030) →
      u = s.wr Reg.sysHoldup (word (min duration 0xFFFF + min vmin 0xFFFF * 2 ^ 16)) →
      exec (.holdupEnd duration vmin) s = .next (u.setSys { u.sys with ended := true }))
    ∧ (∀ (s : State), s.sys.high = false →
      exec .vsysHigh s = .next ((s.setSys { s.sys with high := true }).raise 0x0102 []))
    ∧ (∀ (s : State), 
      exec .railOutOfWindow s = .next (s.needReset 3))
    ∧ (∀ (s : State), s.sys.gate = true →
      exec .reverseBlocked s = .next ((s.setSys { s.sys with gate := false }).raise 0x0104 []))
    ∧ (∀ (s : State), 
      exec .rbGateDrive s = .next (s.setSys { s.sys with gate := true }))
    ∧ (∀ (s u v : State) (mv : Nat), s.bit Reg.sysStatus 0 = true → (∀ t, s.sys.vbatTick = some t →
      t + 3600000 ≤ s.tick) → u = s.put Reg.sysVbat 0 12 (min mv 0xFFF) →
      v = (u.setSys { u.sys with vbatTick := some u.tick }).setBit Reg.sysStatus 1 (decide (2600 ≤ mv)) →
      exec (.vbatMeasure mv) s = .next (if mv < 2600 then v.raise 0x0103 [] else v))

/-- Resets and start-up complete. A reset entry that is due begins with gate enable low and a fault record; the reset is
asserted, after a power fail only at the end of the hold-up; power good releases a module held for it; start-up runs
its steps 1 to 7 and completes at step 9; a vault supply below 2.3 V is remembered. (R520, R523, R525, R528, R530,
R532) -/
def Obligations.ResetAndStartUpRowsComplete : Prop :=
  (∀ (s u : State) (c : Nat), s.entryCause = some c → s.sys.low = none →
      u = s.setSys { s.sys with due := none, request := none, low := some c } →
      exec .resetEntry s = .next (u.busUpdate.takeRecord (Config.entryCode c).toNat []))
    ∧ (∀ (s : State) (c : Nat), s.sys.low = some c → (c = 2 → s.sys.ended = true) →
      exec .resetAssert s = .next (s.afterReset c))
    ∧ (∀ (s u : State) (cold : Bool), s.sys.hold = 1 →
      u = (s.setSys { s.sys with hold := 0 }).setBit Reg.sysStatus 0 true →
      exec (.powerGood cold) s = .next (if cold then u.wr Reg.sysResetCause (resetCause (u.rd Reg.sysResetCause) 1) else u))
    ∧ (∀ (s : State) (checks : BootChecks), s.sys.hold = 0 → s.fld Reg.sysBoot 0 5 = 0 → s.sys.due = none →
      s.sys.low = none →
      exec (.startUp checks) s = .next (s.bootSteps 1 [State.bootSupplies checks, State.bootClocks checks, State.bootVault checks, State.bootImage checks,
        State.bootSafe checks (s.vaultLost checks), State.bootSelfTest checks, State.bootConfig checks, fun s => (s, true)]))
    ∧ (∀ (s : State) (ms : Nat), s.fld Reg.sysBoot 0 5 = 8 → s.sys.due = none → s.sys.low = none →
      exec (.startupDone ms) s = .next (s.bootDone ms))
    ∧ (∀ (s : State), 
      exec .vaultBrownOut s = .next (s.setSys { s.sys with brownOut := true }))

/-- Images, the audit log and tamper inputs complete. An erased slot answers IMAGE_BEGIN with OK; a verified container
gets its pending mark and answers OK, one that fails a step is answered AUTH_FAILED or OUT_OF_RANGE with the step;
buffered audit entries go to the flash ring; an enabled tamper input that has become asserted is recorded at its
level. (R541, R543, R550, R553) -/
def Obligations.SecurityRowsComplete : Prop :=
  (∀ (s u : State) (t : Transfer), s.sec.image.transfer = some t → t.erasing = true →
      u = s.setSlot t.kind (s.inactiveSlot t.kind) [] →
      exec .imageEraseDone s = .next ((u.setImage { u.sec.image with transfer := some { t with erasing := false } }).finishLate 0x0800 t.packet .ok []))
    ∧ (∀ (s u : State) (sig hash gcm : Bool) (t : Transfer) (b : Nat) (l : List (Nat × Nat)), s.sec.image.transfer = some t → t.verifying = true → b = s.inactiveSlot t.kind → s.verifySteps t.kind (s.slot t.kind b) { signature := sig, hash := hash, gcm := gcm } = 0 → u = (s.setImage { s.sec.image with transfer := none }).setBit Reg.secStatus 10 false → l = sparseSet (fun _ => 0) u.sec.image.pending t.kind (b + 1) →
      exec (.imageCommitted sig hash gcm) s = .next (((u.setImage { u.sec.image with pending := l }).raise 0x1000 []).finishLate 0x0802 t.packet .ok []))
    ∧ (∀ (s u : State) (sig hash gcm : Bool) (t : Transfer) (n : Nat), s.sec.image.transfer = some t →
      t.verifying = true →
      s.verifySteps t.kind (s.slot t.kind (s.inactiveSlot t.kind)) { signature := sig, hash := hash, gcm := gcm } = n → n ≠ 0 → u = (s.setImage { s.sec.image with transfer := none }).setBit Reg.secStatus 10 false →
      exec (.imageCommitted sig hash gcm) s = .next (if n = 3 ∨ n = 5 ∨ n = 6 then u.finishLate 0x0802 t.packet .authFailed []
        else u.finishLate 0x0802 t.packet .outOfRange (n8 n)))
    ∧ (∀ (s u : State) (all : List AuditEntry), all = s.sec.flash ++ s.sec.waiting →
      u = s.setSec { s.sec with waiting := [], flash := all.drop (all.length - auditRing) } →
      exec .auditFlush s = .next (if s.sec.waiting.any (fun e => e.seq != 0 && e.seq % auditRing == 0) ∧ u.certMode then u.raise 0x1007 [] else u))
    ∧ (∀ (s u : State) (i : Nat) (high asserted : Bool), i < 4 → s.bit Reg.secTamperCfg (4 * i) = true →
      asserted = (high != s.bit Reg.secTamperCfg (4 * i + 1)) → u = s.setBit Reg.secTamperStat (4 + i) asserted →
      exec (.tamper i high) s = .next (if asserted = true ∧ s.bit Reg.secTamperStat (4 + i) = false then
        u.tamperRecord i (u.fld Reg.secTamperCfg (4 * i + 2) 2) else u))

/-- Events and counters complete. The merger writes up to 4 events of its queue. An overflow is shown and raised once,
and samples its source. A bandwidth window that has lasted takes its count into LAST and the greater one into PEAK
and starts again. The transient rate of a block raises once a window. (R560, R565, R566, R569, R570) -/
def Obligations.EventRowsComplete : Prop :=
  (∀ (s : State), 
      exec .eventWrite s = .next s.mergeEvents)
    ∧ (∀ (s u v : State) (k : Nat) (sample : Word) (l : List (Nat × Bool)), k < 32 →
      sparseGet (fun _ => false) s.perf.overflowed k = true →
      l = sparseSet (fun _ => false) s.perf.overflowed k false →
      u = { s with perf := { s.perf with overflowed := l } } →
      v = (if u.bit (Reg.perfCntCfg k) 18 then u.wr (Reg.perfCntSample k) (u.sampleOf (u.fld (Reg.perfCntCfg k) 0 16) sample) else u) →
      exec (.counterOverflow k sample) s = .next (if v.bit Reg.perfOvf k then v else (v.setBit Reg.perfOvf k true).raise 0x1100 [word k]))
    ∧ (∀ (s u v : State) (w n : Nat) (b l : List (Nat × Nat)), w < 16 → s.bit (Reg.perfWinCfg w) 22 = true →
      sparseGet (fun _ => 0) s.perf.since w + s.fld (Reg.perfWinCfg w) 12 10 ≤ s.tick →
      n = sparseGet (fun _ => 0) s.perf.beats w → u = s.wr (Reg.perfWinLast w) (word n) →
      v = u.wr (Reg.perfWinPeak w) (word (max (u.rd (Reg.perfWinPeak w)).toNat n)) →
      b = sparseSet (fun _ => 0) v.perf.beats w 0 → l = sparseSet (fun _ => 0) v.perf.since w v.tick →
      exec (.bandwidthWindowEnd w) s = .next { v with perf := { v.perf with beats := b, since := l } })
    ∧ (∀ (s u : State) (n : Nat) (l : List Nat), 1 ≤ n → n ≤ 17 → s.fld Reg.perfRateCfg 0 16 ≠ 0 →
      s.fld Reg.perfRateCfg 0 16 ≤ sparseGet (fun _ => 0) s.perf.window n → s.perf.rated.contains n = false →
      l = n :: s.perf.rated → u = { s with perf := { s.perf with rated := l } } →
      exec (.transientRate n) s = .next (u.raise 0x1102 [word n]))

/-- CFG_DISCARD empties the staging area and leaves accepted FIX sets alone. CFG_DISCARD, whose payload is empty, from
the session that holds the STAGING lease leaves an empty staging area and is answered OK; every accepted FIX set
still pending, the claims of the ledger, every byte of shared SRAM and the registers of CONV to SAFE are as before.
(R436) -/
def Obligations.CfgDiscardEmptiesStaging : Prop :=
  ∀ (s : State) (p : Packet), s.takes 0x0103 p true → (s.taken 0x0103 p).leaseCheck 1 0 p = none → p.payload = [] →
    ∃ u t : State, exec (.cfgDiscard p) s = .next t ∧ t = u.finish 0x0103 p .ok [] ∧ t.staging = [] ∧ t.fixes = s.fixes ∧
      t.ledger = s.ledger ∧ (∀ a, t.rdByte a = s.rdByte a) ∧ ∀ a, 0x10010000 ≤ a → a < 0x10090000 → t.rd a = s.rd a

/-- A reset returns every register outside the vault to its reset value. When a reset is asserted every register outside
the vault domain reads its reset value, and every register of the vault domain but SYS_RESET_CAUSE, which records
the cause, reads what it did; no session is open, no lease is held, every ring, the staging area, the ledger and the
shared SRAM are empty, the LOCKOUT causes the vault holds are kept, SAFE_STATUS keeps its two LOCKOUT bits, and
start-up begins again. A register marked U returns to 0, the choice of log entry 2; SEC_STATUS, HOST_STATUS and the
rest of SAFE_STATUS, whose fields the module restores from the vault, are left out. (R10, R310, R530) -/
def Obligations.ResetReturnsEveryRegister : Prop :=
  ∀ (s : State) (c : Nat), s.sys.low = some c → (c = 2 → s.sys.ended = true) →
    ∃ t : State, exec .resetAssert s = .next t ∧
      (∀ a, isVault a = false → a ≠ Reg.secStatus → a ≠ Reg.hostStatus → a ≠ Reg.safeStatus →
          t.rd a = State.reset.rd a) ∧
      (t.bit Reg.safeStatus 4 = s.bit Reg.safeStatus 4 ∧ t.bit Reg.safeStatus 5 = s.bit Reg.safeStatus 5) ∧
      (∀ a, isVault a = true → a ≠ Reg.sysResetCause → a ≠ Reg.secStatus → t.rd a = s.rd a) ∧
      (∀ n, t.isOpen n = false) ∧ (∀ i < 256, t.leaseKind i = 0) ∧ (∀ r, (t.ring r).units = []) ∧
      t.staging = [] ∧ t.ledger = [] ∧ t.mem = [] ∧ t.safe.causes = s.safe.causes ∧ t.fld Reg.sysBoot 0 5 = 0

/-- A reset records its cause, and of two the lower. When a reset with cause c is asserted, SYS_RESET_CAUSE, which the
reset keeps, records c in its cause field and the cause before in the next, and its count rises by one up to its
largest value. Where a cause is already due, a rail out of its window and a loss of REFCLK leave the lower code due.
(R528) -/
def Obligations.ResetRecordsItsCause : Prop :=
  (∀ (s : State) (c : Nat), s.sys.low = some c → (c = 2 → s.sys.ended = true) → c < 256 →
      ∃ t : State, exec .resetAssert s = .next t ∧ t.fld Reg.sysResetCause 0 8 = c ∧
        t.fld Reg.sysResetCause 8 8 = s.fld Reg.sysResetCause 0 8 ∧
        t.fld Reg.sysResetCause 16 16 = min 0xFFFF (s.fld Reg.sysResetCause 16 16 + 1))
    ∧ (∀ (s : State) (d : Nat), s.sys.due = some d →
      (∃ t : State, exec .railOutOfWindow s = .next t ∧ t.sys.due = some (min 3 d)) ∧
      (∃ t : State, exec .refclkLost s = .next t ∧ t.sys.due = some (min 4 d)))

/-- A cause that arises while LOCKOUT is latched is added to the set. While LOCKOUT stands at the processor, an
overcurrent of a safe output adds cause 0x03 with that output, and a failed lattice test adds cause 0x07, to the set
of causes, where it is not recorded yet, and sets its bit in SAFE_CAUSE; the first cause, the count of latches and
every byte of shared SRAM are as before. (R292, R302, R309) -/
def Obligations.CauseAddedToStandingLockout : Prop :=
  ∀ (s : State), s.procLatched = true → s.procOk = true →
    (∀ n < 8, s.bit Reg.safeOutState (24 + n) = false → (3, n) ∉ s.safe.causes →
      ∃ t : State, exec (.soutOvercurrent n) s = .next t ∧ t.safe.causes = s.safe.causes ++ [(3, n)] ∧
        t.bit Reg.safeCause 18 = true ∧ t.fld Reg.safeCause 0 16 = s.fld Reg.safeCause 0 16 ∧
        t.bit Reg.safeOutState n = false ∧ t.bit Reg.safeOutState (24 + n) = true ∧
        t.rd Reg.safeLockoutCount = s.rd Reg.safeLockoutCount ∧ ∀ a, t.rdByte a = s.rdByte a) ∧
    (10 ≤ s.safe.diag.busLow → testAge < s.safe.diag.testTick → (7, 0) ∉ s.safe.causes →
      ∃ t : State, exec (.latticeTest false) s = .next t ∧ t.safe.causes = s.safe.causes ++ [(7, 0)] ∧
        t.bit Reg.safeCause 22 = true ∧ t.fld Reg.safeCause 0 16 = s.fld Reg.safeCause 0 16 ∧
        t.rd Reg.safeLockoutCount = s.rd Reg.safeLockoutCount ∧ ∀ a, t.rdByte a = s.rdByte a)

/-- A BAR2 write of shared SRAM stores its word, little-endian, and nothing else. Outside CERT_MODE a BAR2 write of a
word-aligned address of shared SRAM on an unmarked page completes; the four bytes from that address read the bytes
of the word, the least significant first; every other byte, every register and every waiting command are as before.
A BAR2 write of a marked page, or of a register, leaves every byte of shared SRAM as before. (R5, R21, R419) -/
def Obligations.Bar2WriteStoresItsWord : Prop :=
  (∀ (s : State) (a : Nat) (v : Word), s.certMode = false → a < memSize → a % 4 = 0 →
      s.pageMarked a = false →
      ∃ t : State, exec (.bar2Write a v) s = .next t ∧ (∀ i < 4, t.rdByte (a + i) = BitVec.ofNat 8 (v.toNat / 2 ^ (8 * i))) ∧
        (∀ b, b < a ∨ a + 4 ≤ b → t.rdByte b = s.rdByte b) ∧ t.regs = s.regs ∧ t.pending = s.pending)
    ∧ (∀ (s : State) (a : Nat) (v : Word), s.certMode = false → a < memSize → s.pageMarked a = true →
      ∃ t : State, exec (.bar2Write a v) s = .next t ∧ (∀ b, t.rdByte b = s.rdByte b) ∧ t.regs = s.regs)
    ∧ (∀ (s : State) (a : Nat) (v : Word), inBlocks a = true →
      ∃ t : State, exec (.bar2Write a v) s = .next t ∧ (∀ b, t.rdByte b = s.rdByte b) ∧
        t.fld Reg.hostBar2Discard 0 16 = min 0xFFFF (s.fld Reg.hostBar2Discard 0 16 + 1))

/-- MEM_WRITE of one word stores it where the mapping of its context says. A MEM_WRITE packet of one word that is taken,
and whose address the context of its session maps to the unmarked device address d with write permission, is
answered OK; the four bytes from d read the bytes of the word, the least significant first; every other byte of
shared SRAM, the staging area, the ledger, and the registers of CONV to SAFE are as before. (R5, R373, R374, R432) -/
def Obligations.MemWriteStoresThroughItsMapping : Prop :=
  ∀ (s u : State) (p : Packet) (d k : Nat) (v : Word), s.takes 0x0501 p true → u = s.taken 0x0501 p (.host [] k) →
  p.payload.length = 8 →
    leAt p.payload 0 4 % 4 = 0 → v = word (leAt p.payload 4 4) →
    u.place p.session (leAt p.payload 0 4) = .sram d true →
    u.pageMarked d = false →
    ∃ w t : State, exec (.memWrite p k) s = .next t ∧ t = w.finish 0x0501 p .ok [] ∧
      (∀ i < 4, t.rdByte (d + i) = BitVec.ofNat 8 (v.toNat / 2 ^ (8 * i))) ∧
      (∀ b, b < d ∨ d + 4 ≤ b → t.rdByte b = s.rdByte b) ∧ t.staging = s.staging ∧ t.ledger = s.ledger ∧
      ∀ a, 0x10010000 ≤ a → a < 0x10090000 → t.rd a = s.rd a

/-- After MEM_UNMAP an access to the range is a translation fault. MEM_UNMAP of exactly one or more whole mappings of
the context is answered OK; from then on every access of that session to an address of shared SRAM in the range is a
translation fault of reason 0, and every other mapping of any context stands. A range that is not exactly whole
mappings is refused with OUT_OF_RANGE and no mapping changes. (R375, R376) -/
def Obligations.UnmappedRangeFaults : Prop :=
  ∀ (s u : State) (p : Packet) (va n : Nat) (ms : List Mapping), s.takes 0x0503 p true → u = s.taken 0x0503 p →
    p.payload.length = 8 → p.session < 128 → va = leAt p.payload 0 4 → n = leAt p.payload 4 4 →
    ms = u.memx.maps.filter (fun m => m.ctx == p.session && overlaps va n m.vaddr m.size) →
    (ms ≠ [] → (∀ m ∈ ms, va ≤ m.vaddr ∧ m.vaddr + m.size ≤ va + n) → ms.foldl (fun a m => a + m.size) 0 = n →
      ∃ w t : State, exec (.memUnmap p) s = .next t ∧ t = w.finish 0x0503 p .ok [] ∧
        (∀ a b, va ≤ a → a < va + n → a < memSize → t.wordFault p.session a b = some (.translation 0)) ∧
        (∀ m, m ∈ t.memx.maps ↔ m ∈ s.memx.maps ∧ m ∉ ms)) ∧
    ((ms = [] ∨ (∃ m ∈ ms, m.vaddr < va ∨ va + n < m.vaddr + m.size) ∨ ms.foldl (fun a m => a + m.size) 0 ≠ n) →
      ∃ t : State, exec (.memUnmap p) s = .next t ∧ t = u.finish 0x0503 p .outOfRange [] ∧ t.memx.maps = s.memx.maps)

/-- The opcodes that only read leave the machine alone. When SESSION_INFO, SHUTTER_STATUS, STATUS_READ, COUNTER_READ,
FAB_STATUS, IMAGE_STATUS, AUDIT_READ, SAFE_STATUS or SAFE_PARAM_READ is taken and answers, every byte of shared
SRAM, the staging area, the accepted FIX sets, the ledger, the inner state of the lanes, the mode machines, the PWM
generators, the gate channels and SAFE, and every register of CONV to SAFE are as before. (R316, R404, R439, R507,
R544, R553, R562, R567) -/
def Obligations.ReadingOpcodesChangeNothingElse : Prop :=
  ∀ (s t : State) (p : Packet) (op : Nat) (c : Instr), (op, c) ∈ [(0x0004, .sessionInfo p), (0x0404, .shutterStatus p),
      (0x0600, .statusRead p), (0x0603, .counterRead p), (0x0700, .fabStatus p), (0x0803, .imageStatus p),
      (0x0804, .auditRead p), (0x0900, .safeStatus p), (0x0901, .safeParamRead p)] →
    s.takes op p true → exec c s = .next t →
    (∀ a, t.rdByte a = s.rdByte a) ∧ t.staging = s.staging ∧ t.fixes = s.fixes ∧ t.ledger = s.ledger ∧ t.lane = s.lane ∧
      t.modes = s.modes ∧ t.pwm = s.pwm ∧ t.gate = s.gate ∧ t.safe = s.safe ∧
      ∀ a, 0x10010000 ≤ a → a < 0x10090000 → t.rd a = s.rd a

/-- A packet that is resent unchanged gets the same reply again and is not executed. Once the command of a taken packet
has given its final reply, the same packet arriving again is judged a resend, whatever the opcode, the status and
the payload of the reply: DUPLICATE_PACKET answers with that very reply and changes nothing else. (R415, R425) -/
def Obligations.ResentPacketIsNotExecutedAgain : Prop :=
  ∀ (s u t : State) (op : Nat) (p : Packet) (aid : Aid) (st : Status) (payload : List Byte), s.takes op p true →
    p.session < 128 → p.seq < 256 → u = s.taken op p aid → t = u.finish op p st payload →
    ∃ r : Reply, r.status = st.code ∧ r.payload = payload ∧ r.session = p.session ∧ r.seq = p.seq ∧
      t.keptReply p.session p.seq = some r ∧
      (t.serves p.chan = true → t.commandFull p.chan = false → exec (.duplicatePacket op p) t = .next (t.emit r))

/-- A packet refused before step 6 does not consume its seq. A packet that fails at steps 1 to 5 of R415 leaves every
session's expected seq, command counter, history and role as they were, and every lease, the staging area, the
ledger and every byte of shared SRAM. (R415, R425) -/
def Obligations.RefusedPacketKeepsItsSeq : Prop :=
  ∀ (s t : State) (k op : Nat) (p : Packet), 1 ≤ k → k ≤ 5 → exec (.invalidPacket k op p) s = .next t →
    (k = 4 ∨ k = 5 → ∀ payload b, s.judge op p ≠ .refuse .authFailed payload b) →
    t.sessions = s.sessions ∧ (∀ n < 128, t.rd (Reg.hostSess n) = s.rd (Reg.hostSess n)) ∧
      (∀ i < 256, t.leaseKind i = s.leaseKind i) ∧ t.staging = s.staging ∧ t.ledger = s.ledger ∧
      ∀ a, t.rdByte a = s.rdByte a

/-- The module tick counts at MODULE_TICK alone. For every command and state, the next state holds the same number of
module ticks, but that MODULE_TICK counts one, and that a reset starts it from 0. (R530, R593) -/
def Obligations.OnlyModuleTicksMoveTheTick : Prop :=
  ∀ (c : Instr) (s t : State), exec c s = .next t →
    t.tick = s.tick ∨ (t.tick = s.tick + 1 ∧ ∃ vsys vin temp, c = .moduleTick vsys vin temp) ∨
      (t.tick = 0 ∧ c = .resetAssert)

/-- A contact sheet copies every counter and every fault statistic at once. A firing of comparator cs_cmp with cs_trig
takes a sheet: every snapshot register reads what its counter read, every fault snapshot what its fault statistic
read, and PERF_CS_SEQ is one more; every byte of shared SRAM is as before. (R568) -/
def Obligations.ContactSheetCopiesEveryCounter : Prop :=
  ∀ s : State, s.perf.sheet = true →
    ∃ t : State, exec (.contactSheet none) s = .next t ∧
      (∀ k < 32, t.rd (Reg.perfCntSnap k) = s.rd (Reg.perfCntVal k)) ∧
      (∀ n, 1 ≤ n → n ≤ 17 → t.rd (Reg.perfFsnap n) = s.rd (Reg.perfFstat n)) ∧
      t.fld Reg.perfCsSeq 0 32 = (s.fld Reg.perfCsSeq 0 32 + 1) % 2 ^ 32 ∧ ∀ a, t.rdByte a = s.rdByte a
end

