-- ==== Sys2Proof/Laws/Bits.lean ====
section
/-! SUPPORT. Laws of bit fields: what a field reads after it, or another field, is written. -/

namespace Sys2Proof.Machine

theorem putFld_lt (w : Word) {lo n : Nat} (v : Nat) (h : lo + n ≤ 32) :
    w.toNat % 2 ^ lo + (v % 2 ^ n) * 2 ^ lo + (w.toNat / 2 ^ (lo + n)) * 2 ^ (lo + n) < 2 ^ 32 := by
  have hw : w.toNat < 2 ^ 32 := w.isLt
  have h1 : w.toNat % 2 ^ lo < 2 ^ lo := Nat.mod_lt _ (by positivity)
  have h2 : v % 2 ^ n < 2 ^ n := Nat.mod_lt _ (by positivity)
  have h3 : w.toNat / 2 ^ (lo + n) < 2 ^ (32 - (lo + n)) := by
    rw [Nat.div_lt_iff_lt_mul (by positivity), ← pow_add]
    rwa [Nat.sub_add_cancel h]
  have h4 : w.toNat % 2 ^ lo + (v % 2 ^ n) * 2 ^ lo < 2 ^ (lo + n) := by
    calc w.toNat % 2 ^ lo + (v % 2 ^ n) * 2 ^ lo < 2 ^ lo + (v % 2 ^ n) * 2 ^ lo := by omega
      _ = (v % 2 ^ n + 1) * 2 ^ lo := by ring
      _ ≤ 2 ^ n * 2 ^ lo := Nat.mul_le_mul_right _ h2
      _ = 2 ^ (lo + n) := by rw [← pow_add, Nat.add_comm]
  calc _ < 2 ^ (lo + n) + (w.toNat / 2 ^ (lo + n)) * 2 ^ (lo + n) := by omega
    _ = (w.toNat / 2 ^ (lo + n) + 1) * 2 ^ (lo + n) := by ring
    _ ≤ 2 ^ (32 - (lo + n)) * 2 ^ (lo + n) := Nat.mul_le_mul_right _ h3
    _ = 2 ^ 32 := by rw [← pow_add, Nat.sub_add_cancel h]

theorem putFld_toNat (w : Word) {lo n : Nat} (v : Nat) (h : lo + n ≤ 32) :
    (putFld w lo n v).toNat
      = w.toNat % 2 ^ lo + (v % 2 ^ n) * 2 ^ lo + (w.toNat / 2 ^ (lo + n)) * 2 ^ (lo + n) := by
  rw [putFld, BitVec.toNat_ofNat, Nat.mod_eq_of_lt (putFld_lt w v h)]

/-- A field reads what has been written to it. -/
theorem field_putFld_same (w : Word) {lo n : Nat} (v : Nat) (h : lo + n ≤ 32) :
    field (putFld w lo n v) lo n = v % 2 ^ n := by
  rw [field, putFld_toNat w v h]
  have h1 : w.toNat % 2 ^ lo < 2 ^ lo := Nat.mod_lt _ (by positivity)
  have : w.toNat % 2 ^ lo + v % 2 ^ n * 2 ^ lo + w.toNat / 2 ^ (lo + n) * 2 ^ (lo + n)
      = w.toNat % 2 ^ lo + 2 ^ lo * (v % 2 ^ n + 2 ^ n * (w.toNat / 2 ^ (lo + n))) := by rw [pow_add]; ring
  rw [this, Nat.add_mul_div_left _ _ (by positivity), Nat.div_eq_of_lt h1, Nat.zero_add, Nat.add_mul_mod_self_left,
    Nat.mod_mod]

/-- A field below a written one keeps its value. -/
theorem field_putFld_below (w : Word) {lo n lo' n' : Nat} (v : Nat) (h : lo + n ≤ 32) (hd : lo' + n' ≤ lo) :
    field (putFld w lo n v) lo' n' = field w lo' n' := by
  rw [field, field, putFld_toNat w v h]
  obtain ⟨k, rfl⟩ : ∃ k, lo = lo' + n' + k := ⟨lo - (lo' + n'), by omega⟩
  have e : w.toNat % 2 ^ (lo' + n' + k) + v % 2 ^ n * 2 ^ (lo' + n' + k)
      + w.toNat / 2 ^ (lo' + n' + k + n) * 2 ^ (lo' + n' + k + n)
      = w.toNat % 2 ^ (lo' + n' + k)
        + 2 ^ lo' * (2 ^ n' * (2 ^ k * (v % 2 ^ n + 2 ^ n * (w.toNat / 2 ^ (lo' + n' + k + n))))) := by
    rw [pow_add _ _ n, pow_add _ _ k, pow_add]; ring
  have e2 : w.toNat = w.toNat % 2 ^ (lo' + n' + k) + 2 ^ lo' * (2 ^ n' * (2 ^ k * (w.toNat / 2 ^ (lo' + n' + k)))) := by
    conv_lhs => rw [← Nat.mod_add_div w.toNat (2 ^ (lo' + n' + k))]
    rw [pow_add _ _ k, pow_add]; ring
  rw [e, Nat.add_mul_div_left _ _ (by positivity), Nat.add_mul_mod_self_left]
  conv_rhs => rw [e2, Nat.add_mul_div_left _ _ (by positivity), Nat.add_mul_mod_self_left]

/-- A field above a written one keeps its value. -/
theorem field_putFld_above (w : Word) {lo n lo' n' : Nat} (v : Nat) (h : lo + n ≤ 32) (hd : lo + n ≤ lo') :
    field (putFld w lo n v) lo' n' = field w lo' n' := by
  rw [field, field, putFld_toNat w v h]
  obtain ⟨k, rfl⟩ : ∃ k, lo' = lo + n + k := ⟨lo' - (lo + n), by omega⟩
  have h1 : w.toNat % 2 ^ lo < 2 ^ lo := Nat.mod_lt _ (by positivity)
  have h2 : v % 2 ^ n < 2 ^ n := Nat.mod_lt _ (by positivity)
  have h4 : w.toNat % 2 ^ lo + (v % 2 ^ n) * 2 ^ lo < 2 ^ (lo + n) := by
    calc w.toNat % 2 ^ lo + (v % 2 ^ n) * 2 ^ lo < 2 ^ lo + (v % 2 ^ n) * 2 ^ lo := by omega
      _ = (v % 2 ^ n + 1) * 2 ^ lo := by ring
      _ ≤ 2 ^ n * 2 ^ lo := Nat.mul_le_mul_right _ h2
      _ = 2 ^ (lo + n) := by rw [← pow_add, Nat.add_comm]
  rw [pow_add _ (lo + n) k, ← Nat.div_div_eq_div_mul, Nat.add_mul_div_right _ _ (by positivity), Nat.div_eq_of_lt h4,
    Nat.zero_add, Nat.div_div_eq_div_mul, ← pow_add]

/-- Fields that share no bit. -/
theorem field_putFld_apart (w : Word) {lo n lo' n' : Nat} (v : Nat) (h : lo + n ≤ 32) (hd : lo' + n' ≤ lo ∨ lo + n ≤ lo') :
    field (putFld w lo n v) lo' n' = field w lo' n' :=
  hd.elim (field_putFld_below w v h) (field_putFld_above w v h)

theorem field_lt (w : Word) (lo n : Nat) : field w lo n < 2 ^ n := Nat.mod_lt _ (by positivity)

end Sys2Proof.Machine
end

