-- ==== Sys2Proof/Laws/Sparse.lean ====
section
/-! SUPPORT. Laws of the sparse tables: a read after a write, and the canonical form. -/

namespace Sys2Proof.Machine

variable {α : Type}

theorem sparseGet_erase_same (d : Nat → α) (l : List (Nat × α)) (k : Nat) : sparseGet d (sparseErase l k) k = d k := by
  induction l with
  | nil => rfl
  | cons e l ih =>
    obtain ⟨j, v⟩ := e
    by_cases h : j = k
    · simpa [sparseErase, h] using ih
    · have : sparseErase ((j, v) :: l) k = (j, v) :: sparseErase l k := by simp [sparseErase, h]
      rw [this, sparseGet, if_neg h, ih]

theorem sparseGet_erase_ne (d : Nat → α) (l : List (Nat × α)) {j k : Nat} (h : j ≠ k) :
    sparseGet d (sparseErase l k) j = sparseGet d l j := by
  induction l with
  | nil => rfl
  | cons e l ih =>
    obtain ⟨i, v⟩ := e
    by_cases hi : i = k
    · have : sparseErase ((i, v) :: l) k = sparseErase l k := by simp [sparseErase, hi]
      rw [this, ih, sparseGet, if_neg (by omega)]
    · have : sparseErase ((i, v) :: l) k = (i, v) :: sparseErase l k := by simp [sparseErase, hi]
      rw [this, sparseGet, sparseGet, ih]

theorem sparseGet_put_same (d : Nat → α) (l : List (Nat × α)) (k : Nat) (v : α) :
    sparseGet d (sparsePut l k v) k = v := by
  induction l with
  | nil => simp [sparsePut, sparseGet]
  | cons e l ih =>
    obtain ⟨j, w⟩ := e
    unfold sparsePut
    split
    · simp [sparseGet]
    · split
      · simp [sparseGet]
      · rename_i _ h
        rw [sparseGet, if_neg h, ih]

theorem sparseGet_put_ne (d : Nat → α) (l : List (Nat × α)) {j k : Nat} (v : α) (h : j ≠ k) :
    sparseGet d (sparsePut l k v) j = sparseGet d l j := by
  induction l with
  | nil => simp [sparsePut, sparseGet, Ne.symm h]
  | cons e l ih =>
    obtain ⟨i, w⟩ := e
    unfold sparsePut
    split
    · simp [sparseGet, Ne.symm h]
    · split
      · rename_i hi
        simp [sparseGet, hi, Ne.symm h]
      · rw [sparseGet, sparseGet, ih]

variable [DecidableEq α]

/-- A read after a write to the same key gives the value written. -/
theorem sparseGet_set_same (d : Nat → α) (l : List (Nat × α)) (k : Nat) (v : α) :
    sparseGet d (sparseSet d l k v) k = v := by
  unfold sparseSet
  split
  · rename_i h
    rw [sparseGet_erase_same, h]
  · exact sparseGet_put_same d l k v

/-- A write leaves every other key alone. -/
theorem sparseGet_set_ne (d : Nat → α) (l : List (Nat × α)) {j k : Nat} (v : α) (h : j ≠ k) :
    sparseGet d (sparseSet d l k v) j = sparseGet d l j := by
  unfold sparseSet
  split
  · exact sparseGet_erase_ne d l h
  · exact sparseGet_put_ne d l v h

theorem sparseWfFrom_mono {d : Nat → α} {l : List (Nat × α)} {a b : Nat} (hab : a ≤ b) (h : sparseWfFrom d b l = true) :
    sparseWfFrom d a l = true := by
  cases l with
  | nil => rfl
  | cons e l =>
    simp only [sparseWfFrom, Bool.and_eq_true, decide_eq_true_eq] at h ⊢
    exact ⟨⟨by omega, h.1.2⟩, h.2⟩

/-- Leaving entries out keeps the canonical form. -/
theorem sparseWfFrom_filter {d : Nat → α} (p : Nat × α → Bool) {l : List (Nat × α)} {b : Nat}
    (h : sparseWfFrom d b l = true) : sparseWfFrom d b (l.filter p) = true := by
  induction l generalizing b with
  | nil => rfl
  | cons e l ih =>
    simp only [sparseWfFrom, Bool.and_eq_true, decide_eq_true_eq] at h
    rw [List.filter_cons]
    split
    · simp only [sparseWfFrom, Bool.and_eq_true, decide_eq_true_eq]
      exact ⟨h.1, ih h.2⟩
    · exact sparseWfFrom_mono (by omega) (ih h.2)

theorem sparseWf_filter {d : Nat → α} (p : Nat × α → Bool) {l : List (Nat × α)} (h : sparseWf d l = true) :
    sparseWf d (l.filter p) = true := sparseWfFrom_filter p h

theorem sparseWfFrom_put {d : Nat → α} {l : List (Nat × α)} {b k : Nat} {v : α} (hb : b ≤ k) (hv : v ≠ d k)
    (h : sparseWfFrom d b l = true) : sparseWfFrom d b (sparsePut l k v) = true := by
  induction l generalizing b with
  | nil => simp [sparsePut, sparseWfFrom, hb, hv]
  | cons e l ih =>
    obtain ⟨j, w⟩ := e
    simp only [sparseWfFrom, Bool.and_eq_true, decide_eq_true_eq] at h
    unfold sparsePut
    split
    · rename_i hk
      simp only [sparseWfFrom, Bool.and_eq_true, decide_eq_true_eq]
      exact ⟨⟨hb, hv⟩, ⟨by omega, h.1.2⟩, h.2⟩
    · split
      · rename_i _ hj
        subst hj
        simp only [sparseWfFrom, Bool.and_eq_true, decide_eq_true_eq]
        exact ⟨⟨hb, hv⟩, h.2⟩
      · simp only [sparseWfFrom, Bool.and_eq_true, decide_eq_true_eq]
        exact ⟨h.1, ih (by omega) h.2⟩

/-- A write keeps the canonical form. -/
theorem sparseWf_set {d : Nat → α} {l : List (Nat × α)} (k : Nat) (v : α) (h : sparseWf d l = true) :
    sparseWf d (sparseSet d l k v) = true := by
  unfold sparseSet
  split
  · exact sparseWfFrom_filter _ h
  · rename_i hv
    exact sparseWfFrom_put (Nat.zero_le _) hv h

end Sys2Proof.Machine
end

