-- ==== Sys2Proof/Laws/State.lean ====
section
/-! SUPPORT. Laws of the plainest updates of the state: what a register reads after a write, and every other field of the
state after each update. -/

namespace Sys2Proof.Machine

/-! ### Registers -/

@[simp] theorem State.rd_wr_same (s : State) (a : Nat) (v : Word) : (s.wr a v).rd a = v :=
  sparseGet_set_same resetValue s.regs a v

theorem State.rd_wr_ne (s : State) {a b : Nat} (v : Word) (h : b ≠ a) : (s.wr a v).rd b = s.rd b :=
  sparseGet_set_ne resetValue s.regs v h

theorem State.rd_put_ne (s : State) {a b : Nat} (lo n v : Nat) (h : b ≠ a) : (s.put a lo n v).rd b = s.rd b :=
  s.rd_wr_ne _ h

theorem State.rd_setBit_ne (s : State) {a b : Nat} (i : Nat) (v : Bool) (h : b ≠ a) : (s.setBit a i v).rd b = s.rd b :=
  s.rd_wr_ne _ h

theorem State.rd_countUp_ne (s : State) {a b : Nat} (lo n k : Nat) (h : b ≠ a) : (s.countUp a lo n k).rd b = s.rd b :=
  s.rd_wr_ne _ h

theorem State.rd_countWrap_ne (s : State) {a b : Nat} (lo n k : Nat) (h : b ≠ a) : (s.countWrap a lo n k).rd b = s.rd b :=
  s.rd_wr_ne _ h

theorem State.fld_put_same (s : State) (a : Nat) {lo n : Nat} (v : Nat) (h : lo + n ≤ 32) :
    (s.put a lo n v).fld a lo n = v % 2 ^ n := by
  rw [State.fld, State.put, State.rd_wr_same, field_putFld_same _ _ h]

theorem State.fld_put_apart (s : State) (a : Nat) {lo n lo' n' : Nat} (v : Nat) (h : lo + n ≤ 32)
    (hd : lo' + n' ≤ lo ∨ lo + n ≤ lo') : (s.put a lo n v).fld a lo' n' = s.fld a lo' n' := by
  rw [State.fld, State.put, State.rd_wr_same, field_putFld_apart _ _ h hd, State.fld]

theorem State.fld_put_ne (s : State) {a b : Nat} (lo n v lo' n' : Nat) (h : b ≠ a) :
    (s.put a lo n v).fld b lo' n' = s.fld b lo' n' := by rw [State.fld, State.rd_put_ne _ _ _ _ h, State.fld]

theorem State.bit_setBit_same (s : State) (a : Nat) {i : Nat} (b : Bool) (h : i < 32) :
    (s.setBit a i b).bit a i = b := by
  rw [State.bit, State.setBit, State.fld_put_same _ _ _ (by omega)]
  cases b <;> simp [bitNat]

theorem State.bit_setBit_apart (s : State) (a : Nat) {i j : Nat} (b : Bool) (h : i < 32) (hd : j ≠ i) :
    (s.setBit a i b).bit a j = s.bit a j := by
  rw [State.bit, State.setBit, State.fld_put_apart _ _ _ (by omega) (by omega), State.bit]

theorem State.bit_setBit_ne (s : State) {a c : Nat} (i j : Nat) (b : Bool) (h : c ≠ a) :
    (s.setBit a i b).bit c j = s.bit c j := by
  rw [State.bit, State.setBit, State.fld_put_ne _ _ _ _ _ _ h, State.bit]

/-- A bit of a bank reads what has been written to it. -/
theorem State.bankBit_set_same (s : State) (a i : Nat) (b : Bool) : (s.setBankBit a i b).bankBit a i = b :=
  s.bit_setBit_same _ b (Nat.mod_lt _ (by decide))

/-- The other bits of a bank keep their values. -/
theorem State.bankBit_set_other (s : State) (a : Nat) {i j : Nat} (b : Bool) (h : j ≠ i) :
    (s.setBankBit a i b).bankBit a j = s.bankBit a j := by
  unfold State.setBankBit State.bankBit
  by_cases hw : j / 32 = i / 32
  · rw [hw]
    exact s.bit_setBit_apart _ b (Nat.mod_lt _ (by decide)) (by omega)
  · exact s.bit_setBit_ne _ _ b (by omega)

/-! ### Shared SRAM -/

@[simp] theorem State.rdByte_wrByte_same (s : State) (a : Nat) (b : Byte) : (s.wrByte a b).rdByte a = b :=
  sparseGet_set_same memDefault s.mem a b

theorem State.rdByte_wrByte_ne (s : State) {a c : Nat} (b : Byte) (h : c ≠ a) : (s.wrByte a b).rdByte c = s.rdByte c :=
  sparseGet_set_ne memDefault s.mem b h

/-- Bytes outside a stored run keep their values. -/
theorem State.rdByte_wrBytes_ne (s : State) (a : Nat) (bs : List Byte) {c : Nat} (h : c < a ∨ a + bs.length ≤ c) :
    (s.wrBytes a bs).rdByte c = s.rdByte c := by
  induction bs generalizing s a with
  | nil => rfl
  | cons b bs ih =>
    simp only [List.length_cons] at h
    rw [State.wrBytes, ih _ _ (by omega), State.rdByte_wrByte_ne _ _ (by omega)]

theorem State.wrByte_wf (s : State) (a : Nat) (b : Byte) (h : Memory.wf s.mem = true) : Memory.wf (s.wrByte a b).mem = true :=
  sparseWf_set a b h

theorem State.wrBytes_wf (s : State) (a : Nat) (bs : List Byte) (h : Memory.wf s.mem = true) :
    Memory.wf (s.wrBytes a bs).mem = true := by
  induction bs generalizing s a with
  | nil => exact h
  | cons b bs ih => exact ih _ _ (s.wrByte_wf a b h)

/-! ### Every other field -/

@[simp] theorem State.wr_mem (s : State) (a : Nat) (v : Word) : (s.wr a v).mem = s.mem := rfl
@[simp] theorem State.wr_pending (s : State) (a : Nat) (v : Word) : (s.wr a v).pending = s.pending := rfl
@[simp] theorem State.wr_fresh (s : State) (a : Nat) (v : Word) : (s.wr a v).fresh = s.fresh := rfl
@[simp] theorem State.wr_tick (s : State) (a : Nat) (v : Word) : (s.wr a v).tick = s.tick := rfl
@[simp] theorem State.wr_rings (s : State) (a : Nat) (v : Word) : (s.wr a v).rings = s.rings := rfl
@[simp] theorem State.wr_evq (s : State) (a : Nat) (v : Word) : (s.wr a v).evq = s.evq := rfl
@[simp] theorem State.wr_evLost (s : State) (a : Nat) (v : Word) : (s.wr a v).evLost = s.evLost := rfl
@[simp] theorem State.wr_ledger (s : State) (a : Nat) (v : Word) : (s.wr a v).ledger = s.ledger := rfl
@[simp] theorem State.wr_staging (s : State) (a : Nat) (v : Word) : (s.wr a v).staging = s.staging := rfl
@[simp] theorem State.wr_fixes (s : State) (a : Nat) (v : Word) : (s.wr a v).fixes = s.fixes := rfl
@[simp] theorem State.wr_sessions (s : State) (a : Nat) (v : Word) : (s.wr a v).sessions = s.sessions := rfl
@[simp] theorem State.wr_leaseDur (s : State) (a : Nat) (v : Word) : (s.wr a v).leaseDur = s.leaseDur := rfl
@[simp] theorem State.wr_leaseLast (s : State) (a : Nat) (v : Word) : (s.wr a v).leaseLast = s.leaseLast := rfl
@[simp] theorem State.wr_inflight (s : State) (a : Nat) (v : Word) : (s.wr a v).inflight = s.inflight := rfl
@[simp] theorem State.wr_replies (s : State) (a : Nat) (v : Word) : (s.wr a v).replies = s.replies := rfl
@[simp] theorem State.wr_conv (s : State) (a : Nat) (v : Word) : (s.wr a v).conv = s.conv := rfl
@[simp] theorem State.wr_pwm (s : State) (a : Nat) (v : Word) : (s.wr a v).pwm = s.pwm := rfl
@[simp] theorem State.wr_gate (s : State) (a : Nat) (v : Word) : (s.wr a v).gate = s.gate := rfl
@[simp] theorem State.wr_perf (s : State) (a : Nat) (v : Word) : (s.wr a v).perf = s.perf := rfl
@[simp] theorem State.wr_memx (s : State) (a : Nat) (v : Word) : (s.wr a v).memx = s.memx := rfl
@[simp] theorem State.wr_safe (s : State) (a : Nat) (v : Word) : (s.wr a v).safe = s.safe := rfl
@[simp] theorem State.wr_modes (s : State) (a : Nat) (v : Word) : (s.wr a v).modes = s.modes := rfl
@[simp] theorem State.wr_lane (s : State) (a : Nat) (v : Word) : (s.wr a v).lane = s.lane := rfl
@[simp] theorem State.wr_red (s : State) (a : Nat) (v : Word) : (s.wr a v).red = s.red := rfl
@[simp] theorem State.wr_sec (s : State) (a : Nat) (v : Word) : (s.wr a v).sec = s.sec := rfl
@[simp] theorem State.wr_cyc (s : State) (a : Nat) (v : Word) : (s.wr a v).cyc = s.cyc := rfl
@[simp] theorem State.wr_fab (s : State) (a : Nat) (v : Word) : (s.wr a v).fab = s.fab := rfl
@[simp] theorem State.wr_shut (s : State) (a : Nat) (v : Word) : (s.wr a v).shut = s.shut := rfl
@[simp] theorem State.wr_net (s : State) (a : Nat) (v : Word) : (s.wr a v).net = s.net := rfl
@[simp] theorem State.wr_sys (s : State) (a : Nat) (v : Word) : (s.wr a v).sys = s.sys := rfl
@[simp] theorem State.wr_sent (s : State) (a : Nat) (v : Word) : (s.wr a v).sent = s.sent := rfl
@[simp] theorem State.wr_busOut (s : State) (a : Nat) (v : Word) : (s.wr a v).busOut = s.busOut := rfl

@[simp] theorem State.put_mem (s : State) (a lo n v : Nat) : (s.put a lo n v).mem = s.mem := rfl
@[simp] theorem State.put_pending (s : State) (a lo n v : Nat) : (s.put a lo n v).pending = s.pending := rfl
@[simp] theorem State.put_fresh (s : State) (a lo n v : Nat) : (s.put a lo n v).fresh = s.fresh := rfl
@[simp] theorem State.put_tick (s : State) (a lo n v : Nat) : (s.put a lo n v).tick = s.tick := rfl
@[simp] theorem State.put_rings (s : State) (a lo n v : Nat) : (s.put a lo n v).rings = s.rings := rfl
@[simp] theorem State.put_evq (s : State) (a lo n v : Nat) : (s.put a lo n v).evq = s.evq := rfl
@[simp] theorem State.put_evLost (s : State) (a lo n v : Nat) : (s.put a lo n v).evLost = s.evLost := rfl
@[simp] theorem State.put_ledger (s : State) (a lo n v : Nat) : (s.put a lo n v).ledger = s.ledger := rfl
@[simp] theorem State.put_staging (s : State) (a lo n v : Nat) : (s.put a lo n v).staging = s.staging := rfl
@[simp] theorem State.put_fixes (s : State) (a lo n v : Nat) : (s.put a lo n v).fixes = s.fixes := rfl
@[simp] theorem State.put_sessions (s : State) (a lo n v : Nat) : (s.put a lo n v).sessions = s.sessions := rfl
@[simp] theorem State.put_leaseDur (s : State) (a lo n v : Nat) : (s.put a lo n v).leaseDur = s.leaseDur := rfl
@[simp] theorem State.put_leaseLast (s : State) (a lo n v : Nat) : (s.put a lo n v).leaseLast = s.leaseLast := rfl
@[simp] theorem State.put_inflight (s : State) (a lo n v : Nat) : (s.put a lo n v).inflight = s.inflight := rfl
@[simp] theorem State.put_replies (s : State) (a lo n v : Nat) : (s.put a lo n v).replies = s.replies := rfl
@[simp] theorem State.put_conv (s : State) (a lo n v : Nat) : (s.put a lo n v).conv = s.conv := rfl
@[simp] theorem State.put_pwm (s : State) (a lo n v : Nat) : (s.put a lo n v).pwm = s.pwm := rfl
@[simp] theorem State.put_gate (s : State) (a lo n v : Nat) : (s.put a lo n v).gate = s.gate := rfl
@[simp] theorem State.put_perf (s : State) (a lo n v : Nat) : (s.put a lo n v).perf = s.perf := rfl
@[simp] theorem State.put_memx (s : State) (a lo n v : Nat) : (s.put a lo n v).memx = s.memx := rfl
@[simp] theorem State.put_safe (s : State) (a lo n v : Nat) : (s.put a lo n v).safe = s.safe := rfl
@[simp] theorem State.put_modes (s : State) (a lo n v : Nat) : (s.put a lo n v).modes = s.modes := rfl
@[simp] theorem State.put_lane (s : State) (a lo n v : Nat) : (s.put a lo n v).lane = s.lane := rfl
@[simp] theorem State.put_red (s : State) (a lo n v : Nat) : (s.put a lo n v).red = s.red := rfl
@[simp] theorem State.put_sec (s : State) (a lo n v : Nat) : (s.put a lo n v).sec = s.sec := rfl
@[simp] theorem State.put_cyc (s : State) (a lo n v : Nat) : (s.put a lo n v).cyc = s.cyc := rfl
@[simp] theorem State.put_fab (s : State) (a lo n v : Nat) : (s.put a lo n v).fab = s.fab := rfl
@[simp] theorem State.put_shut (s : State) (a lo n v : Nat) : (s.put a lo n v).shut = s.shut := rfl
@[simp] theorem State.put_net (s : State) (a lo n v : Nat) : (s.put a lo n v).net = s.net := rfl
@[simp] theorem State.put_sys (s : State) (a lo n v : Nat) : (s.put a lo n v).sys = s.sys := rfl
@[simp] theorem State.put_sent (s : State) (a lo n v : Nat) : (s.put a lo n v).sent = s.sent := rfl
@[simp] theorem State.put_busOut (s : State) (a lo n v : Nat) : (s.put a lo n v).busOut = s.busOut := rfl

@[simp] theorem State.setBit_mem (s : State) (a i : Nat) (b : Bool) : (s.setBit a i b).mem = s.mem := rfl
@[simp] theorem State.setBit_pending (s : State) (a i : Nat) (b : Bool) : (s.setBit a i b).pending = s.pending := rfl
@[simp] theorem State.setBit_fresh (s : State) (a i : Nat) (b : Bool) : (s.setBit a i b).fresh = s.fresh := rfl
@[simp] theorem State.setBit_tick (s : State) (a i : Nat) (b : Bool) : (s.setBit a i b).tick = s.tick := rfl
@[simp] theorem State.setBit_rings (s : State) (a i : Nat) (b : Bool) : (s.setBit a i b).rings = s.rings := rfl
@[simp] theorem State.setBit_evq (s : State) (a i : Nat) (b : Bool) : (s.setBit a i b).evq = s.evq := rfl
@[simp] theorem State.setBit_evLost (s : State) (a i : Nat) (b : Bool) : (s.setBit a i b).evLost = s.evLost := rfl
@[simp] theorem State.setBit_ledger (s : State) (a i : Nat) (b : Bool) : (s.setBit a i b).ledger = s.ledger := rfl
@[simp] theorem State.setBit_staging (s : State) (a i : Nat) (b : Bool) : (s.setBit a i b).staging = s.staging := rfl
@[simp] theorem State.setBit_fixes (s : State) (a i : Nat) (b : Bool) : (s.setBit a i b).fixes = s.fixes := rfl
@[simp] theorem State.setBit_sessions (s : State) (a i : Nat) (b : Bool) : (s.setBit a i b).sessions = s.sessions := rfl
@[simp] theorem State.setBit_leaseDur (s : State) (a i : Nat) (b : Bool) : (s.setBit a i b).leaseDur = s.leaseDur := rfl
@[simp] theorem State.setBit_leaseLast (s : State) (a i : Nat) (b : Bool) : (s.setBit a i b).leaseLast = s.leaseLast := rfl
@[simp] theorem State.setBit_inflight (s : State) (a i : Nat) (b : Bool) : (s.setBit a i b).inflight = s.inflight := rfl
@[simp] theorem State.setBit_replies (s : State) (a i : Nat) (b : Bool) : (s.setBit a i b).replies = s.replies := rfl
@[simp] theorem State.setBit_conv (s : State) (a i : Nat) (b : Bool) : (s.setBit a i b).conv = s.conv := rfl
@[simp] theorem State.setBit_pwm (s : State) (a i : Nat) (b : Bool) : (s.setBit a i b).pwm = s.pwm := rfl
@[simp] theorem State.setBit_gate (s : State) (a i : Nat) (b : Bool) : (s.setBit a i b).gate = s.gate := rfl
@[simp] theorem State.setBit_perf (s : State) (a i : Nat) (b : Bool) : (s.setBit a i b).perf = s.perf := rfl
@[simp] theorem State.setBit_memx (s : State) (a i : Nat) (b : Bool) : (s.setBit a i b).memx = s.memx := rfl
@[simp] theorem State.setBit_safe (s : State) (a i : Nat) (b : Bool) : (s.setBit a i b).safe = s.safe := rfl
@[simp] theorem State.setBit_modes (s : State) (a i : Nat) (b : Bool) : (s.setBit a i b).modes = s.modes := rfl
@[simp] theorem State.setBit_lane (s : State) (a i : Nat) (b : Bool) : (s.setBit a i b).lane = s.lane := rfl
@[simp] theorem State.setBit_red (s : State) (a i : Nat) (b : Bool) : (s.setBit a i b).red = s.red := rfl
@[simp] theorem State.setBit_sec (s : State) (a i : Nat) (b : Bool) : (s.setBit a i b).sec = s.sec := rfl
@[simp] theorem State.setBit_cyc (s : State) (a i : Nat) (b : Bool) : (s.setBit a i b).cyc = s.cyc := rfl
@[simp] theorem State.setBit_fab (s : State) (a i : Nat) (b : Bool) : (s.setBit a i b).fab = s.fab := rfl
@[simp] theorem State.setBit_shut (s : State) (a i : Nat) (b : Bool) : (s.setBit a i b).shut = s.shut := rfl
@[simp] theorem State.setBit_net (s : State) (a i : Nat) (b : Bool) : (s.setBit a i b).net = s.net := rfl
@[simp] theorem State.setBit_sys (s : State) (a i : Nat) (b : Bool) : (s.setBit a i b).sys = s.sys := rfl
@[simp] theorem State.setBit_sent (s : State) (a i : Nat) (b : Bool) : (s.setBit a i b).sent = s.sent := rfl
@[simp] theorem State.setBit_busOut (s : State) (a i : Nat) (b : Bool) : (s.setBit a i b).busOut = s.busOut := rfl

@[simp] theorem State.countUp_mem (s : State) (a lo n k : Nat) : (s.countUp a lo n k).mem = s.mem := rfl
@[simp] theorem State.countUp_pending (s : State) (a lo n k : Nat) : (s.countUp a lo n k).pending = s.pending := rfl
@[simp] theorem State.countUp_fresh (s : State) (a lo n k : Nat) : (s.countUp a lo n k).fresh = s.fresh := rfl
@[simp] theorem State.countUp_tick (s : State) (a lo n k : Nat) : (s.countUp a lo n k).tick = s.tick := rfl
@[simp] theorem State.countUp_rings (s : State) (a lo n k : Nat) : (s.countUp a lo n k).rings = s.rings := rfl
@[simp] theorem State.countUp_evq (s : State) (a lo n k : Nat) : (s.countUp a lo n k).evq = s.evq := rfl
@[simp] theorem State.countUp_evLost (s : State) (a lo n k : Nat) : (s.countUp a lo n k).evLost = s.evLost := rfl
@[simp] theorem State.countUp_ledger (s : State) (a lo n k : Nat) : (s.countUp a lo n k).ledger = s.ledger := rfl
@[simp] theorem State.countUp_staging (s : State) (a lo n k : Nat) : (s.countUp a lo n k).staging = s.staging := rfl
@[simp] theorem State.countUp_fixes (s : State) (a lo n k : Nat) : (s.countUp a lo n k).fixes = s.fixes := rfl
@[simp] theorem State.countUp_sessions (s : State) (a lo n k : Nat) : (s.countUp a lo n k).sessions = s.sessions := rfl
@[simp] theorem State.countUp_leaseDur (s : State) (a lo n k : Nat) : (s.countUp a lo n k).leaseDur = s.leaseDur := rfl
@[simp] theorem State.countUp_leaseLast (s : State) (a lo n k : Nat) : (s.countUp a lo n k).leaseLast = s.leaseLast := rfl
@[simp] theorem State.countUp_inflight (s : State) (a lo n k : Nat) : (s.countUp a lo n k).inflight = s.inflight := rfl
@[simp] theorem State.countUp_replies (s : State) (a lo n k : Nat) : (s.countUp a lo n k).replies = s.replies := rfl
@[simp] theorem State.countUp_conv (s : State) (a lo n k : Nat) : (s.countUp a lo n k).conv = s.conv := rfl
@[simp] theorem State.countUp_pwm (s : State) (a lo n k : Nat) : (s.countUp a lo n k).pwm = s.pwm := rfl
@[simp] theorem State.countUp_gate (s : State) (a lo n k : Nat) : (s.countUp a lo n k).gate = s.gate := rfl
@[simp] theorem State.countUp_perf (s : State) (a lo n k : Nat) : (s.countUp a lo n k).perf = s.perf := rfl
@[simp] theorem State.countUp_memx (s : State) (a lo n k : Nat) : (s.countUp a lo n k).memx = s.memx := rfl
@[simp] theorem State.countUp_safe (s : State) (a lo n k : Nat) : (s.countUp a lo n k).safe = s.safe := rfl
@[simp] theorem State.countUp_modes (s : State) (a lo n k : Nat) : (s.countUp a lo n k).modes = s.modes := rfl
@[simp] theorem State.countUp_lane (s : State) (a lo n k : Nat) : (s.countUp a lo n k).lane = s.lane := rfl
@[simp] theorem State.countUp_red (s : State) (a lo n k : Nat) : (s.countUp a lo n k).red = s.red := rfl
@[simp] theorem State.countUp_sec (s : State) (a lo n k : Nat) : (s.countUp a lo n k).sec = s.sec := rfl
@[simp] theorem State.countUp_cyc (s : State) (a lo n k : Nat) : (s.countUp a lo n k).cyc = s.cyc := rfl
@[simp] theorem State.countUp_fab (s : State) (a lo n k : Nat) : (s.countUp a lo n k).fab = s.fab := rfl
@[simp] theorem State.countUp_shut (s : State) (a lo n k : Nat) : (s.countUp a lo n k).shut = s.shut := rfl
@[simp] theorem State.countUp_net (s : State) (a lo n k : Nat) : (s.countUp a lo n k).net = s.net := rfl
@[simp] theorem State.countUp_sys (s : State) (a lo n k : Nat) : (s.countUp a lo n k).sys = s.sys := rfl
@[simp] theorem State.countUp_sent (s : State) (a lo n k : Nat) : (s.countUp a lo n k).sent = s.sent := rfl
@[simp] theorem State.countUp_busOut (s : State) (a lo n k : Nat) : (s.countUp a lo n k).busOut = s.busOut := rfl

@[simp] theorem State.countWrap_mem (s : State) (a lo n k : Nat) : (s.countWrap a lo n k).mem = s.mem := rfl
@[simp] theorem State.countWrap_pending (s : State) (a lo n k : Nat) : (s.countWrap a lo n k).pending = s.pending := rfl
@[simp] theorem State.countWrap_fresh (s : State) (a lo n k : Nat) : (s.countWrap a lo n k).fresh = s.fresh := rfl
@[simp] theorem State.countWrap_tick (s : State) (a lo n k : Nat) : (s.countWrap a lo n k).tick = s.tick := rfl
@[simp] theorem State.countWrap_rings (s : State) (a lo n k : Nat) : (s.countWrap a lo n k).rings = s.rings := rfl
@[simp] theorem State.countWrap_evq (s : State) (a lo n k : Nat) : (s.countWrap a lo n k).evq = s.evq := rfl
@[simp] theorem State.countWrap_evLost (s : State) (a lo n k : Nat) : (s.countWrap a lo n k).evLost = s.evLost := rfl
@[simp] theorem State.countWrap_ledger (s : State) (a lo n k : Nat) : (s.countWrap a lo n k).ledger = s.ledger := rfl
@[simp] theorem State.countWrap_staging (s : State) (a lo n k : Nat) : (s.countWrap a lo n k).staging = s.staging := rfl
@[simp] theorem State.countWrap_fixes (s : State) (a lo n k : Nat) : (s.countWrap a lo n k).fixes = s.fixes := rfl
@[simp] theorem State.countWrap_sessions (s : State) (a lo n k : Nat) : (s.countWrap a lo n k).sessions = s.sessions := rfl
@[simp] theorem State.countWrap_leaseDur (s : State) (a lo n k : Nat) : (s.countWrap a lo n k).leaseDur = s.leaseDur := rfl
@[simp] theorem State.countWrap_leaseLast (s : State) (a lo n k : Nat) : (s.countWrap a lo n k).leaseLast = s.leaseLast := rfl
@[simp] theorem State.countWrap_inflight (s : State) (a lo n k : Nat) : (s.countWrap a lo n k).inflight = s.inflight := rfl
@[simp] theorem State.countWrap_replies (s : State) (a lo n k : Nat) : (s.countWrap a lo n k).replies = s.replies := rfl
@[simp] theorem State.countWrap_conv (s : State) (a lo n k : Nat) : (s.countWrap a lo n k).conv = s.conv := rfl
@[simp] theorem State.countWrap_pwm (s : State) (a lo n k : Nat) : (s.countWrap a lo n k).pwm = s.pwm := rfl
@[simp] theorem State.countWrap_gate (s : State) (a lo n k : Nat) : (s.countWrap a lo n k).gate = s.gate := rfl
@[simp] theorem State.countWrap_perf (s : State) (a lo n k : Nat) : (s.countWrap a lo n k).perf = s.perf := rfl
@[simp] theorem State.countWrap_memx (s : State) (a lo n k : Nat) : (s.countWrap a lo n k).memx = s.memx := rfl
@[simp] theorem State.countWrap_safe (s : State) (a lo n k : Nat) : (s.countWrap a lo n k).safe = s.safe := rfl
@[simp] theorem State.countWrap_modes (s : State) (a lo n k : Nat) : (s.countWrap a lo n k).modes = s.modes := rfl
@[simp] theorem State.countWrap_lane (s : State) (a lo n k : Nat) : (s.countWrap a lo n k).lane = s.lane := rfl
@[simp] theorem State.countWrap_red (s : State) (a lo n k : Nat) : (s.countWrap a lo n k).red = s.red := rfl
@[simp] theorem State.countWrap_sec (s : State) (a lo n k : Nat) : (s.countWrap a lo n k).sec = s.sec := rfl
@[simp] theorem State.countWrap_cyc (s : State) (a lo n k : Nat) : (s.countWrap a lo n k).cyc = s.cyc := rfl
@[simp] theorem State.countWrap_fab (s : State) (a lo n k : Nat) : (s.countWrap a lo n k).fab = s.fab := rfl
@[simp] theorem State.countWrap_shut (s : State) (a lo n k : Nat) : (s.countWrap a lo n k).shut = s.shut := rfl
@[simp] theorem State.countWrap_net (s : State) (a lo n k : Nat) : (s.countWrap a lo n k).net = s.net := rfl
@[simp] theorem State.countWrap_sys (s : State) (a lo n k : Nat) : (s.countWrap a lo n k).sys = s.sys := rfl
@[simp] theorem State.countWrap_sent (s : State) (a lo n k : Nat) : (s.countWrap a lo n k).sent = s.sent := rfl
@[simp] theorem State.countWrap_busOut (s : State) (a lo n k : Nat) : (s.countWrap a lo n k).busOut = s.busOut := rfl

@[simp] theorem State.wrByte_regs (s : State) (a : Nat) (b : Byte) : (s.wrByte a b).regs = s.regs := rfl
@[simp] theorem State.wrByte_pending (s : State) (a : Nat) (b : Byte) : (s.wrByte a b).pending = s.pending := rfl
@[simp] theorem State.wrByte_fresh (s : State) (a : Nat) (b : Byte) : (s.wrByte a b).fresh = s.fresh := rfl
@[simp] theorem State.wrByte_tick (s : State) (a : Nat) (b : Byte) : (s.wrByte a b).tick = s.tick := rfl
@[simp] theorem State.wrByte_rings (s : State) (a : Nat) (b : Byte) : (s.wrByte a b).rings = s.rings := rfl
@[simp] theorem State.wrByte_evq (s : State) (a : Nat) (b : Byte) : (s.wrByte a b).evq = s.evq := rfl
@[simp] theorem State.wrByte_evLost (s : State) (a : Nat) (b : Byte) : (s.wrByte a b).evLost = s.evLost := rfl
@[simp] theorem State.wrByte_ledger (s : State) (a : Nat) (b : Byte) : (s.wrByte a b).ledger = s.ledger := rfl
@[simp] theorem State.wrByte_staging (s : State) (a : Nat) (b : Byte) : (s.wrByte a b).staging = s.staging := rfl
@[simp] theorem State.wrByte_fixes (s : State) (a : Nat) (b : Byte) : (s.wrByte a b).fixes = s.fixes := rfl
@[simp] theorem State.wrByte_sessions (s : State) (a : Nat) (b : Byte) : (s.wrByte a b).sessions = s.sessions := rfl
@[simp] theorem State.wrByte_leaseDur (s : State) (a : Nat) (b : Byte) : (s.wrByte a b).leaseDur = s.leaseDur := rfl
@[simp] theorem State.wrByte_leaseLast (s : State) (a : Nat) (b : Byte) : (s.wrByte a b).leaseLast = s.leaseLast := rfl
@[simp] theorem State.wrByte_inflight (s : State) (a : Nat) (b : Byte) : (s.wrByte a b).inflight = s.inflight := rfl
@[simp] theorem State.wrByte_replies (s : State) (a : Nat) (b : Byte) : (s.wrByte a b).replies = s.replies := rfl
@[simp] theorem State.wrByte_conv (s : State) (a : Nat) (b : Byte) : (s.wrByte a b).conv = s.conv := rfl
@[simp] theorem State.wrByte_pwm (s : State) (a : Nat) (b : Byte) : (s.wrByte a b).pwm = s.pwm := rfl
@[simp] theorem State.wrByte_gate (s : State) (a : Nat) (b : Byte) : (s.wrByte a b).gate = s.gate := rfl
@[simp] theorem State.wrByte_perf (s : State) (a : Nat) (b : Byte) : (s.wrByte a b).perf = s.perf := rfl
@[simp] theorem State.wrByte_memx (s : State) (a : Nat) (b : Byte) : (s.wrByte a b).memx = s.memx := rfl
@[simp] theorem State.wrByte_safe (s : State) (a : Nat) (b : Byte) : (s.wrByte a b).safe = s.safe := rfl
@[simp] theorem State.wrByte_modes (s : State) (a : Nat) (b : Byte) : (s.wrByte a b).modes = s.modes := rfl
@[simp] theorem State.wrByte_lane (s : State) (a : Nat) (b : Byte) : (s.wrByte a b).lane = s.lane := rfl
@[simp] theorem State.wrByte_red (s : State) (a : Nat) (b : Byte) : (s.wrByte a b).red = s.red := rfl
@[simp] theorem State.wrByte_sec (s : State) (a : Nat) (b : Byte) : (s.wrByte a b).sec = s.sec := rfl
@[simp] theorem State.wrByte_cyc (s : State) (a : Nat) (b : Byte) : (s.wrByte a b).cyc = s.cyc := rfl
@[simp] theorem State.wrByte_fab (s : State) (a : Nat) (b : Byte) : (s.wrByte a b).fab = s.fab := rfl
@[simp] theorem State.wrByte_shut (s : State) (a : Nat) (b : Byte) : (s.wrByte a b).shut = s.shut := rfl
@[simp] theorem State.wrByte_net (s : State) (a : Nat) (b : Byte) : (s.wrByte a b).net = s.net := rfl
@[simp] theorem State.wrByte_sys (s : State) (a : Nat) (b : Byte) : (s.wrByte a b).sys = s.sys := rfl
@[simp] theorem State.wrByte_sent (s : State) (a : Nat) (b : Byte) : (s.wrByte a b).sent = s.sent := rfl
@[simp] theorem State.wrByte_busOut (s : State) (a : Nat) (b : Byte) : (s.wrByte a b).busOut = s.busOut := rfl

@[simp] theorem State.setRing_regs (s : State) (r : Nat) (q : RingQ) : (s.setRing r q).regs = s.regs := rfl
@[simp] theorem State.setRing_mem (s : State) (r : Nat) (q : RingQ) : (s.setRing r q).mem = s.mem := rfl
@[simp] theorem State.setRing_pending (s : State) (r : Nat) (q : RingQ) : (s.setRing r q).pending = s.pending := rfl
@[simp] theorem State.setRing_fresh (s : State) (r : Nat) (q : RingQ) : (s.setRing r q).fresh = s.fresh := rfl
@[simp] theorem State.setRing_tick (s : State) (r : Nat) (q : RingQ) : (s.setRing r q).tick = s.tick := rfl
@[simp] theorem State.setRing_evq (s : State) (r : Nat) (q : RingQ) : (s.setRing r q).evq = s.evq := rfl
@[simp] theorem State.setRing_evLost (s : State) (r : Nat) (q : RingQ) : (s.setRing r q).evLost = s.evLost := rfl
@[simp] theorem State.setRing_ledger (s : State) (r : Nat) (q : RingQ) : (s.setRing r q).ledger = s.ledger := rfl
@[simp] theorem State.setRing_staging (s : State) (r : Nat) (q : RingQ) : (s.setRing r q).staging = s.staging := rfl
@[simp] theorem State.setRing_fixes (s : State) (r : Nat) (q : RingQ) : (s.setRing r q).fixes = s.fixes := rfl
@[simp] theorem State.setRing_sessions (s : State) (r : Nat) (q : RingQ) : (s.setRing r q).sessions = s.sessions := rfl
@[simp] theorem State.setRing_leaseDur (s : State) (r : Nat) (q : RingQ) : (s.setRing r q).leaseDur = s.leaseDur := rfl
@[simp] theorem State.setRing_leaseLast (s : State) (r : Nat) (q : RingQ) : (s.setRing r q).leaseLast = s.leaseLast := rfl
@[simp] theorem State.setRing_inflight (s : State) (r : Nat) (q : RingQ) : (s.setRing r q).inflight = s.inflight := rfl
@[simp] theorem State.setRing_replies (s : State) (r : Nat) (q : RingQ) : (s.setRing r q).replies = s.replies := rfl
@[simp] theorem State.setRing_conv (s : State) (r : Nat) (q : RingQ) : (s.setRing r q).conv = s.conv := rfl
@[simp] theorem State.setRing_pwm (s : State) (r : Nat) (q : RingQ) : (s.setRing r q).pwm = s.pwm := rfl
@[simp] theorem State.setRing_gate (s : State) (r : Nat) (q : RingQ) : (s.setRing r q).gate = s.gate := rfl
@[simp] theorem State.setRing_perf (s : State) (r : Nat) (q : RingQ) : (s.setRing r q).perf = s.perf := rfl
@[simp] theorem State.setRing_memx (s : State) (r : Nat) (q : RingQ) : (s.setRing r q).memx = s.memx := rfl
@[simp] theorem State.setRing_safe (s : State) (r : Nat) (q : RingQ) : (s.setRing r q).safe = s.safe := rfl
@[simp] theorem State.setRing_modes (s : State) (r : Nat) (q : RingQ) : (s.setRing r q).modes = s.modes := rfl
@[simp] theorem State.setRing_lane (s : State) (r : Nat) (q : RingQ) : (s.setRing r q).lane = s.lane := rfl
@[simp] theorem State.setRing_red (s : State) (r : Nat) (q : RingQ) : (s.setRing r q).red = s.red := rfl
@[simp] theorem State.setRing_sec (s : State) (r : Nat) (q : RingQ) : (s.setRing r q).sec = s.sec := rfl
@[simp] theorem State.setRing_cyc (s : State) (r : Nat) (q : RingQ) : (s.setRing r q).cyc = s.cyc := rfl
@[simp] theorem State.setRing_fab (s : State) (r : Nat) (q : RingQ) : (s.setRing r q).fab = s.fab := rfl
@[simp] theorem State.setRing_shut (s : State) (r : Nat) (q : RingQ) : (s.setRing r q).shut = s.shut := rfl
@[simp] theorem State.setRing_net (s : State) (r : Nat) (q : RingQ) : (s.setRing r q).net = s.net := rfl
@[simp] theorem State.setRing_sys (s : State) (r : Nat) (q : RingQ) : (s.setRing r q).sys = s.sys := rfl
@[simp] theorem State.setRing_sent (s : State) (r : Nat) (q : RingQ) : (s.setRing r q).sent = s.sent := rfl
@[simp] theorem State.setRing_busOut (s : State) (r : Nat) (q : RingQ) : (s.setRing r q).busOut = s.busOut := rfl

end Sys2Proof.Machine
end

