-- ==== Sys2Proof/Laws/Events.lean ====
section
/-! SUPPORT. Laws of events: everything that raising an event can do (R559) is to set its register bits, to count, to enter
the merger and to take a fault record; every other register and field stays as it was. -/

namespace Sys2Proof.Machine

/-- A state without its registers and what events feed: PERF's counts, the merger, and the fault records. -/
def State.unlogged (s : State) : State :=
  { s with regs := [], perf := PerfSt.reset, evq := [], evLost := 0, memx := MemSt.reset }

/-- The registers that raising `code` leaves alone. -/
def quietReg (code a : Nat) : Prop :=
  (a < 0x10100000 ∨ 0x10110000 ≤ a) ∧ a ≠ Reg.memFrDrop ∧ ∀ e ∈ eventBits code, e.1 ≠ a

/-- A fold keeps what every one of its steps keeps. -/
theorem foldl_keeps {σ β γ : Type} (g : σ → γ) (f : σ → β → σ) (h : ∀ s b, g (f s b) = g s) (l : List β) (s : σ) :
    g (l.foldl f s) = g s := by
  induction l generalizing s with
  | nil => rfl
  | cons b l ih => rw [List.foldl_cons, ih, h]

/-- A fold keeps what every one of its steps on a listed value keeps. -/
theorem foldl_keeps_mem {σ β γ : Type} (g : σ → γ) (f : σ → β → σ) (l : List β) (h : ∀ s, ∀ b ∈ l, g (f s b) = g s) (s : σ) :
    g (l.foldl f s) = g s := by
  induction l generalizing s with
  | nil => rfl
  | cons b l ih =>
    rw [List.foldl_cons, ih (fun s b hb => h s b (List.mem_cons_of_mem _ hb)), h s b List.mem_cons_self]

/-! ### Fields -/

@[simp] theorem State.wr_unlogged (s : State) (a : Nat) (v : Word) : (s.wr a v).unlogged = s.unlogged := rfl
@[simp] theorem State.put_unlogged (s : State) (a lo n v : Nat) : (s.put a lo n v).unlogged = s.unlogged := s.wr_unlogged _ _
@[simp] theorem State.setBit_unlogged (s : State) (a i : Nat) (b : Bool) : (s.setBit a i b).unlogged = s.unlogged :=
  s.wr_unlogged _ _
@[simp] theorem State.countUp_unlogged (s : State) (a lo n k : Nat) : (s.countUp a lo n k).unlogged = s.unlogged :=
  s.wr_unlogged _ _
@[simp] theorem State.countWrap_unlogged (s : State) (a lo n k : Nat) : (s.countWrap a lo n k).unlogged = s.unlogged :=
  s.wr_unlogged _ _
@[simp] theorem State.perf_unlogged (s : State) (v : PerfSt) : State.unlogged { s with perf := v } = s.unlogged := rfl
@[simp] theorem State.memx_unlogged (s : State) (v : MemSt) : State.unlogged { s with memx := v } = s.unlogged := rfl
@[simp] theorem State.evq_unlogged (s : State) (v : List EventRec) : State.unlogged { s with evq := v } = s.unlogged := rfl
@[simp] theorem State.evLost_unlogged (s : State) (v : Nat) : State.unlogged { s with evLost := v } = s.unlogged := rfl

theorem State.setBits_unlogged (s : State) (l : List (Nat × Nat)) : (s.setBits l).unlogged = s.unlogged := by
  unfold State.setBits
  exact foldl_keeps State.unlogged _ (fun s e => s.setBit_unlogged _ _ _) l s

theorem State.bumpCounter_unlogged (s : State) (k n fuel : Nat) : (s.bumpCounter k n fuel).unlogged = s.unlogged := by
  induction fuel generalizing s k n with
  | zero => rfl
  | succ fuel ih =>
    unfold State.bumpCounter
    dsimp only
    split
    · exact s.wr_unlogged _ _
    · split
      · rw [ih]
        exact s.wr_unlogged _ _
      · rw [State.perf_unlogged]
        exact s.wr_unlogged _ _

theorem State.countSource_unlogged (s : State) (src n : Nat) : (s.countSource src n).unlogged = s.unlogged := by
  unfold State.countSource
  refine foldl_keeps State.unlogged _ (fun s k => ?_) _ s
  dsimp only
  split
  · exact State.bumpCounter_unlogged _ _ _ _
  · rfl

theorem State.countFault_unlogged (s : State) (code : Nat) : (s.countFault code).unlogged = s.unlogged := by
  unfold State.countFault
  dsimp only
  split
  · rw [State.perf_unlogged, State.countUp_unlogged]
  · split
    · exact s.countUp_unlogged _ _ _ _
    · rfl

theorem State.enqueueEvent_unlogged (s : State) (code : Nat) (d : List Word) :
    (s.enqueueEvent code d).unlogged = s.unlogged := by
  unfold State.enqueueEvent
  split
  · rw [State.put_unlogged, State.evq_unlogged]
  · rw [State.evLost_unlogged, State.countUp_unlogged]

theorem State.takeRecord_unlogged (s : State) (code : Nat) (d : List Word) :
    (s.takeRecord code d).unlogged = s.unlogged := by
  unfold State.takeRecord
  split
  · rw [State.memx_unlogged, State.countWrap_unlogged]
  · exact s.countUp_unlogged _ _ _ _

/-- Raising an event changes no field but the registers and what events feed. -/
theorem State.raise_unlogged (s : State) (code : Nat) (d : List Word) : (s.raise code d).unlogged = s.unlogged := by
  unfold State.raise
  dsimp only
  split
  · rw [State.takeRecord_unlogged, State.enqueueEvent_unlogged, State.countFault_unlogged, State.countSource_unlogged,
      State.setBits_unlogged]
  · rw [State.enqueueEvent_unlogged, State.countFault_unlogged, State.countSource_unlogged, State.setBits_unlogged]

/-! ### Registers -/

theorem State.rd_setBits (s : State) {a : Nat} {l : List (Nat × Nat)} (h : ∀ e ∈ l, e.1 ≠ a) : (s.setBits l).rd a = s.rd a := by
  unfold State.setBits
  exact foldl_keeps_mem (fun s => s.rd a) _ l (fun s e he => s.rd_setBit_ne _ _ (h e he).symm) s

/-- Reading a register looks at the registers alone. -/
theorem State.rd_of_regs {s t : State} (h : s.regs = t.regs) (a : Nat) : s.rd a = t.rd a := by rw [State.rd, State.rd, h]

@[simp] theorem State.rd_perf (s : State) (v : PerfSt) (a : Nat) : State.rd { s with perf := v } a = s.rd a := rfl
@[simp] theorem State.rd_memx (s : State) (v : MemSt) (a : Nat) : State.rd { s with memx := v } a = s.rd a := rfl
@[simp] theorem State.rd_evq (s : State) (v : List EventRec) (a : Nat) : State.rd { s with evq := v } a = s.rd a := rfl
@[simp] theorem State.rd_evLost (s : State) (v : Nat) (a : Nat) : State.rd { s with evLost := v } a = s.rd a := rfl

theorem State.rd_bumpCounter (s : State) {a k : Nat} (n fuel : Nat) (h : a < 0x10100000 ∨ 0x10110000 ≤ a) (hk : k < 32) :
    (s.bumpCounter k n fuel).rd a = s.rd a := by
  induction fuel generalizing s k n with
  | zero => rfl
  | succ fuel ih =>
    have hne : a ≠ Reg.perfCntVal k := by unfold Reg.perfCntVal; omega
    unfold State.bumpCounter
    dsimp only
    split
    · exact s.rd_wr_ne _ hne
    · split
      · rename_i hc
        have hk' : k + 1 < 32 := by
          simp only [State.chained, Bool.and_eq_true, decide_eq_true_eq] at hc
          exact hc.1.1
        rw [ih _ _ hk', s.rd_wr_ne _ hne]
      · rw [State.rd_perf]
        exact s.rd_wr_ne _ hne

theorem State.rd_countSource (s : State) {a : Nat} (src n : Nat) (h : a < 0x10100000 ∨ 0x10110000 ≤ a) :
    (s.countSource src n).rd a = s.rd a := by
  unfold State.countSource
  refine foldl_keeps_mem (fun s => s.rd a) _ _ (fun s k hk => ?_) s
  dsimp only
  split
  · exact s.rd_bumpCounter _ _ h (List.mem_range.mp hk)
  · rfl

theorem State.rd_countFault (s : State) {a code : Nat} (h : a < 0x10100000 ∨ 0x10110000 ≤ a) (hc : code < 0x4000) :
    (s.countFault code).rd a = s.rd a := by
  have hne : a ≠ Reg.perfFstat (code / 256) := by unfold Reg.perfFstat; omega
  unfold State.countFault
  dsimp only
  split
  · rw [State.rd_perf]
    exact s.rd_countUp_ne _ _ _ hne
  · split
    · exact s.rd_countUp_ne _ _ _ hne
    · rfl

theorem State.rd_enqueueEvent (s : State) {a : Nat} (code : Nat) (d : List Word) (h : a < 0x10100000 ∨ 0x10110000 ≤ a) :
    (s.enqueueEvent code d).rd a = s.rd a := by
  have h1 : a ≠ Reg.perfStatus := by unfold Reg.perfStatus; omega
  have h2 : a ≠ Reg.perfEvtLost := by unfold Reg.perfEvtLost; omega
  unfold State.enqueueEvent
  split
  · rw [State.rd_put_ne _ _ _ _ h1, State.rd_evq]
  · rw [State.rd_evLost, s.rd_countUp_ne _ _ _ h2]

theorem State.rd_takeRecord (s : State) {a : Nat} (code : Nat) (d : List Word) (h : a < 0x10100000 ∨ 0x10110000 ≤ a)
    (hd : a ≠ Reg.memFrDrop) : (s.takeRecord code d).rd a = s.rd a := by
  have h1 : a ≠ Reg.perfFrStat := by unfold Reg.perfFrStat; omega
  unfold State.takeRecord
  split
  · rw [State.rd_memx, s.rd_countWrap_ne _ _ _ h1]
  · exact s.rd_countUp_ne _ _ _ hd

/-- Raising an event leaves every register alone but those of its bits, PERF's, and MEM_FR_DROP. -/
theorem State.rd_raise (s : State) {a code : Nat} (d : List Word) (hc : code < 0x4000) (h : quietReg code a) :
    (s.raise code d).rd a = s.rd a := by
  obtain ⟨hp, hf, hb⟩ := h
  unfold State.raise
  dsimp only
  split
  · rw [State.rd_takeRecord _ _ _ hp hf, State.rd_enqueueEvent _ _ _ hp, State.rd_countFault _ hp hc,
      State.rd_countSource _ _ _ hp, State.rd_setBits _ hb]
  · rw [State.rd_enqueueEvent _ _ _ hp, State.rd_countFault _ hp hc, State.rd_countSource _ _ _ hp, State.rd_setBits _ hb]

/-- A field of such a register. -/
theorem State.fld_raise (s : State) {a code : Nat} (d : List Word) (lo n : Nat) (hc : code < 0x4000) (h : quietReg code a) :
    (s.raise code d).fld a lo n = s.fld a lo n := by rw [State.fld, s.rd_raise d hc h, State.fld]

/-- A bit of such a register. -/
theorem State.bit_raise (s : State) {a code : Nat} (d : List Word) (i : Nat) (hc : code < 0x4000) (h : quietReg code a) :
    (s.raise code d).bit a i = s.bit a i := by rw [State.bit, s.fld_raise d i 1 hc h, State.bit]

end Sys2Proof.Machine
end

