-- ==== Sys2Proof/Laws/Scp.lean ====
section
/-! SUPPORT. Laws of command packets (R415, R416): what a packet that is taken does, and what its final reply changes. -/

namespace Sys2Proof.Machine

/-- A packet that is taken runs its opcode in the taken state. -/
theorem State.command_takes {s : State} {op : Nat} {p : Packet} {len : Bool} (h : s.takes op p len)
    (run : State → State) (aid : Aid) : s.command op p len run aid = run (s.taken op p aid) := by
  obtain ⟨h1, h2, h3, h4, h5⟩ := h
  unfold State.command
  rw [if_neg (by simp [h1]), if_neg (by simp [h2]), h3]
  dsimp only
  unfold State.accept State.taken
  dsimp only
  rw [h4, h5]
  rfl

/-- A packet that fails at steps 4 to 6 is refused, its seq unconsumed. -/
theorem State.command_refuse {s : State} {op : Nat} {p : Packet} {st : Status} {payload : List Byte} {tagged : Bool}
    (h1 : s.serves p.chan = true) (h2 : s.commandFull p.chan = false) (h3 : s.judge op p = .refuse st payload tagged)
    (len : Bool) (run : State → State) (aid : Aid) : s.command op p len run aid = s.refused op p st payload tagged := by
  unfold State.command
  rw [if_neg (by simp [h1]), if_neg (by simp [h2]), h3]

/-- An audit entry touches SEC_AUDIT, what AUDIT_DROP feeds, and SEC alone (R552, R553). -/
theorem State.rd_audit (s : State) (n role : Nat) (k : AuditKind) (x y : Nat) {a : Nat} (h : quietReg 0x1006 a)
    (ha : a ≠ Reg.secAudit) : (s.audit n role k x y).rd a = s.rd a := by
  unfold State.audit
  split
  · exact State.rd_put_ne _ _ _ _ ha
  · rw [State.rd_raise _ _ (by decide) h, State.rd_countUp_ne _ _ _ _ ha]

/-- States that agree but in what events feed hold the same sessions. -/
theorem State.sessions_of_unlogged {s t : State} (h : s.unlogged = t.unlogged) : s.sessions = t.sessions :=
  show s.unlogged.sessions = t.unlogged.sessions from congrArg State.sessions h

theorem State.audit_sessions (s : State) (n role : Nat) (k : AuditKind) (x y : Nat) :
    (s.audit n role k x y).sessions = s.sessions := by
  unfold State.audit
  split
  · rw [State.put_sessions]
  · rw [State.sessions_of_unlogged (State.raise_unlogged _ 0x1006 []), State.countUp_sessions]

/-- A MEM_WRITE of one register word that no check refuses writes that register and answers OK. -/
theorem State.memWrite_reg {s : State} {p : Packet} {a : Nat} {v : Word} (h : s.takes 0x0501 p true)
    (hw : (s.takenWrite p).writesReg p a v) :
    s.memWrite p 0 = (((s.takenWrite p).writeReg a v).finish 0x0501 p .ok []) := by
  obtain ⟨h1, h2, h3, h4, h5, h6⟩ := hw
  have hl : (decide (8 ≤ p.payload.length) && decide (p.payload.length ≤ 4092)) = true := by simp [h1]
  unfold State.memWrite
  rw [hl, State.command_takes h]
  change (s.takenWrite p).runMemWrite p 0 = _
  have hb : bytesWords ((p.payload.length - 4) / 4) (p.payload.drop 4) = [v] := by
    rw [h1]
    show bytesWords 1 (p.payload.drop 4) = [v]
    simp only [bytesWords, bytesWord]
    rw [← h3]
    rfl
  unfold State.runMemWrite
  dsimp only
  rw [hb, h2, if_neg (by omega)]
  simp only [State.firstRefused, h6]
  have hc : (s.takenWrite p).countEcc p.session a ((p.payload.length - 4) / 4) 0 = s.takenWrite p := by
    unfold State.countEcc
    rw [if_neg]
    rw [h1]
    simp [h5]
  rw [hc]
  simp only [State.writeWords, State.writeWord, h5]

end Sys2Proof.Machine
end

