-- ==== Sys2Proof/Laws/Answer.lean ====
section
/-! SUPPORT. Laws of answering: what the consumption of a packet's seq, its replies and its audit entries can change. The
converter's registers (CONV to SAFE) and every field but those of the link to the host stay as they were. -/

namespace Sys2Proof.Machine

/-- A register outside the blocks CONV to SAFE. -/
abbrev outsideConverter (a : Nat) : Prop := a < 0x10010000 ∨ 0x10090000 ≤ a

/-- A state without its registers, what events feed, and the link to the host; of MEM's fields the mappings stay. -/
def State.unanswered (s : State) : State :=
  { s.unlogged with memx := { MemSt.reset with maps := s.memx.maps }, rings := [], sessions := [], inflight := [], replies := [],
                    net := NetSt.reset, sent := [], sec := SecSt.reset, cyc := CycleSt.reset }

/-- `t` differs from `s` by what answering can change. -/
def AnswerOnly (s t : State) : Prop :=
  t.unanswered = s.unanswered ∧ ∀ a, ¬ outsideConverter a → t.rd a = s.rd a

theorem AnswerOnly.refl (s : State) : AnswerOnly s s := ⟨rfl, fun _ _ => rfl⟩

theorem AnswerOnly.trans {s t u : State} (h : AnswerOnly s t) (k : AnswerOnly t u) : AnswerOnly s u :=
  ⟨k.1.trans h.1, fun a ha => (k.2 a ha).trans (h.2 a ha)⟩

/-- A fold of steps that only answer only answers. -/
theorem AnswerOnly.foldl {β : Type} {f : State → β → State} (l : List β) (h : ∀ s, ∀ b ∈ l, AnswerOnly s (f s b)) (s : State) :
    AnswerOnly s (l.foldl f s) := by
  induction l generalizing s with
  | nil => exact AnswerOnly.refl s
  | cons b l ih => exact (h s b List.mem_cons_self).trans (ih (fun s b hb => h s b (List.mem_cons_of_mem _ hb)) _)

theorem AnswerOnly.ite {s t u : State} {c : Prop} [Decidable c] (h : AnswerOnly s t) (k : AnswerOnly s u) :
    AnswerOnly s (if c then t else u) := by
  split
  · exact h
  · exact k

/-- What the fields of the link to the host are does not show. -/
theorem AnswerOnly.fields (s : State) (rings : List (Nat × RingQ)) (sessions : List (Nat × Session)) (inflight : List InFlight)
    (replies : List (Nat × List Reply)) (net : NetSt) (sent : List Reply) (sec : SecSt) (cyc : CycleSt) :
    AnswerOnly s { s with rings := rings, sessions := sessions, inflight := inflight, replies := replies, net := net,
                          sent := sent, sec := sec, cyc := cyc } := ⟨rfl, fun _ _ => rfl⟩

theorem AnswerOnly.setNet (s : State) (v : NetSt) : AnswerOnly s { s with net := v } := ⟨rfl, fun _ _ => rfl⟩
theorem AnswerOnly.setCyc (s : State) (v : CycleSt) : AnswerOnly s { s with cyc := v } := ⟨rfl, fun _ _ => rfl⟩
theorem AnswerOnly.setPoolRun (s : State) (v : Bool) : AnswerOnly s { s with memx := { s.memx with poolRun := v } } :=
  ⟨rfl, fun _ _ => rfl⟩

theorem AnswerOnly.wr (s : State) {a : Nat} (v : Word) (h : outsideConverter a) : AnswerOnly s (s.wr a v) :=
  ⟨rfl, fun _ hb => s.rd_wr_ne v (fun e => hb (e ▸ h))⟩

theorem AnswerOnly.put (s : State) {a : Nat} (lo n v : Nat) (h : outsideConverter a) : AnswerOnly s (s.put a lo n v) :=
  AnswerOnly.wr s _ h

theorem AnswerOnly.setBit (s : State) {a : Nat} (i : Nat) (b : Bool) (h : outsideConverter a) : AnswerOnly s (s.setBit a i b) :=
  AnswerOnly.wr s _ h

theorem AnswerOnly.countUp (s : State) {a : Nat} (lo n k : Nat) (h : outsideConverter a) : AnswerOnly s (s.countUp a lo n k) :=
  AnswerOnly.wr s _ h

theorem AnswerOnly.countWrap (s : State) {a : Nat} (lo n k : Nat) (h : outsideConverter a) :
    AnswerOnly s (s.countWrap a lo n k) := AnswerOnly.wr s _ h

theorem AnswerOnly.setRing (s : State) (r : Nat) (q : RingQ) : AnswerOnly s (s.setRing r q) :=
  AnswerOnly.fields s _ s.sessions s.inflight s.replies s.net s.sent s.sec s.cyc

theorem AnswerOnly.setSession (s : State) (n : Nat) (v : Session) : AnswerOnly s (s.setSession n v) :=
  AnswerOnly.fields s s.rings _ s.inflight s.replies s.net s.sent s.sec s.cyc

/-- An address of the converter is none of PERF's, and not MEM_FR_DROP. -/
theorem converter_quiet {a code : Nat} (h : ¬ outsideConverter a) (hc : ∀ e ∈ eventBits code, outsideConverter e.1) :
    quietReg code a := by
  have h' : 0x10010000 ≤ a ∧ a < 0x10090000 := by unfold outsideConverter at h; omega
  exact ⟨by omega, by unfold Reg.memFrDrop; omega, fun e he k => h (k ▸ hc e he)⟩

theorem State.memx_of_perf (s : State) (v : PerfSt) : State.memx { s with perf := v } = s.memx := rfl
theorem State.maps_of_records (s : State) (v : List (List Word)) :
    (State.memx { s with memx := { s.memx with records := v } }).maps = s.memx.maps := rfl
theorem State.memx_of_evq (s : State) (v : List EventRec) : State.memx { s with evq := v } = s.memx := rfl
theorem State.memx_of_evLost (s : State) (v : Nat) : State.memx { s with evLost := v } = s.memx := rfl

/-- Raising an event keeps the mappings. -/
theorem State.setBits_maps (s : State) (l : List (Nat × Nat)) : (s.setBits l).memx.maps = s.memx.maps := by
  unfold State.setBits
  refine foldl_keeps (fun s => s.memx.maps) _ (fun s e => ?_) l s
  rw [State.setBit_memx]

theorem State.bumpCounter_maps (s : State) (k n fuel : Nat) : (s.bumpCounter k n fuel).memx.maps = s.memx.maps := by
  induction fuel generalizing s k n with
  | zero => rfl
  | succ fuel ih =>
    unfold State.bumpCounter
    dsimp only
    split
    · rw [State.wr_memx]
    · split
      · rw [ih, State.wr_memx]
      · rw [State.memx_of_perf, State.wr_memx]

theorem State.countSource_maps (s : State) (src n : Nat) : (s.countSource src n).memx.maps = s.memx.maps := by
  unfold State.countSource
  refine foldl_keeps (fun s => s.memx.maps) _ (fun s k => ?_) _ s
  dsimp only
  split
  · exact s.bumpCounter_maps _ _ _
  · rfl

theorem State.countFault_maps (s : State) (code : Nat) : (s.countFault code).memx.maps = s.memx.maps := by
  unfold State.countFault
  dsimp only
  split
  · rw [State.memx_of_perf, State.countUp_memx]
  · split
    · rw [State.countUp_memx]
    · rfl

theorem State.enqueueEvent_maps (s : State) (code : Nat) (d : List Word) :
    (s.enqueueEvent code d).memx.maps = s.memx.maps := by
  unfold State.enqueueEvent
  split
  · rw [State.put_memx, State.memx_of_evq]
  · rw [State.memx_of_evLost, State.countUp_memx]

theorem State.takeRecord_maps (s : State) (code : Nat) (d : List Word) : (s.takeRecord code d).memx.maps = s.memx.maps := by
  unfold State.takeRecord
  split
  · rw [State.maps_of_records, State.countWrap_memx]
  · rw [State.countUp_memx]

theorem State.raise_maps (s : State) (code : Nat) (d : List Word) : (s.raise code d).memx.maps = s.memx.maps := by
  unfold State.raise
  dsimp only
  split
  · rw [State.takeRecord_maps, State.enqueueEvent_maps, State.countFault_maps, State.countSource_maps, State.setBits_maps]
  · rw [State.enqueueEvent_maps, State.countFault_maps, State.countSource_maps, State.setBits_maps]

/-- States that agree in everything but what events feed, and in their mappings, differ by nothing answering keeps. -/
theorem State.unanswered_of {s t : State} (h : s.unlogged = t.unlogged) (k : s.memx.maps = t.memx.maps) :
    s.unanswered = t.unanswered := by
  unfold State.unanswered
  rw [h, k]

/-- Raising an event of a block outside the converter. -/
theorem AnswerOnly.raise (s : State) {code : Nat} (d : List Word) (hc : code < 0x4000)
    (hb : ∀ e ∈ eventBits code, outsideConverter e.1) : AnswerOnly s (s.raise code d) :=
  ⟨State.unanswered_of (s.raise_unlogged code d) (s.raise_maps code d), fun _ ha => s.rd_raise d hc (converter_quiet ha hb)⟩

theorem AnswerOnly.countSource (s : State) (src n : Nat) : AnswerOnly s (s.countSource src n) :=
  ⟨State.unanswered_of (s.countSource_unlogged src n) (s.countSource_maps src n),
    fun a ha => s.rd_countSource src n (by unfold outsideConverter at ha; omega)⟩

/-! ### Rings and replies -/

theorem AnswerOnly.setFill (s : State) (r f : Nat) : AnswerOnly s (s.setFill r f) := by
  have h1 : outsideConverter (Reg.memRingStat r) := by unfold outsideConverter Reg.memRingStat; omega
  have h2 : outsideConverter Reg.memPool := by decide
  unfold State.setFill
  exact ((AnswerOnly.put s _ _ _ h1).trans (AnswerOnly.put _ _ _ _ h2)).trans (AnswerOnly.setBit _ _ _ h1)

theorem AnswerOnly.append (s : State) (r n : Nat) (bytes : List Byte) : AnswerOnly s (s.append r n bytes) := by
  have h1 : outsideConverter (Reg.memRingStat r) := by unfold outsideConverter Reg.memRingStat; omega
  unfold State.append
  refine AnswerOnly.trans ?_ (AnswerOnly.countSource _ _ _)
  refine AnswerOnly.trans ?_ (AnswerOnly.setPoolRun _ _)
  exact ((AnswerOnly.setRing s _ _).trans (AnswerOnly.setFill _ _ _)).trans (AnswerOnly.countWrap _ _ _ _ h1)

theorem AnswerOnly.popUnit (s : State) (r : Nat) : AnswerOnly s (s.popUnit r) := by
  unfold State.popUnit
  split
  · exact AnswerOnly.refl s
  · exact (AnswerOnly.setRing s _ _).trans (AnswerOnly.setFill _ _ _)

theorem AnswerOnly.fillReplies (s : State) (c : Nat) : AnswerOnly s (s.fillReplies c) := by
  unfold State.fillReplies
  exact AnswerOnly.foldl _ (fun s _ _ => AnswerOnly.ite (AnswerOnly.append s _ _ _) (AnswerOnly.refl s)) s

theorem AnswerOnly.setWaitingReplies (s : State) (c : Nat) (l : List Reply) : AnswerOnly s (s.setWaitingReplies c l) :=
  AnswerOnly.fields s s.rings s.sessions s.inflight _ s.net s.sent s.sec s.cyc

theorem AnswerOnly.sendReply (s : State) (c : Nat) : AnswerOnly s (s.sendReply c) := by
  unfold State.sendReply
  split
  · exact AnswerOnly.refl s
  · refine AnswerOnly.trans ?_ (AnswerOnly.fillReplies _ _)
    refine AnswerOnly.trans ?_ (AnswerOnly.popUnit _ _)
    exact AnswerOnly.fields s s.rings s.sessions s.inflight _ s.net _ s.sec s.cyc

theorem AnswerOnly.drainPcie (s : State) (c : Nat) : AnswerOnly s (s.drainPcie c) := by
  unfold State.drainPcie
  refine AnswerOnly.foldl _ (fun s _ _ => AnswerOnly.ite ?_ (AnswerOnly.refl s)) s
  dsimp only
  refine AnswerOnly.trans ?_ (AnswerOnly.setNet _ _)
  refine (AnswerOnly.sendReply s c).trans (AnswerOnly.put _ _ _ _ ?_)
  unfold outsideConverter winReg; omega

theorem AnswerOnly.emit (s : State) (r : Reply) : AnswerOnly s (s.emit r) := by
  unfold State.emit
  have h := (AnswerOnly.setWaitingReplies s r.chan (s.waitingReplies r.chan ++ [r])).trans (AnswerOnly.fillReplies _ r.chan)
  exact AnswerOnly.ite (h.trans (AnswerOnly.drainPcie _ _)) h

theorem AnswerOnly.countStatus (s : State) (st : Status) : AnswerOnly s (s.countStatus st) := by
  have h : outsideConverter Reg.hostErr := by decide
  unfold State.countStatus
  split
  · exact AnswerOnly.countUp s _ _ _ h
  · exact AnswerOnly.countUp s _ _ _ h
  · exact AnswerOnly.refl s

theorem AnswerOnly.answer (s : State) (op : Nat) (p : Packet) (st : Status) (payload : List Byte) :
    AnswerOnly s (s.answer op p st payload) := by
  unfold State.answer
  refine AnswerOnly.trans ?_ (AnswerOnly.emit _ _)
  exact (AnswerOnly.countStatus s st).trans (AnswerOnly.setSession _ _ _)

theorem AnswerOnly.audit (s : State) (n role : Nat) (k : AuditKind) (x y : Nat) : AnswerOnly s (s.audit n role k x y) := by
  have h : outsideConverter Reg.secAudit := by decide
  unfold State.audit
  split
  · refine AnswerOnly.trans ?_ (AnswerOnly.put _ _ _ _ h)
    exact AnswerOnly.fields s s.rings s.sessions s.inflight s.replies s.net s.sent _ s.cyc
  · exact (AnswerOnly.countUp s _ _ _ h).trans (AnswerOnly.raise _ _ (by decide) (by decide))

theorem outside_hostSess (n : Nat) : outsideConverter (Reg.hostSess n) := by unfold outsideConverter Reg.hostSess; omega

/-- A final reply (R416) changes the link to the host alone. -/
theorem AnswerOnly.finish (s : State) (op : Nat) (p : Packet) (st : Status) (payload : List Byte) :
    AnswerOnly s (s.finish op p st payload) := by
  unfold State.finish
  refine AnswerOnly.trans ?_ (AnswerOnly.answer _ _ _ _ _)
  have h := (AnswerOnly.fields s s.rings s.sessions (dropFlight p s.inflight) s.replies s.net s.sent s.sec s.cyc).trans
    (AnswerOnly.put _ 8 5 (State.fld { s with inflight := dropFlight p s.inflight } (Reg.hostSess p.session) 8 5 - 1)
      (outside_hostSess p.session))
  exact AnswerOnly.ite (h.trans (AnswerOnly.audit _ _ _ _ _ _)) h

/-! ### The start of a command -/

theorem AnswerOnly.queueCause (s : State) (code index : Nat) : AnswerOnly s (s.queueCause code index) := by
  unfold State.queueCause
  split
  · refine AnswerOnly.trans ?_ (AnswerOnly.wr _ _ (by decide))
    exact AnswerOnly.fields s s.rings s.sessions s.inflight s.replies s.net s.sent s.sec _
  · have h : AnswerOnly s (s.countUp Reg.cycleErrDrop 0 16 1) := AnswerOnly.countUp s _ _ _ (by decide)
    refine AnswerOnly.ite h (h.trans ?_)
    exact (AnswerOnly.raise _ [] (by decide) (by decide)).trans (AnswerOnly.setCyc _ _)

theorem AnswerOnly.keepLink (s : State) : AnswerOnly s s.keepLink := by
  unfold State.keepLink
  have h := AnswerOnly.fields s s.rings s.sessions s.inflight s.replies s.net s.sent s.sec { s.cyc with hostTick := s.tick }
  refine AnswerOnly.ite h (h.trans ?_)
  refine AnswerOnly.trans ?_ (AnswerOnly.queueCause _ _ _)
  refine AnswerOnly.trans ?_ (AnswerOnly.raise _ _ (by decide) (by decide))
  exact (AnswerOnly.setBit _ _ _ (by decide)).trans (AnswerOnly.put _ _ _ _ (by decide))

theorem AnswerOnly.consume (s : State) (p : Packet) : AnswerOnly s (s.consume p) := by
  unfold State.consume
  have h := ((AnswerOnly.setSession s p.session { s.session p.session with
    lastTick := s.tick, authRun := 0, counter := (s.session p.session).counter + 1,
    history := { seq := p.seq, crc := p.crc, reply := none } :: (s.session p.session).history.take 15 }).trans
    (AnswerOnly.put _ 13 8 (p.seq + 1) (outside_hostSess p.session))).trans (AnswerOnly.countSource _ (0x8250 + p.chan) 1)
  exact AnswerOnly.ite (h.trans (AnswerOnly.keepLink _)) h

/-- Taking a packet changes the link to the host alone. -/
theorem AnswerOnly.taken (s : State) (op : Nat) (p : Packet) (aid : Aid) : AnswerOnly s (s.taken op p aid) := by
  unfold State.taken
  refine AnswerOnly.trans ?_ (AnswerOnly.put _ _ _ _ (outside_hostSess p.session))
  refine (AnswerOnly.consume s p).trans ?_
  exact AnswerOnly.fields _ (s.consume p).rings (s.consume p).sessions _ (s.consume p).replies (s.consume p).net
    (s.consume p).sent (s.consume p).sec (s.consume p).cyc

/-- A packet that is neither taken nor resent is answered; one refused for its authentication may fault its session. -/
theorem AnswerOnly.refuse (s : State) (op : Nat) (p : Packet) (st : Status) (payload : List Byte) (tag : Bool) :
    AnswerOnly s (s.refuse op p st payload tag) := by
  unfold State.refuse
  exact (AnswerOnly.countStatus s st).trans (AnswerOnly.emit _ _)

/-! ### What answering keeps -/

theorem AnswerOnly.mem {s t : State} (h : AnswerOnly s t) : t.mem = s.mem :=
  show t.unanswered.mem = s.unanswered.mem from congrArg State.mem h.1

theorem AnswerOnly.rdByte {s t : State} (h : AnswerOnly s t) (a : Nat) : t.rdByte a = s.rdByte a := by
  unfold State.rdByte; rw [h.mem]

theorem AnswerOnly.staging {s t : State} (h : AnswerOnly s t) : t.staging = s.staging :=
  show t.unanswered.staging = s.unanswered.staging from congrArg State.staging h.1

theorem AnswerOnly.fixes {s t : State} (h : AnswerOnly s t) : t.fixes = s.fixes :=
  show t.unanswered.fixes = s.unanswered.fixes from congrArg State.fixes h.1

theorem AnswerOnly.ledger {s t : State} (h : AnswerOnly s t) : t.ledger = s.ledger :=
  show t.unanswered.ledger = s.unanswered.ledger from congrArg State.ledger h.1

theorem AnswerOnly.lane {s t : State} (h : AnswerOnly s t) : t.lane = s.lane :=
  show t.unanswered.lane = s.unanswered.lane from congrArg State.lane h.1

theorem AnswerOnly.modes {s t : State} (h : AnswerOnly s t) : t.modes = s.modes :=
  show t.unanswered.modes = s.unanswered.modes from congrArg State.modes h.1

theorem AnswerOnly.pwm {s t : State} (h : AnswerOnly s t) : t.pwm = s.pwm :=
  show t.unanswered.pwm = s.unanswered.pwm from congrArg State.pwm h.1

theorem AnswerOnly.gate {s t : State} (h : AnswerOnly s t) : t.gate = s.gate :=
  show t.unanswered.gate = s.unanswered.gate from congrArg State.gate h.1

theorem AnswerOnly.safe {s t : State} (h : AnswerOnly s t) : t.safe = s.safe :=
  show t.unanswered.safe = s.unanswered.safe from congrArg State.safe h.1

theorem AnswerOnly.pending {s t : State} (h : AnswerOnly s t) : t.pending = s.pending :=
  show t.unanswered.pending = s.unanswered.pending from congrArg State.pending h.1

theorem AnswerOnly.maps {s t : State} (h : AnswerOnly s t) : t.memx.maps = s.memx.maps :=
  show t.unanswered.memx.maps = s.unanswered.memx.maps from congrArg (fun u => u.memx.maps) h.1

end Sys2Proof.Machine
end

