-- ==== Sys2Proof/Tests/Slice0.lean ====
section
/-! SUPPORT. The model's own tests: ill-formed commands that the checks refuse, worked examples and tables of the spec, and
for every statement with hypotheses a concrete state and operands that meet them. -/

namespace Sys2Proof.Tests

open Sys2Proof.Machine

set_option maxRecDepth 20000
set_option linter.unusedVariables false

/-! ### Small states -/

/-- Start-up complete, and every transport enabled. -/
def up : State := (State.reset.put Reg.sysBoot 0 4 9).put Reg.hostCfg 24 4 15

/-- A packet of session 3 on SPI with the next seq. -/
def pk (payload : List Byte) : Packet :=
  { chan := 7, srcIp := 0, srcPort := 0, session := 3, seq := 1, tag := 0, lease := 0, auth := .right, crc := 0,
    payload := payload }

/-- Session 3 open on SPI in session state `st` with role `role`; it expects seq 1. -/
def open3 (st role : Nat) : State := up.wr (Reg.hostSess 3) (word (st + 7 * 2 ^ 2 + role * 2 ^ 5 + 1 * 2 ^ 13))

def engineer3 : State := open3 2 2
def admin3 : State := open3 2 3

/-- Session 3 unauthenticated, with credential 0 enabled. -/
def guest : State := { open3 1 0 with sec := { SecSt.reset with creds := [(0, { Cred.empty with enabled := true })] } }

/-- `s` with session 3 holding the lease of an object. -/
def holds (kind index : Nat) (s : State) : State :=
  (s.wr (Reg.hostLeaseA 0) (word (kind + index * 2 ^ 8 + 3 * 2 ^ 24))).wr (Reg.hostLeaseB 0) (word (1 + 1000 * 2 ^ 16))

/-- A SESSION_OPEN packet. -/
def hello : Packet := { pk (n32 0x1234) with session := 0xFF, seq := 0, auth := .absent }

/-- A consumed packet with its reply. -/
def seen : Consumed :=
  { seq := 7, crc := 0, reply := some { chan := 7, srcIp := 0, srcPort := 0, opcode := 2, session := 3, seq := 7, tag := 0,
                                        lease := 0, status := 0, notice := false, tagged := false, payload := [] } }

def anyFix : Fix := { opcode := 0x0102, packet := pk [], items := [], table := none, releases := [], objects := [] }

def prog0 : Program :=
  { tableId := 0, crc := 0, first := 0, size := 0, tasks := [], calls := [], params := [] }

/-- A program with one call, in task 0, and every task enabled at a period of 1 tick. -/
def prog1 : Program :=
  { prog0 with tasks := List.replicate 8 0x80000001,
               calls := [{ type := 0x101, task := 0, convoy := none, instance_ := 0, length := 0 }] }

def running : State := { up.put Reg.cycleStatus 0 3 3 with cyc := { CycleSt.reset with prog := some prog1 } }

def noEffect : BlockEffect :=
  { outs := [], dio := [], eif := [], pubs := [], req := none, failed := false, measure := none }

/-- Session 3's context maps virtual page 1 to the last page of shared SRAM, with write permission. -/
def mapped : State :=
  { engineer3 with memx := { MemSt.reset with maps := [{ ctx := 3, vaddr := 0x1000, daddr := 0xFFF000, size := 0x1000, write := true }] } }

/-- Session 3 owns DMA channel 31 of engine 3. -/
def owned : State := (engineer3.setBit (dmaCfg 127) 0 true).put (dmaCfg 127) 3 8 3

def bursting : State :=
  { owned.put (dmaStat 127) 0 3 1 with memx := { MemSt.reset with
      dma := [(127, { xfers := [{ src := 0, dst := 4, len := 4, report := false }], moved := 0, index := 0, packet := none })] } }

/-- A film word waits for bank 15, which holds film. -/
def filming : State :=
  { up with ledger := [{ kind := 4, granule := 255, ownerKind := 6, ownerIdx := 0 }],
            shut := { ShutSt.reset with film := [{ shutter := 0, addr := 0xFFFFFC, value := 1 }] } }

/-- Lane A is ACTIVE. -/
def active : State := up.setBit (Reg.laneRedStatus 0) 0 true

/-- The same with every law's coefficient CRC formed. -/
def formed : State := (List.range 4).foldl (fun s l => s.setLaw l { s.law l with crcFormed := true }) active

/-- Lane A is ACTIVE in the converter mode with code `m`. -/
def inMode (m : Nat) : State := active.put (Reg.laneMode 0) 0 4 m

/-- A cause of a row was due when SAFELIGHT was entered. -/
def lateIn (cause : Nat) : State := { inMode 7 with modes := { ModeSt.reset with late := [cause] } }

/-- The black-start ramp has run its time with the breaker closed. -/
def ramped : State :=
  { inMode 3 with modes := { ModeSt.reset with brk := { ModeSt.reset.brk with closed := true },
                                               wait := { ModeSt.reset.wait with ramp := 0x10000000000 } } }

/-- Timebases 0 and 11 run with a period of 1,000 cycles and zero update points. -/
def ticking : State :=
  [0, 11].foldl (fun s t => ((s.put (Reg.pwmTbPeriod 0 t) 4 20 1000).put (Reg.pwmTbCfg 0 t) 2 2 1).setBit
    (Reg.pwmStatus 0) (4 + t) true) active

/-- The pair of channels 46 and 47 is supplied by bootstrap, and commanded, at a zero point of timebase 0. -/
def refreshing : State :=
  { ((ticking.setBit (Reg.gatePairCfg 23) 0 true).setBit Reg.gateStatus 0 true) with
      pwm := { PwmSt.reset with chans := [(46, { ChanCmd.idle with cmd := .off }), (47, { ChanCmd.idle with cmd := .off })] } }

/-- The safety processor is well. -/
def safeUp : State := up.setBit Reg.safeStatus 8 true

/-- A route of one node on plane X, and a timetable whose slot 4,095 is that node's for stream 2 on plane X. -/
def route1 : RouteList := { plane := 0, order := [(1, 1)], ring := false, parting := 0, stop := false }
def slotWords : List (Nat × Word) := [(8190, 0), (8191, word (1 + 2 * 2 ^ 12 + 2 ^ 30))]

def noChecks : BootChecks :=
  { rails := true, locked := true, vault := true, flash := true, crypto := [], plain := [], lattice := true,
    outputsOpen := true, sram := true, laneA := true, laneB := true, rom := 0 }

/-- A configuration container of 336 zero bytes under key slot 0xFF, written whole, whose verification runs. -/
def committing : State :=
  let up := up.setSlot 2 1 (n32 0x58574F58 ++ n16 1 ++ n8 2 ++ n8 0xFF ++ n16 1 ++ n16 0 ++ n32 336 ++ List.replicate 576 0)
  up.setImage { up.sec.image with transfer := some (Transfer.mk 3 2 592 592 false true (pk [])) }

/-! ### Hypotheses that are met -/

theorem witness_EmptyQueueIdles :
    ∃ (s : State), s.pending = [] :=
  ⟨State.reset, by decide⟩

theorem witness_StepKeepsTablesCanonical :
    ∃ (s : State) (t : State), s.canonical ∧ step s = .next t :=
  ⟨State.reset, _, ⟨by decide, by decide⟩, rfl⟩

theorem witness_CommandsLeaveTheQueue :
    ∃ (c : Instr) (s : State) (t : State), exec c s = .next t :=
  ⟨.rbGateDrive, State.reset, _, rfl⟩

theorem witness_SessionOpcodesComplete :
    (∃ (s : State) (p : Packet) (n : Nat), p.session = 0xFF ∧ s.serves p.chan = true ∧ s.commandFull p.chan = false ∧
      p.auth = .absent ∧ p.payload.length = 4 ∧ s.openedAgain p = none ∧ s.freeSession = some n)
    ∧ (∃ (s : State) (p : Packet), s.takes 1 p true ∧ p.payload.length = 132 ∧ leAt p.payload 0 1 = 1 ∧ (s.taken 1
      p).isAuth p.session = false ∧ ((s.taken 1 p).cred (leAt p.payload 1 1)).enabled = true)
    ∧ (∃ (s : State) (p : Packet) (a : AuthPhase), s.takes 1 p true ∧ p.payload.length = 100 ∧ leAt p.payload 0 1 = 2 ∧
      p.session < 128 ∧ (s.taken 1 p (.flag true)).isAuth p.session = false ∧ ((s.taken 1 p (.flag
      true)).session p.session).phase1 = some a ∧ (s.taken 1 p (.flag true)).tick ≤ a.tick + 5000)
    ∧ (∃ (s : State) (p : Packet), s.takes 2 p true ∧ p.payload = [])
    ∧ (∃ (s : State) (p : Packet), s.takes 3 p true ∧ p.payload = [])
    ∧ (∃ (s : State) (p : Packet), s.takes 4 p true ∧ p.payload = []) :=
  ⟨⟨up, hello, 0, by decide, by decide, by decide, by decide, by decide, by decide, rfl⟩,
    ⟨guest, { pk (1 :: List.replicate 131 0) with auth := .absent }, ⟨by decide, by decide, by decide, by decide, by
      decide⟩, by decide, by decide, by decide, by decide⟩,
    ⟨{ guest with sessions := [(3, { Session.closed with phase1 := some { slot := 0, nonce := 0, key := 0, tick := 0 } })] },
      { pk (2 :: List.replicate 99 0) with auth := .absent }, _, ⟨by decide, by decide, by decide, by decide, by
      decide⟩, by decide, by decide, by decide, by decide, rfl, by decide⟩,
    ⟨engineer3, pk [], ⟨by decide, by decide, by decide, by decide, by decide⟩, by decide⟩,
    ⟨engineer3, pk [], ⟨by decide, by decide, by decide, by decide, by decide⟩, by decide⟩,
    ⟨engineer3, pk [], ⟨by decide, by decide, by decide, by decide, by decide⟩, by decide⟩⟩

theorem witness_PacketFailuresAnsweredAsR415Says :
    (∃ (s : State) (op : Nat) (p : Packet), s.serves p.chan = true)
    ∧ (∃ (s : State) (op : Nat) (p : Packet), s.serves p.chan = true ∧ s.commandFull p.chan = false)
    ∧ (∃ (s : State) (k : Nat) (op : Nat) (p : Packet) (st : Status) (payload : List Byte) (tagged : Bool), 4 ≤ k ∧ k ≤
      6 ∧ s.serves p.chan = true ∧ s.commandFull p.chan = false ∧ s.judge op p = .refuse st payload tagged)
    ∧ (∃ (s : State) (op : Nat) (p : Packet), opRow op = none ∧ s.serves p.chan = true ∧ s.commandFull p.chan = false ∧
      s.judge op p = .take)
    ∧ (∃ (s : State) (op : Nat) (p : Packet) (c : Consumed) (r : Reply), s.serves p.chan = true ∧ s.commandFull p.chan
      = false ∧ s.judge op p = .resend c ∧ c.reply = some r)
    ∧ (∃ (s : State) (n : Nat), s.isOpen n = true ∧ (s.session n).lastTick + s.sessionTimeout ≤ s.tick)
    ∧ (∃ (s : State) (n : Nat) (seq : Nat) (f : InFlight), s.inflight.find? (fun f => s.timedOut f && f.packet.session
      == n && f.packet.seq == seq) = some f) :=
  ⟨⟨up, 0, pk [], by decide⟩,
    ⟨up, 0, pk [], by decide, by decide⟩,
    ⟨up, 4, 2, pk [], _, _, _, by decide, by decide, by decide, by decide, rfl⟩,
    ⟨engineer3, 0xFFFF, pk [], by decide, by decide, by decide, by decide⟩,
    ⟨{ engineer3 with sessions := [(3, { Session.closed with history := [seen] })] }, 2, { pk [] with seq := 7 },
      seen, _, by decide, by decide, rfl, rfl⟩,
    ⟨{ engineer3 with tick := 600000 }, 3, by decide, by decide⟩,
    ⟨{ engineer3 with inflight := [{ opcode := 0x0400, packet := pk [], started := false, aid := .none, tick := 0 }], tick := 60000 },
      3, 1, _, rfl⟩⟩

theorem witness_LeaseAndConfigurationOpcodesComplete :
    (∃ (s : State) (u : State) (p : Packet) (e : Bool) (mask : Nat) (top : Nat) (i : Nat), s.takes 0x0104 p true ∧ u
      = s.taken 0x0104 p (.flag e) ∧ p.payload.length = 8 ∧ leaseKinds (leAt p.payload 0 1) = some (mask, top) ∧
      leAt p.payload 2 2 ≤ top ∧ 100 ≤ leAt p.payload 4 4 ∧ leAt p.payload 4 4 ≤ 60000 ∧ mask / 2 ^ u.role
      p.session % 2 = 1 ∧ u.leaseOn (leAt p.payload 0 1) (leAt p.payload 2 2) = none ∧ (List.range 256).find?
      (fun i => u.leaseKind i == 0) = some i ∧ ((leAt p.payload 0 1 = 7 → e = false ∧ u.hasSurveyor = true)))
    ∧ (∃ (s : State) (u : State) (p : Packet) (i : Nat), s.takes 0x0105 p true ∧ u = s.taken 0x0105 p ∧
      p.payload.length = 4 ∧ u.leaseCheck (leAt p.payload 0 1) (leAt p.payload 2 2) p = none ∧ u.leaseOn (leAt
      p.payload 0 1) (leAt p.payload 2 2) = some i)
    ∧ (∃ (s : State) (u : State) (p : Packet), s.takes 0x0100 p true ∧ u = s.taken 0x0100 p ∧ p.payload.length = 8 ∧
      leAt p.payload 0 1 = 2 ∧ 1 ≤ leAt p.payload 2 2 ∧ leAt p.payload 2 2 ≤ 512)
    ∧ (∃ (s : State) (u : State) (p : Packet) (a : Nat) (n : Nat), s.takes 0x0100 p true ∧ u = s.taken 0x0100 p ∧
      p.payload.length = 8 ∧ a = leAt p.payload 4 4 ∧ n = leAt p.payload 2 2 ∧ 1 ≤ n ∧ n ≤ 1024 ∧ a % 4 = 0 ∧
      inBlocks a = true ∧ inBlocks (a + 4 * n - 4) = true)
    ∧ (∃ (s : State) (u : State) (p : Packet) (e : Bool) (l : List (Nat × Word)), s.takes 0x0101 p true ∧ u = s.taken
      0x0101 p (.flag e) ∧ 8 ≤ p.payload.length ∧ p.payload.length ≤ 4096 ∧ p.payload.length % 4 = 0 ∧
      u.leaseCheck 1 0 p = none ∧ ((∀ i < (p.payload.length - 4) / 4, u.stageCheck p e (leAt p.payload 0 4 + 4 *
      i) = none)) ∧ l = stageAll u.staging (leAt p.payload 0 4) (bytesWords ((p.payload.length - 4) / 4)
      (p.payload.drop 4)) ∧ l.length ≤ 4096)
    ∧ (∃ (s : State) (u : State) (p : Packet), s.takes 0x0103 p true ∧ u = s.taken 0x0103 p ∧ p.payload = [] ∧
      u.leaseCheck 1 0 p = none)
    ∧ (∃ (s : State) (u : State) (p : Packet), s.takes 0x0102 p true ∧ u = s.taken 0x0102 p ∧ p.payload = [] ∧
      u.leaseCheck 1 0 p = none)
    ∧ (∃ (s : State), s.fixes ≠ [])
    ∧ (∃ (s : State) (i : Nat), i < 256 ∧ s.leaseKind i ≠ 0 ∧ s.leaseLeft i = 0) :=
  ⟨⟨engineer3, _, pk (n8 8 ++ n8 0 ++ n16 11 ++ n32 100), false, _, _, 0, ⟨by decide, by decide, by decide, by
      decide, by decide⟩, rfl, by decide, rfl, by decide, by decide, by decide, by decide, by decide, rfl, by
      decide⟩,
    ⟨holds 8 11 engineer3, _, pk (n8 8 ++ n8 0 ++ n16 11), 0, ⟨by decide, by decide, by decide, by decide, by decide⟩,
      rfl, by decide, by decide, rfl⟩,
    ⟨engineer3, _, pk (n8 2 ++ n8 0 ++ n16 512 ++ n32 0), ⟨by decide, by decide, by decide, by decide, by decide⟩,
      rfl, by decide, by decide, by decide, by decide⟩,
    ⟨engineer3, _, pk (n8 0 ++ n8 0 ++ n16 1 ++ n32 0x1010FFFC), _, _, ⟨by decide, by decide, by decide, by decide, by
      decide⟩, rfl, by decide, rfl, rfl, by decide, by decide, by decide, by decide, by decide⟩,
    ⟨holds 1 0 engineer3, _, pk (n32 0x10010008 ++ n32 0), false, _, ⟨by decide, by decide, by decide, by decide, by
      decide⟩, rfl, by decide, by decide, by decide, by decide, by decide, rfl, by decide⟩,
    ⟨holds 1 0 engineer3, _, pk [], ⟨by decide, by decide, by decide, by decide, by decide⟩, rfl, by decide, by
      decide⟩,
    ⟨holds 1 0 engineer3, _, pk [], ⟨by decide, by decide, by decide, by decide, by decide⟩, rfl, by decide, by
      decide⟩,
    ⟨{ up with fixes := [anyFix] }, by decide⟩,
    ⟨holds 1 0 engineer3 |>.put (Reg.hostLeaseB 0) 16 16 0, 0, by decide, by decide, by decide⟩⟩

theorem witness_ControlOpcodesComplete :
    (∃ (s : State) (u : State) (p : Packet), s.takes 0x0200 p true ∧ u = s.taken 0x0200 p ∧ p.payload.length = 4 + 8
      * leAt p.payload 2 2 ∧ u.leaseCheck 2 (leAt p.payload 0 1) p = none ∧ leAt p.payload 0 1 ≤ 3 ∧ coefEntries
      p.payload ≠ [] ∧ (coefEntries p.payload).length ≤ 256 ∧ (coefEntries p.payload).all coefOk = true ∧
      u.lane.queue.length + (coefEntries p.payload).length ≤ 256)
    ∧ (∃ (s : State) (u : State) (p : Packet), s.takes 0x0201 p true ∧ u = s.taken 0x0201 p ∧ p.payload.length = 4 ∧
      u.leaseCheck 2 (leAt p.payload 0 1) p = none ∧ leAt p.payload 0 1 ≤ 3 ∧ 1 ≤ leAt p.payload 1 1 ∧ leAt
      p.payload 1 1 ≤ 64 ∧ u.lawOn (leAt p.payload 0 1) = true ∧ u.lawHeld (leAt p.payload 0 1) = false ∧ (u.law
      (leAt p.payload 0 1)).holdDue = none ∧ ((leAt p.payload 0 1 = u.vmoLaw → u.limiting = false)))
    ∧ (∃ (s : State) (u : State) (p : Packet), s.takes 0x0202 p true ∧ u = s.taken 0x0202 p ∧ p.payload.length = 8 ∧
      u.leaseCheck 2 (leAt p.payload 0 1) p = none ∧ leAt p.payload 0 1 ≤ 3 ∧ u.lawHeld (leAt p.payload 0 1) =
      true ∧ u.pendingWords (leAt p.payload 0 1) = 0 ∧ ((leAt p.payload 1 1 % 2 = 1 → word (leAt p.payload 4 4)
      = u.lrd (fun L => Reg.laneLawCoefCrc L (leAt p.payload 0 1)))))
    ∧ (∃ (s : State) (u : State) (p : Packet), s.takes 0x0203 p true ∧ u = s.taken 0x0203 p ∧ p.payload.length = 8 ∧
      u.leaseCheck 3 0 p = none ∧ u.profileCheck .host (leAt p.payload 0 1) (word (leAt p.payload 4 4)) = none)
    ∧ (∃ (s : State) (u : State) (p : Packet), s.takes 0x0204 p true ∧ u = s.taken 0x0204 p ∧ p.payload.length = 4 ∧
      u.leaseCheck 3 0 p = none ∧ u.modeCheck .host (leAt p.payload 0 1) = none) :=
  ⟨⟨holds 2 3 engineer3, _, pk (n8 3 ++ n8 0 ++ n16 1 ++ n16 2015 ++ n16 0 ++ n32 0x3F800000), ⟨by decide, by decide,
      by decide, by decide, by decide⟩, rfl, by decide, by decide, by decide, by decide, by decide, by decide, by
      decide⟩,
    ⟨(holds 2 3 engineer3).setBit (Reg.laneLawCfg 0 3) 0 true, _, pk (n8 3 ++ n8 64 ++ n16 0), ⟨by decide, by decide,
      by decide, by decide, by decide⟩, rfl, by decide, by decide, by decide, by decide, by decide, by decide, by
      decide, by decide, by decide⟩,
    ⟨(holds 2 3 engineer3).setBit (Reg.laneLawStatus 0 3) 1 true, _, pk (n8 3 ++ n8 0 ++ n16 0 ++ n32 0), ⟨by decide,
      by decide, by decide, by decide, by decide⟩, rfl, by decide, by decide, by decide, by decide, by decide, by
      decide⟩,
    ⟨holds 3 0 engineer3 |>.wr (Reg.lanePgMax 0 15) 0x3F800000, _, pk (n8 15 ++ n8 0 ++ n16 0 ++ n32 0x3F800000), ⟨by
      decide, by decide, by decide, by decide, by decide⟩, rfl, by decide, by decide, by decide⟩,
    ⟨holds 3 0 engineer3, _, pk (n32 1), ⟨by decide, by decide, by decide, by decide, by decide⟩, rfl, by decide, by
      decide, by decide⟩⟩

theorem witness_ProgramOpcodesComplete :
    (∃ (s : State) (u : State) (v : State) (p : Packet) (l : List Byte), s.takes 0x0300 p true ∧ u = s.taken 0x0300 p
      ∧ 8 ≤ p.payload.length ∧ p.payload.length ≤ 4096 ∧ u.leaseCheck 4 0 p = none ∧ u.prgRuns = false ∧ ((leAt
      p.payload 0 4 = 0 ∨ (u.prgState = 1 ∧ leAt p.payload 0 4 = u.cyc.image.length))) ∧ l = (if leAt p.payload
      0 4 = 0 then p.payload.drop 8 else u.cyc.image ++ p.payload.drop 8) ∧ v = State.setPrgState
      { u with cyc := { u.cyc with image := l } } 1)
    ∧ (∃ (s : State) (u : State) (p : Packet) (g : Program), s.takes 0x0301 p true ∧ u = s.taken 0x0301 p ∧
      p.payload.length = 4 ∧ u.leaseCheck 4 0 p = none ∧ ((u.prgState = 2 ∨ u.prgState = 5 ∨ u.prgState = 6)) ∧
      u.cyc.loaded = some g ∧ ((leAt p.payload 0 1 % 2 = 1 → u.prgState ≠ 2 ∧ g.crc = u.inForce.crc)) ∧
      u.collision g.claims = none ∧ g.claims.any u.claimMarked = false)
    ∧ (∃ (s : State) (u : State) (p : Packet), s.takes 0x0302 p true ∧ u = s.taken 0x0302 p ∧ p.payload = [] ∧
      u.leaseCheck 4 0 p = none ∧ u.prgState = 3)
    ∧ (∃ (s : State) (u : State) (p : Packet) (f : Force) (l : List Force), s.takes 0x0303 p true ∧ u = s.taken 0x0303
      p ∧ p.payload.length = 8 ∧ u.leaseCheck 5 0 p = none ∧ u.forceCheck (leAt p.payload 0 1) (leAt p.payload 2
      2) (word (leAt p.payload 4 4)) = none ∧ ((u.forceOn (leAt p.payload 0 1) (leAt p.payload 2 2) = none →
      u.cyc.forces.length < 256)) ∧ f =
      { kind := leAt p.payload 0 1, index := leAt p.payload 2 2, value := word (leAt p.payload 4 4) } ∧ (l = (if
      (u.forceOn f.kind f.index).isSome then u.cyc.forces.map (fun g => if g.kind = f.kind ∧ g.index = f.index
      then f else g) else u.cyc.forces ++ [f])))
    ∧ (∃ (s : State) (u : State) (p : Packet) (l : List Force), s.takes 0x0304 p true ∧ u = s.taken 0x0304 p ∧
      p.payload.length = 4 ∧ u.leaseCheck 5 0 p = none ∧ l = (if leAt p.payload 0 1 = 0xFF then [] else
      u.cyc.forces.filter (fun f => f.kind != leAt p.payload 0 1 || f.index != leAt p.payload 2 2))) :=
  ⟨⟨holds 4 0 engineer3, _, _, pk (n32 0 ++ n8 0 ++ n8 0 ++ n16 0), _, ⟨by decide, by decide, by decide, by decide,
      by decide⟩, rfl, by decide, by decide, by decide, by decide, by decide, rfl, rfl⟩,
    ⟨{ (holds 4 0 engineer3).put Reg.cycleStatus 0 3 2 with cyc := { CycleSt.reset with loaded := some prog0 } }, _,
      pk (n32 0), _, ⟨by decide, by decide, by decide, by decide, by decide⟩, rfl, by decide, by decide, by
      decide, rfl, by decide, by decide, by decide⟩,
    ⟨(holds 4 0 engineer3).put Reg.cycleStatus 0 3 3, _, pk [], ⟨by decide, by decide, by decide, by decide, by
      decide⟩, rfl, by decide, by decide, by decide⟩,
    ⟨holds 5 0 engineer3, _, pk (n8 1 ++ n8 0 ++ n16 31 ++ n32 1), _, _, ⟨by decide, by decide, by decide, by decide,
      by decide⟩, rfl, by decide, by decide, by decide, by decide, rfl, rfl⟩,
    ⟨holds 5 0 engineer3, _, pk (n8 0xFF ++ n8 0 ++ n16 0), _, ⟨by decide, by decide, by decide, by decide, by
      decide⟩, rfl, by decide, by decide, rfl⟩⟩

theorem witness_MemoryOpcodesComplete :
    (∃ (s : State) (u : State) (p : Packet) (host : List Byte) (k : Nat), s.takes 0x0500 p true ∧ u = s.taken 0x0500
      p (.host host k) ∧ p.payload.length = 8 ∧ leAt p.payload 0 4 % 4 = 0 ∧ leAt p.payload 4 4 % 4 = 0 ∧ 4 ≤
      leAt p.payload 4 4 ∧ leAt p.payload 4 4 ≤ 4088 ∧ u.rangeFault p.session (leAt p.payload 0 4) (leAt
      p.payload 4 4 / 4) false = none)
    ∧ (∃ (s : State) (u : State) (p : Packet) (k : Nat), s.takes 0x0501 p true ∧ u = s.taken 0x0501 p (.host [] k) ∧ 8
      ≤ p.payload.length ∧ p.payload.length ≤ 4092 ∧ leAt p.payload 0 4 % 4 = 0 ∧ (p.payload.length - 4) % 4 = 0
      ∧ u.firstRefused p (leAt p.payload 0 4) (bytesWords ((p.payload.length - 4) / 4) (p.payload.drop 4)) =
      none)
    ∧ (∃ (s : State) (u : State) (p : Packet) (va : Nat) (da : Nat) (n : Nat) (page : Nat) (m : Mapping), s.takes
      0x0502 p true ∧ u = s.taken 0x0502 p ∧ p.payload.length = 16 ∧ va = leAt p.payload 0 4 ∧ da = leAt
      p.payload 4 4 ∧ n = leAt p.payload 8 4 ∧ page = (if leAt p.payload 12 4 / 2 % 2 = 1 then 0x200000 else
      0x1000) ∧ 0 < n ∧ va % page = 0 ∧ da % page = 0 ∧ n % page = 0 ∧ va + n ≤ 2 ^ 32 ∧ da + n ≤ memSize ∧
      (u.memx.maps.filter (fun m => m.ctx == p.session)).any (fun m => overlaps va n m.vaddr m.size) = false ∧
      overlaps va n 0x10000000 0x110000 = false ∧ overlaps va n 0x80000000 (u.hostWindow p.session) = false ∧
      (u.memx.maps.filter (fun m => m.ctx == p.session)).length < 1024 ∧ m =
      { ctx := p.session, vaddr := va, daddr := da, size := n, write := leAt p.payload 12 4 % 2 == 1 })
    ∧ (∃ (s : State) (u : State) (p : Packet) (va : Nat) (n : Nat) (ms : List Mapping) (rest : List Mapping), s.takes
      0x0503 p true ∧ u = s.taken 0x0503 p ∧ p.payload.length = 8 ∧ va = leAt p.payload 0 4 ∧ n = leAt p.payload
      4 4 ∧ ms = u.memx.maps.filter (fun m => m.ctx == p.session && overlaps va n m.vaddr m.size) ∧ ms ≠ [] ∧
      ((∀ m ∈ ms, va ≤ m.vaddr ∧ m.vaddr + m.size ≤ va + n)) ∧ ms.foldl (fun a m => a + m.size) 0 = n ∧ rest =
      u.memx.maps.filter (fun m => !(m.ctx == p.session && overlaps va n m.vaddr m.size)))
    ∧ (∃ (s : State) (u : State) (p : Packet) (k : Nat), s.takes 0x0504 p true ∧ u = s.taken 0x0504 p ∧
      p.payload.length = 4 + 16 * leAt p.payload 2 2 ∧ u.ownChannel p = some k ∧ u.bit (Reg.memDmaFault (k /
      32)) (k % 32) = false ∧ u.dmaState k = 0 ∧ dmaXfers p.payload ≠ [] ∧ (dmaXfers p.payload).length ≤ 255 ∧
      (dmaXfers p.payload).all DmaXfer.ok = true)
    ∧ (∃ (s : State) (u : State) (p : Packet) (k : Nat), s.takes 0x0505 p true ∧ u = s.taken 0x0505 p ∧
      p.payload.length = 4 ∧ u.ownChannel p = some k)
    ∧ (∃ (s : State) (u : State) (p : Packet) (k : Nat), s.takes 0x0506 p true ∧ u = s.taken 0x0506 p ∧
      p.payload.length = 4 ∧ leAt p.payload 0 1 < 4 ∧ leAt p.payload 1 1 < 32 ∧ k = 32 * leAt p.payload 0 1 +
      leAt p.payload 1 1) :=
  ⟨⟨engineer3, _, pk (n32 0x10010000 ++ n32 4), [], 0, ⟨by decide, by decide, by decide, by decide, by decide⟩, rfl,
      by decide, by decide, by decide, by decide, by decide, by decide⟩,
    ⟨mapped, _, pk (n32 0x1FFC ++ n32 7), 1, ⟨by decide, by decide, by decide, by decide, by decide⟩, rfl, by decide,
      by decide, by decide, by decide, by decide⟩,
    ⟨engineer3, _, pk (n32 0x1000 ++ n32 0xFFF000 ++ n32 0x1000 ++ n32 1), _, _, _, _, _, ⟨by decide, by decide, by
      decide, by decide, by decide⟩, rfl, by decide, rfl, rfl, rfl, rfl, by decide, by decide, by decide, by
      decide, by decide, by decide, by decide, by decide, by decide, by decide, rfl⟩,
    ⟨mapped, _, pk (n32 0x1000 ++ n32 0x1000), _, _, _, _, ⟨by decide, by decide, by decide, by decide, by decide⟩,
      rfl, by decide, rfl, rfl, rfl, by decide, by decide, rfl, rfl⟩,
    ⟨owned, _, pk (n8 3 ++ n8 31 ++ n16 1 ++ n32 0 ++ n32 0 ++ n32 4 ++ n32 0), 127, ⟨by decide, by decide, by decide,
      by decide, by decide⟩, rfl, by decide, rfl, by decide, by decide, by decide, by decide, by decide⟩,
    ⟨owned, _, pk (n8 3 ++ n8 31 ++ n16 0), 127, ⟨by decide, by decide, by decide, by decide, by decide⟩, rfl, by
      decide, rfl⟩,
    ⟨owned, _, pk (n8 3 ++ n8 31 ++ n16 0), _, ⟨by decide, by decide, by decide, by decide, by decide⟩, rfl, by
      decide, by decide, by decide, rfl⟩⟩

theorem witness_DirectRegisterRowsComplete :
    (∃ (s : State) (p : Packet) (v : Word), s.takes 0x0501 p true ∧ (s.takenWrite p).writesReg p Reg.convOwTest v)
    ∧ (∃ (s : State) (p : Packet) (v : Word) (l : Nat), s.takes 0x0501 p true ∧ (s.takenWrite p).writesReg p
      (Reg.laneRedCmd l) v ∧ l < 2 ∧ field v 0 8 = 0xA5)
    ∧ (∃ (s : State) (p : Packet) (v : Word) (l : Nat), s.takes 0x0501 p true ∧ (s.takenWrite p).writesReg p
      (Reg.laneRedCmd l) v ∧ l < 2 ∧ field v 0 8 = 0x5A)
    ∧ (∃ (s : State) (p : Packet) (v : Word) (l : Nat), s.takes 0x0501 p true ∧ (s.takenWrite p).writesReg p
      (Reg.pwmTripClr l) v ∧ l < 2)
    ∧ (∃ (s : State) (p : Packet) (v : Word) (w : Nat), s.takes 0x0501 p true ∧ (s.takenWrite p).writesReg p
      (Reg.memBadpage 0 + 4 * w) v ∧ w < 128)
    ∧ (∃ (s : State) (p : Packet) (v : Word) (e : Nat), s.takes 0x0501 p true ∧ (s.takenWrite p).writesReg p
      (Reg.memDmaFault 0 + 4 * e) v ∧ e < 4)
    ∧ (∃ (s : State) (p : Packet) (v : Word) (q : Nat), s.takes 0x0501 p true ∧ (s.takenWrite p).writesReg p
      (Reg.fabPortCmd 0 + 0x10 * q) v ∧ q < 4) :=
  ⟨⟨engineer3.put (Reg.convAinCfg 63) 0 2 2, pk (n32 (Reg.convOwTest) ++ n32 (63)), _, ⟨by decide, by decide, by
      decide, by decide, by decide⟩, ⟨by decide, by decide, rfl, by decide, by decide, by decide⟩⟩,
    ⟨(holds 3 0 engineer3).setBit (Reg.laneRedStatus 0) 0 true |>.setBit (Reg.laneRedStatus 1) 1 true |>.setBit
      (Reg.laneRedStatus 1) 2 true, pk (n32 (Reg.laneRedCmd 1) ++ n32 (0xA5)), _, 1, ⟨by decide, by decide, by
      decide, by decide, by decide⟩, ⟨by decide, by decide, rfl, by decide, by decide, by decide⟩, by decide, by
      decide⟩,
    ⟨holds 3 0 engineer3, pk (n32 (Reg.laneRedCmd 1) ++ n32 (0x5A)), _, 1, ⟨by decide, by decide, by decide, by
      decide, by decide⟩, ⟨by decide, by decide, rfl, by decide, by decide, by decide⟩, by decide, by decide⟩,
    ⟨engineer3, pk (n32 (Reg.pwmTripClr 1) ++ n32 (79)), _, 1, ⟨by decide, by decide, by decide, by decide, by
      decide⟩, ⟨by decide, by decide, rfl, by decide, by decide, by decide⟩, by decide⟩,
    ⟨engineer3, pk (n32 (Reg.memBadpage 127) ++ n32 (0x80000000)), _, 127, ⟨by decide, by decide, by decide, by
      decide, by decide⟩, ⟨by decide, by decide, rfl, by decide, by decide, by decide⟩, by decide⟩,
    ⟨engineer3, pk (n32 (Reg.memDmaFault 3) ++ n32 (0x80000000)), _, 3, ⟨by decide, by decide, by decide, by decide,
      by decide⟩, ⟨by decide, by decide, rfl, by decide, by decide, by decide⟩, by decide⟩,
    ⟨engineer3, pk (n32 (Reg.fabPortCmd 3) ++ n32 (1)), _, 3, ⟨by decide, by decide, by decide, by decide, by decide⟩,
      ⟨by decide, by decide, rfl, by decide, by decide, by decide⟩, by decide⟩⟩

theorem witness_ClockAndBusRegisterRowsComplete :
    (∃ (s : State) (p : Packet) (v : Word), s.takes 0x0501 p true ∧ (s.takenWrite p).writesReg p Reg.netTcAdj v ∧
      field v 31 1 = 1)
    ∧ (∃ (s : State) (p : Packet) (v : Word), s.takes 0x0501 p true ∧ (s.takenWrite p).writesReg p Reg.netTcAdj v ∧
      field v 31 1 = 0)
    ∧ (∃ (s : State) (p : Packet) (v : Word), s.takes 0x0501 p true ∧ (s.takenWrite p).writesReg p Reg.netTcSetsec v)
    ∧ (∃ (s : State) (p : Packet) (v : Word) (n : Nat), s.takes 0x0501 p true ∧ (s.takenWrite p).writesReg p
      (Reg.netCanCmd 0 + 0x200 * n) v ∧ n < 4 ∧ field v 0 1 = 1)
    ∧ (∃ (s : State) (p : Packet) (v : Word) (n : Nat), s.takes 0x0501 p true ∧ (s.takenWrite p).writesReg p
      (Reg.netCanCmd 0 + 0x200 * n) v ∧ n < 4 ∧ field v 1 1 = 1)
    ∧ (∃ (s : State) (p : Packet) (v : Word), s.takes 0x0501 p true ∧ (s.takenWrite p).writesReg p Reg.sysResetCmd v)
    ∧ (∃ (s : State) (p : Packet) (v : Word), s.takes 0x0501 p true ∧ (s.takenWrite p).writesReg p Reg.perfClear v)
    ∧ (∃ (s : State) (p : Packet) (a : Nat) (v : Word) (r : RegRow), s.takes 0x0501 p true ∧ (s.takenWrite p).writesReg
      p a v ∧ regRow a = some r ∧ ownRow a = false) :=
  ⟨⟨holds 8 0 engineer3, pk (n32 (Reg.netTcAdj) ++ n32 (0x80000000)), _, ⟨by decide, by decide, by decide, by decide,
      by decide⟩, ⟨by decide, by decide, rfl, by decide, by decide, by decide⟩, by decide⟩,
    ⟨holds 8 0 engineer3, pk (n32 (Reg.netTcAdj) ++ n32 (1)), _, ⟨by decide, by decide, by decide, by decide, by
      decide⟩, ⟨by decide, by decide, rfl, by decide, by decide, by decide⟩, by decide⟩,
    ⟨holds 8 0 engineer3, pk (n32 (Reg.netTcSetsec) ++ n32 (1)), _, ⟨by decide, by decide, by decide, by decide, by
      decide⟩, ⟨by decide, by decide, rfl, by decide, by decide, by decide⟩⟩,
    ⟨engineer3.put (Reg.netCanStat 3) 0 2 2 |>.put (Reg.netCanCfg 3) 0 2 1, pk (n32 (Reg.netCanCmd 3) ++ n32 (1)), _,
      3, ⟨by decide, by decide, by decide, by decide, by decide⟩, ⟨by decide, by decide, rfl, by decide, by
      decide, by decide⟩, by decide, by decide⟩,
    ⟨engineer3.put (Reg.netCanCfg 3) 0 2 1, pk (n32 (Reg.netCanCmd 3) ++ n32 (2)), _, 3, ⟨by decide, by decide, by
      decide, by decide, by decide⟩, ⟨by decide, by decide, rfl, by decide, by decide, by decide⟩, by decide, by
      decide⟩,
    ⟨engineer3, pk (n32 (Reg.sysResetCmd) ++ n32 (0x5AA5)), _, ⟨by decide, by decide, by decide, by decide, by
      decide⟩, ⟨by decide, by decide, rfl, by decide, by decide, by decide⟩⟩,
    ⟨engineer3, pk (n32 (Reg.perfClear) ++ n32 (1)), _, ⟨by decide, by decide, by decide, by decide, by decide⟩, ⟨by
      decide, by decide, rfl, by decide, by decide, by decide⟩⟩,
    ⟨engineer3, pk (n32 0x10010004 ++ n32 1), 0x10010004, _, _, ⟨by decide, by decide, by decide, by decide, by
      decide⟩, ⟨by decide, by decide, rfl, by decide, by decide, by decide⟩, rfl, by decide⟩⟩

theorem witness_ShutterOpcodesComplete :
    (∃ (s : State) (u : State) (p : Packet), s.takes 0x0400 p true ∧ u = s.taken 0x0400 p ∧ p.payload.length = 4 ∧
      u.leaseCheck 6 (leAt p.payload 0 1) p = none ∧ u.shutCheck .host (leAt p.payload 0 1) = none ∧ u.admits
      (leAt p.payload 0 1) (.arm (leAt p.payload 1 1 % 2 == 1)) = true)
    ∧ (∃ (s : State) (u : State) (p : Packet), s.takes 0x0401 p true ∧ u = s.taken 0x0401 p ∧ p.payload.length = 4 ∧
      u.leaseCheck 6 (leAt p.payload 0 1) p = none ∧ u.shutCheck .host (leAt p.payload 0 1) = none ∧ u.admits
      (leAt p.payload 0 1) .stop = true)
    ∧ (∃ (s : State) (u : State) (p : Packet), s.takes 0x0402 p true ∧ u = s.taken 0x0402 p ∧ p.payload.length = 4 ∧
      u.leaseCheck 6 (leAt p.payload 0 1) p = none ∧ u.shutCheck .host (leAt p.payload 0 1) = none ∧ u.admits
      (leAt p.payload 0 1) .trigger = true)
    ∧ (∃ (s : State) (u : State) (p : Packet), s.takes 0x0403 p true ∧ u = s.taken 0x0403 p ∧ p.payload.length = 8 ∧
      u.leaseCheck 6 (leAt p.payload 0 1) p = none ∧ u.shutCheck .host (leAt p.payload 0 1) = none ∧ leAt
      p.payload 4 4 ≤ (u.rd (Reg.shutSSeq (leAt p.payload 0 1))).toNat)
    ∧ (∃ (s : State) (u : State) (p : Packet), s.takes 0x0404 p true ∧ u = s.taken 0x0404 p ∧ p.payload.length = 4 ∧
      leAt p.payload 0 1 < 8) :=
  ⟨⟨(holds 6 7 engineer3).setBit (Reg.shutSCfg 7) 0 true, _, pk (n8 7 ++ n8 1 ++ n16 0), ⟨by decide, by decide, by
      decide, by decide, by decide⟩, rfl, by decide, by decide, by decide, by decide⟩,
    ⟨(holds 6 7 engineer3).setBit (Reg.shutSCfg 7) 0 true |>.setShutState 7 1, _, pk (n8 7 ++ n8 0 ++ n16 0), ⟨by
      decide, by decide, by decide, by decide, by decide⟩, rfl, by decide, by decide, by decide, by decide⟩,
    ⟨(holds 6 7 engineer3).setBit (Reg.shutSCfg 7) 0 true |>.setShutState 7 1, _, pk (n8 7 ++ n8 0 ++ n16 0), ⟨by
      decide, by decide, by decide, by decide, by decide⟩, rfl, by decide, by decide, by decide, by decide⟩,
    ⟨(holds 6 7 engineer3).setBit (Reg.shutSCfg 7) 0 true, _, pk (n8 7 ++ n8 0 ++ n16 0 ++ n32 0), ⟨by decide, by
      decide, by decide, by decide, by decide⟩, rfl, by decide, by decide, by decide, by decide⟩,
    ⟨(holds 6 7 engineer3).setBit (Reg.shutSCfg 7) 0 true, _, pk (n8 7 ++ n8 0 ++ n16 0), ⟨by decide, by decide, by
      decide, by decide, by decide⟩, rfl, by decide, by decide⟩⟩

theorem witness_EventOpcodesComplete :
    (∃ (s : State) (u : State) (p : Packet), s.takes 0x0601 p true ∧ u = s.taken 0x0601 p ∧ 4 ≤ p.payload.length ∧
      p.payload.length = 4 + 4 * leAt p.payload 2 2 ∧ 1 ≤ leAt p.payload 2 2 ∧ leAt p.payload 2 2 ≤ 32 ∧
      u.eventRingCheck p (leAt p.payload 0 1) true = none)
    ∧ (∃ (s : State) (u : State) (p : Packet), s.takes 0x0602 p true ∧ u = s.taken 0x0602 p ∧ p.payload.length = 4 ∧
      u.eventRingCheck p (leAt p.payload 0 1) true = none)
    ∧ (∃ (s : State) (u : State) (p : Packet), s.takes 0x0603 p true ∧ u = s.taken 0x0603 p ∧ p.payload.length = 4 ∧ 1
      ≤ leAt p.payload 1 1 ∧ leAt p.payload 0 1 + leAt p.payload 1 1 ≤ 32)
    ∧ (∃ (s : State) (u : State) (p : Packet), s.takes 0x0604 p true ∧ u = s.taken 0x0604 p ∧ p.payload = [])
    ∧ (∃ (s : State), s.perf.sheet = true) :=
  ⟨⟨(engineer3.setBit (Reg.memRingCfg 38) 25 true).put (Reg.memRingCfg 38) 17 7 3, _, pk (n8 38 ++ n8 0 ++ n16 32 ++
      List.replicate 128 0), ⟨by decide, by decide, by decide, by decide, by decide⟩, rfl, by decide, by decide,
      by decide, by decide, by decide⟩,
    ⟨(engineer3.setBit (Reg.memRingCfg 38) 25 true).put (Reg.memRingCfg 38) 17 7 3, _, pk (n8 38 ++ n8 0 ++ n16 0),
      ⟨by decide, by decide, by decide, by decide, by decide⟩, rfl, by decide, by decide⟩,
    ⟨engineer3, _, pk (n8 31 ++ n8 1 ++ n16 0), ⟨by decide, by decide, by decide, by decide, by decide⟩, rfl, by
      decide, by decide, by decide⟩,
    ⟨engineer3, _, pk [], ⟨by decide, by decide, by decide, by decide, by decide⟩, rfl, by decide⟩,
    ⟨{ up with perf := { PerfSt.reset with sheet := true } }, by decide⟩⟩

theorem witness_StatusReadReturnsEveryBlock :
    ∃ (s : State) (u : State) (p : Packet), s.takes 0x0600 p true ∧ u = s.taken 0x0600 p ∧ p.payload = [] :=
  ⟨engineer3, _, pk [], ⟨by decide, by decide, by decide, by decide, by decide⟩, rfl, by decide⟩

theorem witness_FabricOpcodesComplete :
    (∃ (s : State) (u : State) (p : Packet), s.takes 0x0700 p true ∧ u = s.taken 0x0700 p ∧ p.payload = [])
    ∧ (∃ (s : State) (u : State) (p : Packet) (node : Nat) (n : Nat) (port : Nat) (r : NodeRead), s.takes 0x0701 p true
      ∧ u = s.taken 0x0701 p ∧ p.payload.length = 12 ∧ node = leAt p.payload 0 2 % 2 ^ 12 ∧ n = leAt p.payload 8
      2 ∧ u.knowsNode node = true ∧ 1 ≤ n ∧ n ≤ 256 ∧ deviceRange (leAt p.payload 4 4) n = true ∧ port =
      (u.wayPorts node 0 ++ u.wayPorts node 1).head?.getD 4 ∧ r =
      { packet := p, tag := u.fab.seq, node := node, start := u.tick, port := port })
    ∧ (∃ (s : State) (u : State) (v : State) (p : Packet), s.takes 0x0702 p true ∧ u = s.taken 0x0702 p ∧ p.payload =
      [] ∧ u.hasSurveyor = true ∧ v = (u.setSurvey { u.fab.survey with cmds := u.fab.survey.cmds ++ [p] }).pend
      0x0702 p)
    ∧ (∃ (s : State) (u : State) (v : State) (p : Packet) (cycle : Nat), s.takes 0x0703 p true ∧ u = s.taken 0x0703 p ∧
      p.payload = [] ∧ u.leaseCheck 7 0 p = none ∧ u.hasSurveyor = true ∧ u.fab.tt.dist = none ∧ cycle = (if
      u.isSurveyor then (u.rd Reg.fabCycle).toNat + 16 else 0) ∧ v = ((u.setTt
      { u.fab.tt with swap := some cycle, swapCmd := some p }).setBit Reg.fabTtStat 15 true).pend 0x0703 p) :=
  ⟨⟨engineer3, _, pk [], ⟨by decide, by decide, by decide, by decide, by decide⟩, rfl, by decide⟩,
    ⟨engineer3.put Reg.fabNode 0 12 4095, _, pk (n16 4095 ++ n16 0 ++ n32 0x10010000 ++ n16 256 ++ n16 0), _, _, _, _,
      ⟨by decide, by decide, by decide, by decide, by decide⟩, rfl, by decide, rfl, rfl, by decide, by decide, by
      decide, by decide, rfl, rfl⟩,
    ⟨engineer3.setBit Reg.fabStatus 1 true, _, _, pk [], ⟨by decide, by decide, by decide, by decide, by decide⟩, rfl,
      by decide, by decide, rfl⟩,
    ⟨(holds 7 0 engineer3).setBit Reg.fabStatus 1 true, _, _, pk [], _, ⟨by decide, by decide, by decide, by decide,
      by decide⟩, rfl, by decide, by decide, by decide, by decide, rfl, rfl⟩⟩

theorem witness_SecurityOpcodesComplete :
    (∃ (s : State) (u : State) (p : Packet) (t : Transfer) (l : List (Nat × Nat)), s.takes 0x0800 p true ∧ u =
      s.taken 0x0800 p ∧ p.payload.length = 8 ∧ 1 ≤ leAt p.payload 0 1 ∧ leAt p.payload 0 1 ≤ 3 ∧ ((leAt
      p.payload 0 1 ≠ 1 → u.role p.session = engineer)) ∧ 256 ≤ leAt p.payload 4 4 ∧ bodyLengthOk (leAt
      p.payload 0 1) (leAt p.payload 4 4 - 256) = true ∧ ((∀ o, u.sec.image.transfer = some o → o.session =
      p.session)) ∧ t = Transfer.mk p.session (leAt p.payload 0 1) (leAt p.payload 4 4) 0 true false p ∧ l =
      sparseSet (fun _ => 0) u.sec.image.pending (leAt p.payload 0 1) 0)
    ∧ (∃ (s : State) (u : State) (p : Packet) (t : Transfer), s.takes 0x0802 p true ∧ u = s.taken 0x0802 p ∧ p.payload
      = [] ∧ u.sec.image.transfer = some t ∧ t.session = p.session ∧ t.erasing = false ∧ t.verifying = false ∧
      t.length ≤ t.next)
    ∧ (∃ (s : State) (u : State) (p : Packet), s.takes 0x0803 p true ∧ u = s.taken 0x0803 p ∧ p.payload = [])
    ∧ (∃ (s : State) (u : State) (p : Packet), s.takes 0x0804 p true ∧ u = s.taken 0x0804 p ∧ p.payload.length = 6 ∧ 1
      ≤ leAt p.payload 4 2 ∧ leAt p.payload 4 2 ≤ 127)
    ∧ (∃ (s : State) (u : State) (p : Packet) (i : Nat) (flags : Nat) (key : List Byte), s.takes 0x0805 p true ∧ u =
      s.taken 0x0805 p ∧ p.payload.length = 116 ∧ i = leAt p.payload 0 1 ∧ flags = leAt p.payload 3 1 ∧ key =
      (p.payload.drop 4).take 96)
    ∧ (∃ (s : State) (u : State) (p : Packet), s.takes 0x0806 p true ∧ u = s.taken 0x0806 p ∧ p.payload.length = 4 ∧
      leAt p.payload 0 1 % 2 ≠ u.sec.certSteps % 2 ∧ u.sec.certSteps < 16 ∧ ((leAt p.payload 0 1 % 2 = 1 →
      u.certFails = none)))
    ∧ (∃ (s : State) (u : State) (v : State) (p : Packet), s.takes 0x0807 p true ∧ u = s.taken 0x0807 p ∧
      p.payload.length = 4 ∧ ((∀ i < 4, leAt p.payload 0 4 / 2 ^ i % 2 = 1 → u.bit Reg.secTamperStat (4 + i) =
      false)) ∧ v = ((List.range 4).foldl (fun s i => if leAt p.payload 0 4 / 2 ^ i % 2 = 1 then s.setBit
      Reg.secTamperStat i false else s) u).finish 0x0807 p .ok []) :=
  ⟨⟨engineer3, _, pk (n8 2 ++ n8 0 ++ n16 0 ++ n32 592), _, _, ⟨by decide, by decide, by decide, by decide, by
      decide⟩, rfl, by decide, by decide, by decide, by decide, by decide, by decide, (by intro o h; cases h),
      rfl, rfl⟩,
    ⟨{ engineer3 with sec := { SecSt.reset with image := { ImageSt.reset with transfer := some (Transfer.mk 3 2 592 592 false false (pk [])) } } },
      _, pk [], _, ⟨by decide, by decide, by decide, by decide, by decide⟩, rfl, by decide, rfl, by decide, by
      decide, by decide, by decide⟩,
    ⟨engineer3, _, pk [], ⟨by decide, by decide, by decide, by decide, by decide⟩, rfl, by decide⟩,
    ⟨engineer3, _, pk (n32 0 ++ n16 127), ⟨by decide, by decide, by decide, by decide, by decide⟩, rfl, by decide, by
      decide, by decide⟩,
    ⟨admin3, _, pk (List.replicate 116 0), _, _, _, ⟨by decide, by decide, by decide, by decide, by decide⟩, rfl, by
      decide, rfl, rfl, rfl⟩,
    ⟨{ admin3 with sec := { SecSt.reset with certSteps := 15 } }, _, pk (n32 0), ⟨by decide, by decide, by decide, by
      decide, by decide⟩, rfl, by decide, by decide, by decide, by decide⟩,
    ⟨admin3, _, _, pk (n32 15), ⟨by decide, by decide, by decide, by decide, by decide⟩, rfl, by decide, by decide,
      rfl⟩⟩

theorem witness_ImageDataWritesTheInactiveSlot :
    (∃ (s : State) (u : State) (p : Packet) (t : Transfer), s.takes 0x0801 p true ∧ u = s.taken 0x0801 p ∧ 8 ≤
      p.payload.length ∧ p.payload.length ≤ 4092 ∧ u.sec.image.transfer = some t ∧ t.erasing = false ∧
      t.verifying = false)
    ∧ (∃ (s : State) (u : State) (p : Packet), s.takes 0x0801 p true ∧ u = s.taken 0x0801 p ∧ 8 ≤ p.payload.length ∧
      p.payload.length ≤ 4092 ∧ u.sec.image.transfer = none) :=
  ⟨⟨{ engineer3 with sec := { SecSt.reset with image := { ImageSt.reset with transfer := some (Transfer.mk 3 2 592 0 false false (pk [])) } } },
      _, pk (n32 0 ++ n32 0), _, ⟨by decide, by decide, by decide, by decide, by decide⟩, rfl, by decide, by
      decide, rfl, by decide, by decide⟩,
    ⟨engineer3, _, pk (n32 0 ++ n32 0), ⟨by decide, by decide, by decide, by decide, by decide⟩, rfl, by decide, by
      decide, by decide⟩⟩

theorem witness_SafetyOpcodesComplete :
    (∃ (s : State) (u : State) (p : Packet), s.takes 0x0900 p true ∧ u = s.taken 0x0900 p ∧ p.payload = [])
    ∧ (∃ (s : State) (u : State) (p : Packet), s.takes 0x0901 p true ∧ u = s.taken 0x0901 p ∧ p.payload = [])
    ∧ (∃ (s : State) (u : State) (p : Packet) (testOk : Bool) (e : Nat), s.takes 0x0902 p true ∧ u = s.taken 0x0902 p
      (.flag testOk) ∧ p.payload.length = 4 ∧ u.remoteReset = true ∧ u.bit Reg.safeStatus 4 = true ∧ word (leAt
      p.payload 0 4) = u.rd Reg.safeLockoutCount ∧ u.safe.arm = none ∧ u.standing testOk = [] ∧ e = ((u.rd
      Reg.safeTick).toNat + 1 + u.fld Reg.safeLockoutCfg 9 4 * 1000) % 2 ^ 32)
    ∧ (∃ (s : State) (u : State) (v : State) (p : Packet) (l : List Packet), s.takes 0x0903 p true ∧ u = s.taken 0x0903
      p ∧ p.payload.length = 8 ∧ l = u.safe.confirms ++ [p] ∧ v =
      { u with safe := { u.safe with confirms := l } }) :=
  ⟨⟨engineer3, _, pk [], ⟨by decide, by decide, by decide, by decide, by decide⟩, rfl, by decide⟩,
    ⟨engineer3, _, pk [], ⟨by decide, by decide, by decide, by decide, by decide⟩, rfl, by decide⟩,
    ⟨engineer3.setBit Reg.safeLockoutCfg 8 true |>.setBit Reg.safeStatus 4 true, _, pk (n32 0), false, _, ⟨by decide,
      by decide, by decide, by decide, by decide⟩, rfl, by decide, by decide, by decide, by decide, by decide, by
      decide, rfl⟩,
    ⟨engineer3, _, _, pk (n32 0 ++ n32 0), _, ⟨by decide, by decide, by decide, by decide, by decide⟩, rfl, by decide,
      rfl, rfl⟩⟩

theorem witness_TicksAndSamplesComplete :
    (∃ (s : State) (vsys : Nat) (vin : Nat) (temp : Nat), 2 ≤ s.fld Reg.sysBoot 0 4)
    ∧ (∃ (s : State) (r : State) (u : State) (v : State) (now : Nat) (corrected : Nat) (n : Nat) (diag : List
      LaneFault) (agree : Bool) (linkA : Bool) (linkB : Bool) (vmo : Bool), s.sampleAt now = true ∧ r = (s.reach
      now).countUp Reg.memEccCorr 0 16 corrected ∧ n = (r.lrd Reg.laneSample + 1).toNat ∧ u = r.startSample n ∧
      vmo = (u.xfOn && u.lawDue u.vmoLaw n) ∧ v = u.computeSample n vmo)
    ∧ (∃ (s : State) (r : State) (u : State) (v : State), r = s.finishHold ∧ r.schedRuns = false ∧ u = (List.range
      4).foldl (fun s l => (s.applyWords l).showCoefCrc l) r ∧ u.someLane = true ∧ v = u.openDecision.showLane) :=
  ⟨⟨up.put Reg.sysBoot 0 4 2, 0, 0, 0, by decide⟩,
    ⟨ticking, _, _, _, 400, 1, _, [], true, true, true, _, by decide, rfl, rfl, rfl, rfl, rfl⟩,
    ⟨formed, _, _, _, rfl, by decide, rfl, by decide, rfl⟩⟩

theorem witness_ConversionRowsComplete :
    (∃ (s : State) (u : State) (c : Nat) (level : Int) (code : Int) (clip : Bool), c < 64 ∧ s.outputsRun = true ∧ u =
      s.takeItems (fun a => a == Reg.convAinCfg c) State.applyConv ∧ code = clampInt (-32768) 32767 level ∧ clip
      = decide (code ≠ level))
    ∧ (∃ (s : State) (u : State) (c : Nat), c < 64 ∧ s.bankBit Reg.convOwStatus0 c = false ∧ 0 < (s.ain c).owCount ∧
      s.fld (Reg.convAinCfg c) 16 8 ≤ (s.ain c).owCount ∧ u = s.setBankBit Reg.convOwStatus0 c true)
    ∧ (∃ (s : State) (u : State) (c : Nat), c < 64 ∧ s.bankBit Reg.convOwStatus0 c = true ∧ s.fld (Reg.convAinCfg c) 16
      8 ≤ (s.ain c).owClear ∧ 0 < (s.ain c).owClear ∧ u = s.setBankBit Reg.convOwStatus0 c false)
    ∧ (∃ (s : State) (c : Nat) (n : Nat), (s.ain c).test = some n ∧ 20 * s.fld (Reg.convAinCfg c) 24 8 ≤ n)
    ∧ (∃ (s : State), s.calRuns = true ∧ s.conv.spare.comparing = false)
    ∧ (∃ (s : State), s.calRuns = true ∧ s.conv.spare.comparing = false ∧ s.conv.spare.checkFailed = false)
    ∧ (∃ (s : State) (sumDiff : Int) (v : Spare) (l : List (Nat × Nat)), s.calRuns = true ∧ v = s.conv.spare ∧
      v.comparing = true ∧ sumDiff.natAbs ≤ 512 ∧ l = sparseSet id v.attached v.input (s.fld Reg.convStatus 0 7))
    ∧ (∃ (s : State) (sumDiff : Int) (v : Spare), s.calRuns = true ∧ v = s.conv.spare ∧ v.comparing = true ∧ 512 <
      sumDiff.natAbs ∧ v.compareFailed = false) :=
  ⟨⟨up, _, 63, 32768, _, _, by decide, by decide, rfl, rfl, rfl⟩,
    ⟨up.setAin 63 { AinSt.idle with owCount := 16 }, _, 63, by decide, by decide, by decide, by decide, rfl⟩,
    ⟨(up.setAin 63 { AinSt.idle with owClear := 16 }).setBankBit Reg.convOwStatus0 63 true, _, 63, by decide, by
      decide, by decide, by decide, rfl⟩,
    ⟨up.setAin 63 { AinSt.idle with test := some 500 }, 63, _, rfl, by decide⟩,
    ⟨up, by decide, by decide⟩,
    ⟨up, by decide, by decide, by decide⟩,
    ⟨up.setSpare { Spare.start with comparing := true }, 512, _, _, by decide, rfl, by decide, by decide, rfl⟩,
    ⟨up.setSpare { Spare.start with comparing := true }, -513, _, by decide, rfl, by decide, by decide, by decide⟩⟩

theorem witness_BitstreamAndFilterRowsComplete :
    (∃ (s : State) (u : State) (m : Nat), m < 16 ∧ s.bsEnabled m = true ∧ s.bsStale m = false ∧ u = (s.setBit
      Reg.convBsStatus m true).setBit Reg.convBsStatus (16 + m) false)
    ∧ (∃ (s : State) (m : Nat), m < 16 ∧ s.outputsRun = true ∧ s.bsEnabled m = true ∧ s.bsStale m = true)
    ∧ (∃ (s : State) (u : State) (m : Nat) (p : Nat) (bits : List Bool), m < 16 ∧ p < 4 ∧ s.outputsRun = true ∧
      s.bsEnabled m = true ∧ s.bsStale m = false ∧ bits.length = sincDecim p ∧ u = s.sincFeed m p bits)
    ∧ (∃ (s : State) (c : Nat) (p : Nat), p < 4 ∧ c < 64 ∧ s.isSettled c p = false ∧ s.sarSettled c p = true)
    ∧ (∃ (s : State) (c : Nat) (p : Nat), p < 4 ∧ 64 ≤ c ∧ c < 80 ∧ s.isSettled c p = false ∧ 3 ≤ (s.sinc (c - 64)
      p).wins)
    ∧ (∃ (s : State) (u : State) (k : Nat) (now : Nat) (pw : PwmSt), k < 64 ∧ (s.cmp k).due = true ∧ s.bit
      (Reg.filtThrCfg k) 0 = true ∧ pw = { s.pwm with now := max now s.pwm.now } ∧ u = { s with pwm := pw }) :=
  ⟨⟨up.setBit (Reg.convBsCfg 15) 0 true, _, 15, by decide, by decide, by decide, rfl⟩,
    ⟨up.setBit (Reg.convBsCfg 15) 0 true |>.setBit Reg.convBsStatus 15 true, 15, by decide, by decide, by decide, by
      decide⟩,
    ⟨up.setBit (Reg.convBsCfg 15) 0 true, _, 15, 0, List.replicate 16 true, by decide, by decide, by decide, by
      decide, by decide, by decide, rfl⟩,
    ⟨{ up with conv := { ConvSt.reset with sar := [(63, { codes := [], since := 10 })] } }, 63, 1, by decide, by
      decide, by decide, by decide⟩,
    ⟨{ up with conv := { ConvSt.reset with sinc := [(63, { Sinc.flushed with wins := 3 })] } }, 79, 3, by decide, by
      decide, by decide, by decide, by decide⟩,
    ⟨(up.setCmp 63 { Cmp.idle with due := true }).setBit (Reg.filtThrCfg 63) 0 true, _, 63, 0, _, by decide, by
      decide, by decide, rfl, rfl⟩⟩

theorem witness_GroupRowsComplete :
    (∃ (s : State) (u : State) (g : Nat) (now : Nat) (dt : Nat), g < 16 ∧ s.pwm.now ≤ now ∧ (s.triggerAt g now ||
      (s.takeGroup g).triggerAt g now) = true ∧ u = s.takeGroup g ∧ u.triggerAt g now = true)
    ∧ (∃ (s : State) (u : State) (g : Nat) (seq : Nat) (time : Word), (s.group g).sample = some (time, seq) ∧ (s.group
      g).await = [] ∧ u = s.setGroup g { s.group g with sample := none })
    ∧ (∃ (s : State) (u : State) (g : Nat) (r : Nat) (seq : Nat) (b : List Byte) (bytes : List Byte) (rest : List (List
      Byte × Nat)), (s.group g).queue = (b, seq) :: rest ∧ r = 16 + s.fld (Reg.convGrpCfg g) 8 4 ∧ bytes = (if
      (s.group g).dropped = 0 then [] else markerBytes (s.group g).dropped g (s.group g).firstDropped) ++ b ∧ u
      = s.setGroup g { s.group g with queue := rest }) :=
  ⟨⟨ticking.setBit (Reg.convGrpCfg 15) 0 true, _, 15, 400, 7, by decide, by decide, by decide, rfl, by decide⟩,
    ⟨up.setGroup 15 { Group.idle with sample := some (0, 1) }, _, 15, _, _, rfl, by decide, rfl⟩,
    ⟨up.setGroup 15 { Group.idle with queue := [([], 1)] }, _, 15, _, _, _, _, _, rfl, rfl, rfl, rfl⟩⟩

theorem witness_LawAndRideThroughRowsComplete :
    (∃ (s : State) (u : State) (l : Nat), l < 4 ∧ s.invalidDue l = true ∧ u = (s.setLaw l
      { s.law l with limitDone := true }).raiseLane 4 [])
    ∧ (∃ (s : State) (u : State) (l : Nat), l < 4 ∧ (s.law l).expired = true ∧ u = (s.setLaw l
      { s.law l with expired := false }).raiseLane 0 [])
    ∧ (∃ (s : State), s.modes.stage.gateFall = true ∧ s.pwm.relDue = [])
    ∧ (∃ (s : State), s.exitDue = true ∧ s.mayDecide 4 = true ∧ s.mayEnter s.retMode = true)
    ∧ (∃ (s : State), s.isLate 5 = false ∧ s.expiryDue = true ∧ s.exitDue = false ∧ s.mayDecide 2 = true)
    ∧ (∃ (s : State), s.isLate 5 = true)
    ∧ (∃ (s : State) (u : State) (v : SecondarySt), s.bit Reg.fabSecCfg 0 = true ∧ v = s.modes.second ∧ v.lost = false
      ∧ 3 ≤ v.missed ∧ u = { s with modes := { s.modes with second := { v with lost := true } } }) :=
  ⟨⟨(active.setBit (Reg.laneLawCfg 0 3) 0 true).setLaw 3 { LawSt.idle with invalid := 16 }, _, 3, by decide, by
      decide, rfl⟩,
    ⟨active.setLaw 3 { LawSt.idle with expired := true }, _, 3, by decide, by decide, rfl⟩,
    ⟨active.setStage { StageSt.reset with gateFall := true }, by decide, by decide⟩,
    ⟨{ inMode 6 with lane := { LaneSt.reset with exitCount := 64 } }, by decide, by decide, by decide⟩,
    ⟨(inMode 6).setWait { WaitSt.reset with tfc := some (State.reset.tfc) }, by decide, by decide, by decide, by
      decide⟩,
    ⟨lateIn 5, by decide⟩,
    ⟨{ (active.setBit Reg.fabSecCfg 0 true) with modes := { ModeSt.reset with second := { ModeSt.reset.second with missed := 3 } } },
      _, _, by decide, rfl, by decide, by decide, rfl⟩⟩

theorem witness_LinkAndBusRowsComplete :
    (∃ (s : State) (u : State) (w : WaitSt), s.mode = .precharge ∧ s.pcDone = false ∧ s.pcConfirm < s.modes.wait.band
      ∧ u = s.setModeBit 15 true ∧ w = { u.modes.wait with charging := none })
    ∧ (∃ (s : State), s.isLate 7 = false ∧ s.chargeTimeout = true ∧ s.modes.wait.band ≤ s.pcConfirm ∧ s.mayDecide 2 =
      true)
    ∧ (∃ (s : State), s.isLate 7 = false ∧ s.chargeTimeout = false ∧ s.mode = .standby ∧ s.pcTimeout <
      s.modes.wait.route ∧ s.mayDecide 6 = true)
    ∧ (∃ (s : State), s.isLate 7 = true)
    ∧ (∃ (s : State) (u : State), s.isLate 0xD = false ∧ s.linkLost = true ∧ u = (s.setModeBit 15 false).raiseLane 0x2F
      [])
    ∧ (∃ (s : State), s.isLate 0xD = true)
    ∧ (∃ (s : State) (u : State) (m : ModeSt), s.deadDue = true ∧ m = { s.modes with alone := !s.hasFabric } ∧ u =
      { s with modes := m })
    ∧ (∃ (s : State), s.liveDue = true)
    ∧ (∃ (s : State), s.mode = .precharge ∧ s.routeTimeout < s.modes.wait.route ∧ s.deadDue = false ∧ s.liveDue = false)
    ∧ (∃ (s : State), s.syncExpired = true ∧ s.canClose = false ∧ s.mayDecide 5 = true ∧ s.mayEnter .precharge = true) :=
  ⟨⟨(inMode 2).setWait { WaitSt.reset with band := 0x1000000000 }, _, _, by decide, by decide, by decide, rfl, rfl⟩,
    ⟨(inMode 2).setWait { WaitSt.reset with charging := some 0x10000000000 }, by decide, by decide, by decide, by
      decide⟩,
    ⟨(inMode 1).setWait { WaitSt.reset with route := 0x10000000000 }, by decide, by decide, by decide, by decide, by
      decide⟩,
    ⟨lateIn 7, by decide⟩,
    ⟨((inMode 5).setBit (Reg.laneMode 0) 15 true).setWait { WaitSt.reset with out := 0x1000000000 }, _, by decide, by
      decide, rfl⟩,
    ⟨lateIn 0xD, by decide⟩,
    ⟨{ active with lane := { LaneSt.reset with dq := [(2, { d := 0, q := 0, valid := true })] }, modes := { ModeSt.reset with wait := { WaitSt.reset with dead := 0x10000000000 } } },
      _, _, by decide, rfl, rfl⟩,
    ⟨{ active.wr (Reg.laneModeVb 0) 0x3F800000 with lane := { LaneSt.reset with dq := [(2, { d := 0, q := 0, valid := true })] }, modes := { ModeSt.reset with wait := { WaitSt.reset with live := 0x10000000000 } } },
      by decide⟩,
    ⟨(inMode 2).setWait { WaitSt.reset with route := 0x10000000000 }, by decide, by decide, by decide, by decide⟩,
    ⟨(inMode 4).setWait { WaitSt.reset with inMode := 0x10000000000 }, by decide, by decide, by decide, by decide⟩⟩

theorem witness_BreakerRowsComplete :
    (∃ (s : State), s.rampDone = true ∧ s.mayDecide 5 = true ∧ s.mayEnter .gridForming = true)
    ∧ (∃ (s : State), s.unloadDone = true)
    ∧ (∃ (s : State) (u : State), s.unloading = true ∧ s.modes.stop.opened = false ∧ s.modes.stop.expired = false ∧
      s.unloadTimeout ≤ s.modes.stop.time ∧ s.unloadDone = false ∧ u = (s.setStop
      { s.modes.stop with expired := true }).raiseLane 0x2B [])
    ∧ (∃ (s : State) (closed : Bool), s.modes.brk.fbKnown = false)
    ∧ (∃ (s : State) (closed : Bool), s.modes.brk.fbKnown = true ∧ closed ≠ s.brkFb)
    ∧ (∃ (s : State) (b : BrkSt), s.isLate 8 = false ∧ s.closeFailed = true ∧ b = { s.modes.brk with back := true })
    ∧ (∃ (s : State) (u : State), s.isLate 8 = false ∧ s.closeFailed = false ∧ s.openFailed = true ∧ u = (s.raiseLane
      0x26 []).setModeBit 17 false)
    ∧ (∃ (s : State), s.isLate 8 = true) :=
  ⟨⟨ramped, by decide, by decide, by decide⟩,
    ⟨{ (inMode 5).setBit (Reg.laneMode 0) 12 true with modes := { ModeSt.reset with stop := { ModeSt.reset.stop with count := 64 } } },
      by decide⟩,
    ⟨{ (inMode 5).setBit (Reg.laneMode 0) 12 true with modes := { ModeSt.reset with stop := { ModeSt.reset.stop with time := 0x10000000000 } } },
      _, by decide, by decide, by decide, by decide, by decide, rfl⟩,
    ⟨inMode 0, true, by decide⟩,
    ⟨{ inMode 5 with modes := { ModeSt.reset with brk := { ModeSt.reset.brk with fbKnown := true } } }, true, by
      decide, by decide⟩,
    ⟨{ (inMode 4).setBit (Reg.laneMode 0) 16 true with modes := { ModeSt.reset with brk := { ModeSt.reset.brk with closeTime := 0x10000000000 } } },
      _, by decide, by decide, rfl⟩,
    ⟨{ ((inMode 5).setBit (Reg.laneMode 0) 17 true).setBit (Reg.laneMode 0) 18 true with modes := { ModeSt.reset with brk := { ModeSt.reset.brk with openTime := 0x10000000000 } } },
      _, by decide, by decide, by decide, rfl⟩,
    ⟨lateIn 8, by decide⟩⟩

theorem witness_LaneRowsComplete :
    (∃ (s : State) (now : Nat) (l : Nat), l < 2 ∧ s.pwm.now ≤ now ∧ (s.schedPoint now = true ∨ s.schedRuns = false) ∧
      s.isActive l = true ∧ s.isActive (1 - l) = false ∧ (s.redOf l).faulty = true)
    ∧ (∃ (s : State) (l : Nat), l < 2 ∧ s.computes l = true ∧ s.computes (1 - l) = true ∧ (s.redOf (1 - l)).faulty =
      false)
    ∧ (∃ (s : State) (u : State) (l : Nat), l < 2 ∧ s.isFailed l = true ∧ (s.redOf l).waiting = true ∧ u = s.finishHold
      ∧ u.mayRecover l = true)
    ∧ (∃ (s : State) (u : State) (l : Nat), l < 2 ∧ s.isFailed l = true ∧ (s.redOf l).waiting = true ∧ u = s.finishHold
      ∧ u.mayRecover l = false)
    ∧ (∃ (s : State) (u : State) (l : Nat) (pass : Bool), l < 2 ∧ s.isRecovering l = true ∧ u = s.setBit
      (Reg.laneRedStatus l) 9 false)
    ∧ (∃ (s : State) (r : State) (u : State) (v : State) (l : Nat), l < 2 ∧ r = s.finishHold ∧ r.isStandby l = true ∧
      r.isActive (1 - l) = true ∧ r.bit (Reg.laneRedStatus l) 10 = true ∧ u = dynamicRegs.foldl (fun s f => s.wr
      (f l) (s.rd (f (1 - l)))) r ∧ v = (u.setBit (Reg.laneRedStatus l) 10 false).setStepCount l 0)
    ∧ (∃ (s : State) (r : State) (u : State) (v : State) (l : Nat), l < 2 ∧ r = s.finishHold ∧ r.isStandby l = true ∧
      r.isActive (1 - l) = true ∧ r.bit (Reg.laneRedStatus l) 10 = false ∧ r.bit (Reg.laneRedStatus l) 11 = true
      ∧ (r.redOf l).coefLeft = 0 ∧ u = (List.range 4).foldl (fun s k => s.wr (Reg.laneLawCoefCrc l k) (s.rd
      (Reg.laneLawCoefCrc (1 - l) k))) r ∧ v = (u.setBit (Reg.laneRedStatus l) 11 false).setStepCount l 0)
    ∧ (∃ (s : State) (l : Nat), l < 2 ∧ s.isStandby l = true ∧ (s.redOf l).syncing = true ∧ 16 ≤ s.stepCount l) :=
  ⟨⟨active.setRed 0 { RedSt.idle with faulty := true }, 0, 0, by decide, by decide, by decide, by decide, by decide,
      by decide⟩,
    ⟨active.setBit (Reg.laneRedStatus 1) 1 true, 1, by decide, by decide, by decide, by decide⟩,
    ⟨((active.setBit (Reg.laneRedStatus 1) 8 true).put (Reg.laneRedCfg 0) 0 5 31).setRed 1
      { RedSt.idle with waiting := true }, _, 1, by decide, by decide, by decide, rfl, by decide⟩,
    ⟨(active.setBit (Reg.laneRedStatus 1) 8 true).setRed 1 { RedSt.idle with waiting := true, bootFailed := true }, _,
      1, by decide, by decide, by decide, rfl, by decide⟩,
    ⟨active.setBit (Reg.laneRedStatus 1) 9 true, _, 1, true, by decide, by decide, rfl⟩,
    ⟨active.setBit (Reg.laneRedStatus 1) 1 true |>.setBit (Reg.laneRedStatus 1) 10 true, _, _, _, 1, by decide, rfl,
      by decide, by decide, by decide, rfl, rfl⟩,
    ⟨active.setBit (Reg.laneRedStatus 1) 1 true |>.setBit (Reg.laneRedStatus 1) 11 true, _, _, _, 1, by decide, rfl,
      by decide, by decide, by decide, by decide, by decide, rfl, rfl⟩,
    ⟨active.setBit (Reg.laneRedStatus 1) 1 true |>.setRed 1 { RedSt.idle with syncing := true } |>.setStepCount 1 16,
      1, by decide, by decide, by decide, by decide⟩⟩

theorem witness_PwmRowsComplete :
    (∃ (s : State), s.pwm.epochDue = true)
    ∧ (∃ (s : State) (t : Nat) (now : Nat), s.tbRuns t = true ∧ s.pwm.now ≤ now ∧ (s.tbAt t now).2 = 0)
    ∧ (∃ (s : State) (r : State) (u : State) (v : State) (t : Nat) (now : Nat), s.pwm.now ≤ now ∧ s.isUpdate t now =
      true ∧ r = s.reach now ∧ u = (if (r.tbAt t now).2 = 0 then r.changeTb t now else r) ∧ u.isUpdate t now =
      true ∧ v = (if u.schedPoint now && u.modes.changeDue then u.commandedChange now else u))
    ∧ (∃ (s : State) (i : Nat) (held : Nat) (now : Nat) (high : Bool), i < 16 ∧ s.pwm.now ≤ now ∧ 4 * s.fld
      (Reg.pwmTripCfg 0 i) 17 8 ≤ held ∧ s.padAsserts i high ≠ s.tripAsserted i)
    ∧ (∃ (s : State) (u : State) (w : Nat) (now : Nat), w < 48 ∧ s.pwm.now ≤ now ∧ s.windowOpen w now = false ∧ u =
      s.reach now)
    ∧ (∃ (s : State) (now : Nat), s.pwm.now ≤ now) :=
  ⟨⟨{ up with pwm := { PwmSt.reset with epochDue := true } }, by decide⟩,
    ⟨ticking, 11, 0, by decide, by decide, by decide⟩,
    ⟨ticking, _, _, _, 0, 1000, by decide, by decide, rfl, rfl, by decide, rfl⟩,
    ⟨up, 15, 1020, 0, true, by decide, by decide, by decide, by decide⟩,
    ⟨up, _, 47, 0, by decide, by decide, by decide, rfl⟩,
    ⟨up, 0, by decide⟩⟩

theorem witness_GateRowsComplete :
    (∃ (s : State) (g : Nat) (c : Nat), g < 16 ∧ c < 48 ∧ s.occupied g c = true ∧ (s.chanState c).ended = true)
    ∧ (∃ (s : State) (c : Nat) (elapsed : Nat) (now : Nat) (volts : Int), c < 48 ∧ s.pwm.now ≤ now ∧ s.phaseEnds c
      elapsed volts = true)
    ∧ (∃ (s : State) (p : Nat), p < 24 ∧ s.mayRefresh p = true ∧ s.atLowerZero p = true ∧ ((s.refresh p).first = true ∨
      s.fld (Reg.gatePairCfg p) 12 6 + 1 ≤ (s.refresh p).count))
    ∧ (∃ (s : State) (c : Nat) (sns : Nat) (since : Nat), c < 48 ∧ s.bit (Reg.gateChCfg c) 16 = true ∧ (s.chanState c =
      .turnOn ∨ s.chanState c = .on) ∧ 20 * s.fld (Reg.gateChProt c) 8 8 ≤ since ∧ s.scAbove c sns = true)
    ∧ (∃ (s : State) (u : State) (c : Nat) (kind : Nat) (level : Int), c < 48 ∧ kind < 3 ∧ u = s.monSupply c kind level
      ∧ u.supplyTest c kind = true ∧ u.supplyFails c kind level = true ∧ u.bit (Reg.gateChStatus c) (4 + kind) =
      false ∧ (u.eff c = .on ∨ u.eff c = .off ∨ u.chanState c = .turnOn ∨ u.chanState c = .on ∨ u.chanState c =
      .turnOff ∨ u.chanState c = .softOff))
    ∧ (∃ (s : State) (u : State) (c : Nat) (kind : Nat) (level : Int), c < 48 ∧ kind < 3 ∧ u = s.monSupply c kind level
      ∧ u.supplyTest c kind = true ∧ u.supplyFails c kind level = true ∧ u.bit (Reg.gateChStatus c) (4 + kind) =
      false ∧ u.eff c ≠ .on ∧ u.eff c ≠ .off ∧ u.chanState c = .off)
    ∧ (∃ (s : State) (u : State) (c : Nat) (temp : Int), c < 48 ∧ u = s.monTemp c temp ∧ 150 ≤ temp ∧ u.chanState c ≠
      .disabled ∧ u.bit (Reg.gateChStatus c) 8 = false)
    ∧ (∃ (s : State) (u : State) (c : Nat) (temp : Int), c < 48 ∧ u = s.monTemp c temp ∧ temp ≤ 135)
    ∧ (∃ (s : State) (r : State) (u : State) (c : Nat) (kind : Nat) (level : Int), c < 48 ∧ kind < 3 ∧ r = s.monSupply
      c kind level ∧ r.bit (Reg.gateChStatus c) (4 + kind) = true ∧ (r.supplyGood c kind level = true ∨
      r.supplyTest c kind = false) ∧ u = r.setBit (Reg.gateChStatus c) (4 + kind) false)
    ∧ (∃ (s : State) (u : State) (c : Nat) (sns : Nat) (kind : Nat), c < 48 ∧ (s.gch c).wait = some 0 ∧ s.chanState c =
      .fault ∧ kind = s.fld (Reg.gateChStatus c) 9 3 ∧ u = (if kind = 3 then s.setBit (Reg.gateChStatus c) 7
      (s.scAbove c sns) else s)) :=
  ⟨⟨up.setOccupied 15 47 true, 15, 47, by decide, by decide, by decide, by decide⟩,
    ⟨(up.put (Reg.gateChStatus 47) 0 4 5).wr (Reg.gateChOff 47) 0, 47, 0, 0, 0, by decide, by decide, by decide⟩,
    ⟨refreshing, 23, by decide, by decide, by decide, by decide⟩,
    ⟨(up.put (Reg.gateChStatus 47) 0 4 3).setBit (Reg.gateChCfg 47) 16 true, 47, 20000, 5100, by decide, by decide, by
      decide, by decide, by decide⟩,
    ⟨up.put (Reg.gateChStatus 47) 0 4 4, _, 47, 1, 0, by decide, by decide, rfl, by decide, by decide, by decide, by
      decide⟩,
    ⟨up.put (Reg.gateChStatus 47) 0 4 2, _, 47, 1, 0, by decide, by decide, rfl, by decide, by decide, by decide, by
      decide, by decide, by decide⟩,
    ⟨up.put (Reg.gateChStatus 47) 0 4 2, _, 47, 150, by decide, rfl, by decide, by decide, by decide⟩,
    ⟨up.put (Reg.gateChStatus 47) 0 4 2, _, 47, 135, by decide, rfl, by decide⟩,
    ⟨up.setBit (Reg.gateChStatus 47) 5 true, _, _, 47, 1, 400, by decide, by decide, rfl, by decide, by decide, rfl⟩,
    ⟨(up.setGch 47 { GateCh.idle with wait := some 0 }).put (Reg.gateChStatus 47) 0 4 7, _, 47, 0, _, by decide, rfl,
      by decide, rfl, rfl⟩⟩

theorem witness_SafetyTickRowsComplete :
    (∃ (s : State) (raw : Word) (rstA : Bool) (rstB : Bool) (testOk : Bool) (closedA : Nat) (closedB : Nat) (voltage
      : Nat) (persist : List Nat) (r : TickRest), s.procOk = true ∧ r =
      { closedA := closedA, closedB := closedB, voltage := voltage, testOk := testOk, persist := persist })
    ∧ (∃ (s : State) (i : Nat), i < 16 ∧ s.procOk = true ∧ s.discDue i = true)
    ∧ (∃ (s : State) (u : State) (n : Nat) (opened : Nat) (closed : Nat) (b : Bool), n < 8 ∧ s.procOk = true ∧
      s.pulseDue n = true ∧ b = (s.outTest n).nextB ∧ u = s.setOutTest n { age := 0, nextB := !b })
    ∧ (∃ (s : State) (n : Nat), n < 8 ∧ s.procOk = true ∧ s.bit Reg.safeOutState (24 + n) = false)
    ∧ (∃ (s : State) (testOk : Bool) (persist : List Nat), s.localDue = true ∧ (s.tryRelease testOk persist).2 = true)
    ∧ (∃ (s : State) (u : State) (testOk : Bool) (persist : List Nat) (r : LocalReset), s.localDue = true ∧ u =
      (s.tryRelease testOk persist).1 ∧ (s.tryRelease testOk persist).2 = false ∧ r =
      { u.safe.rst with hold := 0, lowA := false, lowB := false })
    ∧ (∃ (s : State), s.procOk = true ∧ (500 < s.safe.rst.aloneA ∨ 500 < s.safe.rst.aloneB) ∧ s.safe.rst.ignored =
      false) :=
  ⟨⟨safeUp, 0, false, false, true, 0, 0, 0, [], _, by decide, rfl⟩,
    ⟨(safeUp.put (Reg.safeInCfg 15) 0 2 1).setSafeIn 15 { SafeIn.idle with disc := 4095 }, 15, by decide, by decide,
      by decide⟩,
    ⟨(safeUp.setBit Reg.safeOutState 7 true).setOutTest 7 { age := 0x1000000, nextB := true }, _, 7, 1000, 1100, _, by
      decide, by decide, by decide, rfl, rfl⟩,
    ⟨safeUp, 7, by decide, by decide, by decide⟩,
    ⟨(safeUp.setBit Reg.safeStatus 5 true).setRst { LocalReset.idle with hold := 2550 }, true, [], by decide, by
      decide⟩,
    ⟨{ (safeUp.setBit Reg.safeStatus 5 true).setRst { LocalReset.idle with hold := 2550 } with safe := { SafeSt.reset with causes := [(7, 0)], rst := { LocalReset.idle with hold := 2550 } } },
      _, false, [], _, by decide, rfl, by decide, rfl⟩,
    ⟨safeUp.setRst { LocalReset.idle with aloneB := 501 }, by decide, by decide, by decide⟩⟩

theorem witness_LatticeAndSafeStreamRowsComplete :
    (∃ (s : State) (i : Nat), i < 16 ∧ s.latticeMarked i = true ∧ s.safe.diag.demand / 2 ^ i % 2 = 0)
    ∧ (∃ (s : State) (i : Nat), i < 16 ∧ s.safe.diag.demand / 2 ^ i % 2 = 1)
    ∧ (∃ (s : State) (ok : Bool), s.procOk = true ∧ 10 ≤ s.safe.diag.busLow ∧ testAge < s.safe.diag.testTick)
    ∧ (∃ (s : State) (u : State) (v : State) (m : List (Nat × Word)) (w : SafeSt), s.procOk = true ∧ u = (s.countUp
      Reg.safeDiag 0 4 1).setBit Reg.safeStatus 8 false ∧ v = ((u.setDiag
      { u.safe.diag with restarting := true, restarted := false }).latticeLatches 5 0).showProc ∧ m = sparseSet
      resetValue v.safe.mirror Reg.safeStatus (v.mirrorWord Reg.safeStatus &&& ~~~(word (2 ^ 8))) ∧ w =
      { v.safe with rest := none, mirror := m })
    ∧ (∃ (s : State) (d : SafeDiag), s.safe.diag.restarting = true ∧ d =
      { s.safe.diag with restarting := false, restarted := true })
    ∧ (∃ (s : State) (r : Nat), r < 16 ∧ s.procOk = true ∧ s.windowDue r = true)
    ∧ (∃ (s : State) (u : State) (a : Arm) (w : SafeSt), s.safe.arm = some a ∧ a.expired = false ∧ (s.tickPast a.expiry
      = true ∨ (s.rd Reg.safeTick).toNat = a.expiry) ∧ w =
      { s.safe with arm := some { a with expired := true } } ∧ u = { s with safe := w }) :=
  ⟨⟨safeUp.setBit (Reg.safeInCfg 15) 14 true, 15, by decide, by decide, by decide⟩,
    ⟨safeUp.setDiag { SafeDiag.reset with demand := 0x8000 }, 15, by decide, by decide⟩,
    ⟨safeUp.setDiag { SafeDiag.reset with busLow := 10, testTick := testAge + 1 }, true, by decide, by decide, by
      decide⟩,
    ⟨safeUp, _, _, _, _, by decide, rfl, rfl, rfl, rfl⟩,
    ⟨safeUp.setDiag { SafeDiag.reset with restarting := true }, _, by decide, rfl⟩,
    ⟨{ safeUp.put Reg.safeRxState 30 2 1 with safe := { SafeSt.reset with subs := [(15, { SafeSub.idle with window := 63000 })] } },
      15, by decide, by decide, by decide⟩,
    ⟨{ safeUp with safe := { SafeSt.reset with arm := some { session := 3, challenge := 0, expiry := 0, expired := false } } },
      _, _, _, rfl, by decide, by decide, rfl, rfl⟩⟩

theorem witness_ProgramRowsComplete :
    (∃ (s : State) (u : State) (t : Nat) (dio : Word), t < 8 ∧ s.prgRuns = true ∧ s.isStart t = true ∧ ((∀ k < t,
      s.isStart k = false)) ∧ u = s.setTask t
      { s.task t with point := s.tick + 1, limit := s.fld Reg.cycleWdCfg 0 4 + 1 })
    ∧ (∃ (s : State) (t : Nat), s.prgRuns = true ∧ s.watchdogDue t = true)
    ∧ (∃ (s : State) (c : Nat) (i : Nat), c < 16 ∧ s.prgRuns = true ∧ s.bit Reg.cycleCores c = true ∧ s.bit
      Reg.cycleCores (16 + c) = false ∧ s.nextCall = some i)
    ∧ (∃ (s : State) (i : Nat) (rest : Nat) (cycles : Nat) (corrected : Nat) (e : BlockEffect) (r : CallRun) (c :
      Call), s.cyc.calls.find? (fun r => r.index == i && r.effect.isNone) = some r ∧ s.inForce.calls[i]? = some
      c)
    ∧ (∃ (s : State) (c : Nat × Nat) (cs : List (Nat × Nat)) (dio : Word), s.cyc.causes = c :: cs ∧ s.prgState = 3 ∧
      (s.task 8).running = false)
    ∧ (∃ (s : State), s.prgState = 4 ∧ ((∀ t < 9, (s.task t).running = false)) ∧ s.cyc.stop = none)
    ∧ (∃ (s : State) (p : Packet), s.prgState = 4 ∧ ((∀ t < 9, (s.task t).running = false)) ∧ s.cyc.stop = some p)
    ∧ (∃ (s : State) (u : State) (v : State) (run : Bool) (stop : Bool) (new : Nat), new = keyPosition run stop ∧ u =
      (s.setBit Reg.cycleKey 2 run).setBit Reg.cycleKey 3 stop ∧ s.fld Reg.cycleKey 0 2 ≠ new ∧ v = ((u.put
      Reg.cycleKey 0 2 new).showSource).raise 0x0A09 [])
    ∧ (∃ (s : State), s.hostAlive = true ∧ s.cyc.hostTick + s.fld Reg.cycleKeyCfg 0 10 * 100 ≤ s.tick) :=
  ⟨⟨running, _, 0, 0, by decide, by decide, by decide, by decide, rfl⟩,
    ⟨{ running with tick := 100, cyc := { CycleSt.reset with tasks := [(8, { TaskSt.idle with running := true })] } },
      8, by decide, by decide⟩,
    ⟨{ running.setBit Reg.cycleCores 15 true with cyc := { CycleSt.reset with prog := some prog1, tasks := [(0, { TaskSt.idle with running := true })] } },
      15, _, by decide, by decide, by decide, by decide, rfl⟩,
    ⟨{ running with cyc := { CycleSt.reset with prog := some prog1, calls := [{ index := 0, core := 0, inputs := [], outAt := 1, effect := none }] } },
      0, 0, 0, 1, noEffect, _, _, rfl, rfl⟩,
    ⟨{ running with cyc := { CycleSt.reset with causes := [(1, 2)] } }, _, _, 0, rfl, by decide, by decide⟩,
    ⟨up.put Reg.cycleStatus 0 3 4, by decide, by decide, by decide⟩,
    ⟨{ up.put Reg.cycleStatus 0 3 4 with cyc := { CycleSt.reset with stop := some (pk []) } }, _, by decide, by
      decide, rfl⟩,
    ⟨up, _, _, true, true, _, rfl, rfl, by decide, rfl⟩,
    ⟨{ up.setBit Reg.cycleKey 4 true with tick := 60000 }, by decide, by decide⟩⟩

theorem witness_MemoryRowsComplete :
    (∃ (s : State) (u : State) (region : Nat) (addr : Nat) (ctx : Nat) (channel : Nat) (dma : Bool) (r : Retry) (m :
      MemSt), region < 5 ∧ ((region = 0 → addr < memSize ∧ s.pageMarked addr = false)) ∧ r =
      { region := region, addr := addr, ctx := ctx, dma := dma, channel := channel, marks := true, burst := none }
      ∧ m = { s.memx with retries := s.memx.retries ++ [r] } ∧ u = { s with memx := m })
    ∧ (∃ (s : State) (u : State) (addr : Nat) (ctx : Nat) (channel : Nat) (dma : Bool) (r : Retry) (m : MemSt), r =
      { region := 5, addr := addr, ctx := ctx, dma := dma, channel := channel, marks := true, burst := none } ∧
      m = { s.memx with retries := s.memx.retries ++ [r] } ∧ u = { s with memx := m })
    ∧ (∃ (s : State) (u : State) (r : Retry) (rs : List Retry) (ok : Bool) (m : MemSt), s.memx.retries = r :: rs ∧ m =
      { s.memx with retries := rs } ∧ u = { s with memx := m })
    ∧ (∃ (s : State) (u : State) (corrected : Nat) (m : MemSt), u = s.countUp Reg.memEccCorr 0 16 corrected ∧ m =
      { u.memx with scrub := (s.memx.scrub + 64) % memSize })
    ∧ (∃ (s : State) (u : State) (p : Nat) (m : MemSt) (l : List Host.Cell), s.memx.clearing.contains p = true ∧ m =
      { s.memx with clearing := s.memx.clearing.filter (· != p) } ∧ l = s.mem.filter (fun e => e.1 / 0x1000 !=
      p) ∧ u = { s with mem := l, memx := m })
    ∧ (∃ (s : State) (b : Nat) (q : Nat) (beats : Nat) (wait : Nat) (qs : List Nat) (rest : List Nat) (withdrawn :
      Bool), b < 16 ∧ qs.filter (fun q => requester q && !(q == 16 && s.bankHoldsFilm b)) = q :: rest)
    ∧ (∃ (s : State) (b : Nat) (w : FilmWord), s.shut.film.find? (fun w => w.addr / 0x100000 == b) = some w ∧
      s.bankHoldsFilm b = true)
    ∧ (∃ (s : State) (u : State) (r : List Word) (rs : List (List Word)) (m : MemSt), s.memx.records = r :: rs ∧ m =
      { s.memx with records := rs } ∧ u = { s with memx := m })
    ∧ (∃ (s : State) (e : Nat) (k : Nat) (err : Nat) (corrected : Nat) (host : List Byte) (x : DmaXfer) (xs : List
      DmaXfer), e < 4 ∧ s.dmaNext e = some k ∧ (s.dmaCh k).xfers = x :: xs)
    ∧ (∃ (s : State) (r : Nat) (n : Nat) (bytes : List Byte), 16 ≤ r ∧ r < 64 ∧ (r < 32 ∨ 40 ≤ r) ∧ s.ringEnabled r =
      true ∧ 1 ≤ n ∧ bytes.length ≤ 56 * n)
    ∧ (∃ (s : State) (r : Nat) (n : Nat) (l : List RingUnit), 16 ≤ r ∧ r < 64 ∧ n ≤ s.ringFill r ∧ l = retireDescs n
      (s.ring r).units) :=
  ⟨⟨up, _, 0, 0xFFFFFF, 0, 0, false, _, _, by decide, by decide, rfl, rfl, rfl⟩,
    ⟨up, _, 0, 0, 127, true, _, _, rfl, rfl, rfl⟩,
    ⟨{ up with memx := { MemSt.reset with retries := [{ region := 0, addr := 0, ctx := 3, dma := false, channel := 0, marks := true, burst := none }] } },
      _, _, _, false, _, rfl, rfl, rfl⟩,
    ⟨up, _, 1, _, rfl, rfl⟩,
    ⟨{ up with memx := { MemSt.reset with clearing := [4095] } }, _, 4095, _, _, by decide, rfl, rfl, rfl⟩,
    ⟨up, 15, 47, 8, 3, [47], [], false, by decide, rfl⟩,
    ⟨filming, 15, _, rfl, by decide⟩,
    ⟨{ up with memx := { MemSt.reset with records := [[]] } }, _, _, _, _, rfl, rfl, rfl⟩,
    ⟨bursting, 3, 127, 0, 1, [], _, _, by decide, rfl, rfl⟩,
    ⟨up.setBit (Reg.memRingCfg 63) 25 true, 63, 1, [], by decide, by decide, by decide, by decide, by decide, by
      decide⟩,
    ⟨up, 63, 0, _, by decide, by decide, by decide, rfl⟩⟩

theorem witness_ShutterRowsComplete :
    (∃ (s : State) (q : Nat) (pads : Word) (dio : Word) (sins : Word) (dt : Nat), s.sampleDue q = true)
    ∧ (∃ (s : State) (q : Nat) (back : Nat) (frac : Nat) (held : Nat) (pads : Word) (dio : Word) (sins : Word),
      s.patternDue q back frac held pads dio sins = true)
    ∧ (∃ (s : State) (q : Nat) (e : ShutEnd) (t : ShutTrig), (s.shutRun q).closing = some e ∧ (s.shutRun q).trig = some
      t) :=
  ⟨⟨{ up.setBit (Reg.shutSCfg 7) 0 true with shut := { ShutSt.reset with runs := [(7, { Shut.idle with pace := 65536 })] } },
      7, 0, 0, 0, 0, by decide⟩,
    ⟨(up.setBit (Reg.shutSCfg 7) 0 true).setShutState 7 1 |>.put (Reg.shutSTrig 7) 0 2 1, 7, 0, 255, 0, 0, 0, 0, by
      decide⟩,
    ⟨{ up with shut := { ShutSt.reset with runs := [(7, { Shut.idle with closing := some { status := 0, zone := 0, mask := 0 }, trig := some { kind := 0, frac := 0, time := 0, lead := 0, post := 0 } })] } },
      7, _, _, rfl, rfl⟩⟩

theorem witness_PcieAndSpiRowsComplete :
    (∃ (s : State) (gen : Nat) (width : Nat), 1 ≤ gen ∧ gen ≤ 3 ∧ 1 ≤ width ∧ width ≤ 2)
    ∧ (∃ (s : State) (u : State) (v : State) (c : Nat) (tail : Nat) (setup : List (Nat × Word)), c < 5 ∧ s.bit
      Reg.hostStatus 0 = true ∧ u = (s.writeWindow c setup).wr (winReg c 0x0C) (word (tail % 256)) ∧ v = (if
      u.bit (winReg c 0x08) 8 then u.put (winReg c 0x10) 0 8 (tail % u.winSlots c 0x08) else u))
    ∧ (∃ (s : State) (c : Nat) (head : Nat), c < 5 ∧ s.bit Reg.hostStatus 0 = true)
    ∧ (∃ (s : State) (u : State) (v : State) (down : Bool) (l : List (Nat × Word)), u = s.faultSessions (fun c =>
      decide (c < 5)) ∧ l = u.regs.filter (fun e => !(decide (0x100000000 ≤ e.1) && decide (e.1 < 0x100000500)))
      ∧ v = { u with regs := l })
    ∧ (∃ (s : State) (a : Nat) (v : Word), s.certMode = false ∧ a < memSize ∧ a % 4 = 0 ∧ s.pageMarked a = false)
    ∧ (∃ (s : State) (a : Nat) (v : Word), (s.certMode = true ∨ inBlocks a = true))
    ∧ (∃ (s : State) (whole : Bool), s.serves 7 = true ∧ (s.net.spi = .idle ∨ s.net.spi = .writing))
    ∧ (∃ (s : State) (whole : Bool), s.serves 7 = true ∧ (s.net.spi = .idle ∨ s.net.spi = .reading false))
    ∧ (∃ (s : State), s.serves 7 = true ∧ s.net.spi = .idle)
    ∧ (∃ (s : State), s.net.spi = .writing) :=
  ⟨⟨up, 3, 2, by decide, by decide, by decide, by decide⟩,
    ⟨up.setBit Reg.hostStatus 0 true, _, _, 4, 255, [], by decide, by decide, rfl, rfl⟩,
    ⟨up.setBit Reg.hostStatus 0 true, 4, 0, by decide, by decide⟩,
    ⟨up, _, _, true, _, rfl, rfl, rfl⟩,
    ⟨up, 0xFFFFFC, 1, by decide, by decide, by decide, by decide⟩,
    ⟨up, 0x10010000, 0, by decide⟩,
    ⟨up, false, by decide, by decide⟩,
    ⟨up, false, by decide, by decide⟩,
    ⟨up, by decide, by decide⟩,
    ⟨{ up with net := { NetSt.reset with spi := .writing } }, by decide⟩⟩

theorem witness_EthernetAndCanRowsComplete :
    (∃ (s : State) (p : Nat) (dt : Nat) (f : EthFrame), p < 2 ∧ s.fld (Reg.netEthCfg p) 0 3 ≠ 0 ∧ s.bit
      (Reg.netEthStat p) 0 = true ∧ ethGood f = true)
    ∧ (∃ (s : State) (p : Nat) (dt : Nat) (f : EthFrame), p < 2 ∧ s.fld (Reg.netEthCfg p) 0 3 ≠ 0 ∧ s.bit
      (Reg.netEthStat p) 0 = true ∧ ethGood f = false)
    ∧ (∃ (s : State) (p : Nat) (what : Nat) (dt : Nat) (tsReq : Bool) (last : Bool), s.hasFrame p what = true)
    ∧ (∃ (s : State) (u : State) (p : Nat) (speed : Nat) (mode : Nat), p < 2 ∧ s.ethClock = true ∧ mode = s.fld
      (Reg.netEthCfg p) 0 3 ∧ mode ∈ [1, 2, 3, 4, 5] ∧ (ethSpeeds mode).contains speed = true ∧ u = (s.setBit
      (Reg.netEthStat p) 0 true).put (Reg.netEthStat p) 1 2 speed)
    ∧ (∃ (s : State) (p : Nat), p < 2)
    ∧ (∃ (s : State) (p : Nat) (key : Nat) (t : Nat) (v : NetSt), (p, key, t) ∈ s.net.reasm ∧ t + 20 ≤ s.tick ∧ v =
      { s.net with reasm := s.net.reasm.filter (fun r => !(r.1 == p && r.2.1 == key)) })
    ∧ (∃ (s : State) (p : Nat), p < 2 ∧ s.bit (Reg.netEthStat p) 0 = false ∧ sparseGet (fun _ => 0) s.net.downTick p +
      1000 ≤ s.tick)
    ∧ (∃ (s : State) (u : State) (n : Nat) (dt : Nat) (errors : Nat) (tec : Nat) (rec' : Nat) (f : CanFrame), n < 4 ∧
      s.canFormat n ≠ 0 ∧ canClass f.flags ≤ s.canFormat n ∧ s.canState n ≠ 2 ∧ u = s.canErrors n errors tec
      rec')
    ∧ (∃ (s : State) (n : Nat) (dt : Nat) (errors : Nat) (tec : Nat) (rec' : Nat) (lost : Bool) (r : RingUnit) (l :
      List RingUnit), n < 4 ∧ s.canFormat n ≠ 0 ∧ s.canState n ≠ 2 ∧ s.bit (Reg.netCanCfg n) 3 = false ∧ (s.ring
      (60 + n)).units = r :: l)
    ∧ (∃ (s : State) (n : Nat) (dt : Nat) (onBus : Bool), n < 4 ∧ s.canFormat n ≠ 0 ∧ s.canState n ≠ 2)
    ∧ (∃ (s : State) (u : State) (n : Nat), n < 4 ∧ s.canState n = 2 ∧ ((s.canSt n).recovering = true ∨ s.bit
      (Reg.netCanCfg n) 4 = true) ∧ u = ((s.wr (Reg.netCanStat n) 0).setBit Reg.netStatus (8 + n) false).setBit
      Reg.netStatus (12 + n) false) :=
  ⟨⟨(up.put (Reg.netEthCfg 1) 0 3 5).setBit (Reg.netEthStat 1) 0 true, 1, 0,
      { fcs := true, kind := .other, key := 0, bytes := List.replicate 1522 0 }, by decide, by decide, by decide,
      by decide⟩,
    ⟨(up.put (Reg.netEthCfg 1) 0 3 5).setBit (Reg.netEthStat 1) 0 true, 1, 0,
      { fcs := true, kind := .other, key := 0, bytes := List.replicate 1523 0 }, by decide, by decide, by decide,
      by decide⟩,
    ⟨{ (up.put (Reg.netEthCfg 1) 0 3 5).setBit (Reg.netEthStat 1) 0 true with rings := [(57, { RingQ.empty with units := [{ descs := 1, seq := 0, bytes := [] }] })] },
      1, 1, 0, false, true, by decide⟩,
    ⟨up.put (Reg.netEthCfg 1) 0 3 5, _, 1, 3, _, by decide, by decide, rfl, by decide, by decide, rfl⟩,
    ⟨up, 1, by decide⟩,
    ⟨{ up with net := { NetSt.reset with reasm := [(1, 5, 0)] }, tick := 20 }, 1, 5, 0, _, by decide, by decide, rfl⟩,
    ⟨{ up with tick := 1000 }, 1, by decide, by decide, by decide⟩,
    ⟨up.put (Reg.netCanCfg 3) 0 2 1, _, 3, 0, 0, 0, 0,
      { id := 1, ide := false, flags := 0, sdt := 0, vcid := 0, accept := 0, data := [] }, by decide, by decide,
      by decide, by decide, rfl⟩,
    ⟨{ up.put (Reg.netCanCfg 3) 0 2 1 with rings := [(63, { RingQ.empty with units := [{ descs := 1, seq := 0, bytes := [] }] })] },
      3, 0, 0, 0, 0, false, _, _, by decide, by decide, by decide, by decide, rfl⟩,
    ⟨up.put (Reg.netCanCfg 3) 0 2 1, 3, 0, true, by decide, by decide, by decide⟩,
    ⟨(up.put (Reg.netCanCfg 3) 0 2 1).put (Reg.netCanStat 3) 0 2 2 |>.setCanSt 3
      { CanSt.idle with recovering := true }, _, 3, by decide, by decide, by decide, rfl⟩⟩

theorem witness_TimeRowsComplete :
    (∃ (s : State) (offset : Int) (incNs : Nat) (incFrac : Nat) (portState : Nat) (utc : Nat), (s.timeSource = 1 ∨
      s.timeSource = 2))
    ∧ (∃ (s : State), s.timeState ≠ 1 ∧ 16 ≤ s.net.good ∧ s.timeSource ≠ 0)
    ∧ (∃ (s : State), s.sourceSilent = true)
    ∧ (∃ (s : State), s.timeState = 2 ∧ s.net.holdTick + s.fld Reg.netTimeCfg 16 12 * 1000 ≤ s.tick)
    ∧ (∃ (s : State) (k : Nat) (dt : Nat), k < 16 ∧ s.bit (Reg.netCmpCfg k) 0 = true ∧ 0 ≤ s.cmpDistance k dt ∧ (dt = 0
      ∨ s.net.moved = true ∨ s.cmpDistance k (dt - 1) < 0))
    ∧ (∃ (s : State) (u : State) (n : Nat), s.timeState = 1 ∧ s.wholeSecond = some n ∧ u = (s.wr Reg.sysRtcLo (word
      n)).wr Reg.sysRtcHi (word (n / 2 ^ 32))) :=
  ⟨⟨up.put Reg.netStatus 2 2 1, -5, 0, 0, 9, 0, by decide⟩,
    ⟨{ up.put Reg.netStatus 2 2 1 with net := { NetSt.reset with good := 16 } }, by decide, by decide, by decide⟩,
    ⟨{ up.put Reg.netStatus 2 2 2 with tick := 10000 }, by decide⟩,
    ⟨{ up.put Reg.netStatus 0 2 2 with tick := 3600000 }, by decide, by decide⟩,
    ⟨up.setBit (Reg.netCmpCfg 15) 0 true, 15, 0, by decide, by decide, by decide, by decide⟩,
    ⟨(up.put Reg.netStatus 0 2 1).wr Reg.netTcNs 999500000, _, 1, by decide, by decide, rfl⟩⟩

theorem witness_FabricLinkRowsComplete :
    (∃ (s : State) (p : Nat) (delay : Nat) (same : Bool), p < 4 ∧ s.fabClock = true ∧ s.portState p < 2 ∧ (s.port
      p).again ≤ s.tick)
    ∧ (∃ (s : State) (p : Nat), s.portUp p = true)
    ∧ (∃ (s : State) (p : Nat), p < 4 ∧ s.portState p = 3 ∧ (s.port p).held = false ∧ (s.port p).marks.head?.getD 0 +
      1000 ≤ s.tick)
    ∧ (∃ (s : State) (p : Nat) (arrival : Nat) (f : FabFrame) (aborted : Bool), s.portUp p = true ∧ f.body ≠ .other ∧
      ((s.nodeId ≠ 0 → f.src ≠ s.nodeId)) ∧ (isSurvey f.body = true ∨ s.hasRoutes = true ∨ f.dst = s.nodeId ∨
      f.dst = broadcast))
    ∧ (∃ (s : State) (u : State) (p : Nat) (tag : Nat) (f : FabFrame), s.portUp p = true ∧ u = s.passOn p f true)
    ∧ (∃ (s : State) (p : Nat) (tag : Nat) (f : FabFrame), s.portUp p = true)
    ∧ (∃ (s : State) (u : State) (p : Nat) (tag : Nat) (k : Kept) (passes : Bool), s.portUp p = true ∧ (s.port
      p).kept.find? (fun k => k.tag == tag % 256) = some k ∧ k.copy = false ∧ u = s.sendOn k.frame k.aborted
      true p)
    ∧ (∃ (s : State) (p : Nat) (stray : Nat) (f : FabFrame), s.portUp p = true)
    ∧ (∃ (s : State) (u : State) (p : Nat), s.portUp p = true ∧ s.bit Reg.fabCfg 0 = true ∧ ((∀ t, (s.port p).hello =
      some t → t + 100 ≤ s.tick)) ∧ u = s.originate broadcast 0 false 1 (.hello s.ownKey s.nodeId s.bestKey) [p]) :=
  ⟨⟨up, 3, 320, true, by decide, by decide, by decide, by decide⟩,
    ⟨up.put (Reg.fabPortStat 3) 0 2 2, 3, by decide⟩,
    ⟨{ up.put (Reg.fabPortStat 3) 0 2 3 with tick := 1000 }, 3, by decide, by decide, by decide, by decide⟩,
    ⟨(up.put (Reg.fabPortStat 3) 0 2 2).put Reg.fabNode 0 12 5, 3, 0,
      { dst := 5, src := 6, sched := false, stream := 0, hops := 1, seq := 0, body := .hello 1 2 3 }, false, by
      decide, by decide, by decide, by decide⟩,
    ⟨up.put (Reg.fabPortStat 3) 0 2 2, _, 3, 0,
      { dst := 5, src := 6, sched := false, stream := 0, hops := 1, seq := 0, body := .hello 1 2 3 }, by decide,
      rfl⟩,
    ⟨up.put (Reg.fabPortStat 3) 0 2 2, 3, 0,
      { dst := 5, src := 6, sched := false, stream := 0, hops := 1, seq := 0, body := .hello 1 2 3 }, by decide⟩,
    ⟨(up.put (Reg.fabPortStat 3) 0 2 2).setPort 3
      { FabPort.idle with kept := [{ tag := 1, frame := { dst := 5, src := 6, sched := false, stream := 0, hops := 1, seq := 0, body := .hello 1 2 3 }, aborted := false, copy := false }] },
      _, 3, 1, _, true, by decide, rfl, by decide, rfl⟩,
    ⟨up.put (Reg.fabPortStat 3) 0 2 2, 3, 0,
      { dst := 5, src := 6, sched := false, stream := 0, hops := 1, seq := 0, body := .hello 1 2 3 }, by decide⟩,
    ⟨(up.put (Reg.fabPortStat 3) 0 2 2).setBit Reg.fabCfg 0 true, _, 3, by decide, by decide, by decide, rfl⟩⟩

theorem witness_SurveyRowsComplete :
    (∃ (s : State) (u : State), s.bit Reg.fabCfg 0 = true ∧ s.isSurveyor = false ∧ s.bit Reg.fabStatus 5 = true ∧
      s.bestKey = s.ownKey ∧ s.fab.survey.bestTick + 50 ≤ s.tick ∧ u = s.setBit Reg.fabStatus 1 true)
    ∧ (∃ (s : State) (u : State), s.fab.survey.reportDue = true ∧ s.bit Reg.fabCfg 0 = true ∧ s.isSurveyor = false ∧ u
      = s.setSurvey { s.fab.survey with reportDue := false })
    ∧ (∃ (s : State) (x : Nat) (y : Nat), s.isSurveyor = true ∧ s.bit Reg.fabStatus 5 = true ∧ s.fab.survey.waits =
      false)
    ∧ (∃ (s : State), s.isSurveyor = true ∧ s.fab.survey.waits = true ∧ s.allConfirmed = true)
    ∧ (∃ (s : State) (r : NodeRead), s.fab.reads.find? (fun r => decide (r.start + 100 ≤ s.tick)) = some r)
    ∧ (∃ (s : State) (u : State) (v : State) (l : List NodeReport), s.bit Reg.fabStatus 2 = true ∧ s.isSurveyor = false
      ∧ 3 ≤ s.fab.cyc.missed ∧ u = s.setFabCyc { s.fab.cyc with missed := 0, lost := false } ∧ v = (((u.setBit
      Reg.fabStatus 1 true).setBit Reg.fabStatus 2 false).put Reg.fabNode 12 12 ((u.setBit Reg.fabStatus 1
      true).setBit Reg.fabStatus 2 false).nodeId).put Reg.fabNodes 12 12 0 ∧ l = v.routeReports ++ [v.ownReport]) :=
  ⟨⟨{ (up.setBit Reg.fabCfg 0 true).setBit Reg.fabStatus 5 true with tick := 50 }, _, by decide, by decide, by
      decide, by decide, by decide, rfl⟩,
    ⟨(up.setBit Reg.fabCfg 0 true).setSurvey { SurveySt.reset with reportDue := true }, _, by decide, by decide, by
      decide, rfl⟩,
    ⟨(up.setBit Reg.fabStatus 1 true).setBit Reg.fabStatus 5 true, 4, 4, by decide, by decide, by decide⟩,
    ⟨(up.setBit Reg.fabStatus 1 true).setSurvey { SurveySt.reset with waits := true }, by decide, by decide, by
      decide⟩,
    ⟨{ up with fab := { FabSt.reset with reads := [{ packet := pk [], tag := 0, node := 5, start := 0, port := 4 }] }, tick := 100 },
      _, rfl⟩,
    ⟨(up.setBit Reg.fabStatus 2 true).setFabCyc { FabCycSt.reset with missed := 3 }, _, _, _, by decide, by decide, by
      decide, rfl, rfl, rfl⟩⟩

theorem witness_TimetableRowsComplete :
    (∃ (s : State) (cycle : Nat), s.fab.tt.swap = some cycle ∧ cycle ≠ 0 ∧ cycle = (s.rd Reg.fabCycle).toNat + 1)
    ∧ (∃ (s : State) (v : TtDirect), s.fab.tt.direct = some v ∧ v.boundary ≠ 0 ∧ v.late = false ∧ v.boundary = (s.rd
      Reg.fabCycle).toNat + 1)
    ∧ (∃ (s : State) (v : TtDirect), s.fab.tt.direct = some v ∧ v.late = true ∧ v.boundary = (s.rd Reg.fabCycle).toNat)
    ∧ (∃ (s : State) (d : TtDist), s.fab.tt.dist = some d ∧ d.start + 200 ≤ s.tick)
    ∧ (∃ (s : State) (dt : Nat) (incNs : Nat) (incFrac : Nat), s.fabClock = true ∧ s.isSurveyor = true)
    ∧ (∃ (s : State) (dt : Nat) (incNs : Nat) (incFrac : Nat), s.fabClock = true ∧ s.isSurveyor = false ∧ s.hasRoutes =
      true)
    ∧ (∃ (s : State) (u : State), s.isSurveyor = false ∧ 8 ≤ s.fab.cyc.missed ∧ s.fab.cyc.lost = false ∧ u =
      ((s.setFabCyc { s.fab.cyc with lost := true }).setBit Reg.fabStatus 3 false).raise 0x0F09 [])
    ∧ (∃ (s : State) (n : Nat) (i : Nat), s.ownSlot n = true ∧ s.pubOf (slotAt s.fab.active n).stream = some i ∧
      ((s.fld (Reg.fabPubCfg i) 1 2 = 1 → s.bit Reg.safeTxCfg 0 = true)))
    ∧ (∃ (s : State) (u : State) (j : Nat), j < 256 ∧ s.subOn j = true ∧ s.subKind j ≠ 1 ∧ s.bit (Reg.fabSubStat j) 1 =
      false ∧ s.fld (Reg.fabSubCfg j) 19 8 ≤ (s.subAt j).missed ∧ u = ((s.setBit (Reg.fabSubStat j) 0
      false).setBit (Reg.fabSubStat j) 1 true).raise 0x0F0A [])
    ∧ (∃ (s : State) (u : State) (j : Nat), j < 256 ∧ s.subOn j = true ∧ s.bit (Reg.fabSubStat j) 1 = true ∧ 2 ≤
      (s.subAt j).run ∧ u = ((s.setBit (Reg.fabSubStat j) 0 true).setBit (Reg.fabSubStat j) 1 false).raise
      0x0F0B [])
    ∧ (∃ (s : State), s.bit Reg.fabSecCfg 0 = true ∧ s.modes.second.since + s.secondaryPeriod ≤ s.tick)
    ∧ (∃ (s : State) (u : State) (w : FabSecond), s.isSurveyor = true ∧ s.fab.second.since + s.secondaryPeriod ≤ s.tick
      ∧ w = { s.fab.second with reports := [], since := s.tick } ∧ u = s.setFab { s.fab with second := w }) :=
  ⟨⟨up.setTt { TtSt.reset with swap := some 1 }, _, rfl, by decide, rfl⟩,
    ⟨up.setTt { TtSt.reset with direct := some { boundary := 1, entries := [], late := false, packet := none } }, _,
      rfl, by decide, by decide, by decide⟩,
    ⟨up.setTt { TtSt.reset with direct := some { boundary := 0, entries := [], late := true, packet := none } }, _,
      rfl, by decide, by decide⟩,
    ⟨{ up.setTt { TtSt.reset with dist := some { packet := pk [], confirmed := [], start := 0 } } with tick := 200 },
      _, rfl, by decide⟩,
    ⟨up.setBit Reg.fabStatus 1 true, 0, 80, 0, by decide, by decide⟩,
    ⟨{ up with fab := { FabSt.reset with routes := [route1] } }, 0, 80, 0, by decide, by decide, by decide⟩,
    ⟨up.setFabCyc { FabCycSt.reset with missed := 8 }, _, by decide, by decide, by decide, rfl⟩,
    ⟨{ ((up.put Reg.fabNode 0 12 1).setBit Reg.fabCfg 0 true).wr (Reg.fabPubCfg 63) (word (1 + 2 * 8)) with fab := { FabSt.reset with routes := [route1], active := slotWords } },
      4095, _, by decide, rfl, by decide⟩,
    ⟨{ up.setBit (Reg.fabSubCfg 255) 0 true with fab := { FabSt.reset with subs := [(255, { FabSub.idle with missed := 255 })] } },
      _, 255, by decide, by decide, by decide, by decide, by decide, rfl⟩,
    ⟨{ (up.setBit (Reg.fabSubCfg 255) 0 true).setBit (Reg.fabSubStat 255) 1 true with fab := { FabSt.reset with subs := [(255, { FabSub.idle with run := 2 })] } },
      _, 255, by decide, by decide, by decide, by decide, rfl⟩,
    ⟨{ up.setBit Reg.fabSecCfg 0 true with tick := 1000 }, by decide, by decide⟩,
    ⟨{ up.setBit Reg.fabStatus 1 true with tick := 1000 }, _, _, by decide, by decide, rfl, rfl⟩⟩

theorem witness_ClockAndSupplyRowsComplete :
    (∃ (s : State) (u : State), s.bit Reg.sysClkStat 2 = true ∧ u = (s.setBit Reg.sysClkStat 2 false).raise 0x0100 [])
    ∧ (∃ (s : State), (s.sys.relock = true ∨ s.refModeDue = true) ∧ s.sys.acquiring = 0)
    ∧ (∃ (s : State) (u : State), s.sys.acquiring ≠ 0 ∧ u = (s.setSys { s.sys with acquiring := 0 }).takeItems (fun a
      => a == Reg.sysClkCfg) State.wrRw)
    ∧ (∃ (s : State), s.sys.acquiring = 1 ∧ s.sys.acquireTick + 2 ≤ s.tick)
    ∧ (∃ (s : State) (u : State), 2 ≤ s.sys.acquiring ∧ s.sys.acquireTick + 2 ≤ s.tick ∧ u = s.raiseLasting 1 0 0)
    ∧ (∃ (s : State), s.sys.hold = 2)
    ∧ (∃ (s : State), s.bit Reg.sysStatus 4 = false)
    ∧ (∃ (s : State) (u : State) (duration : Nat) (vmin : Nat), s.bit Reg.sysStatus 4 = true ∧ (duration = 1000 ∨
      (duration < 1000 ∧ vmin < 1030)) ∧ u = s.wr Reg.sysHoldup (word (min duration 0xFFFF + min vmin 0xFFFF * 2
      ^ 16)))
    ∧ (∃ (s : State), s.sys.high = false)
    ∧ (∃ (s : State), s.sys.gate = true)
    ∧ (∃ (s : State) (u : State) (v : State) (mv : Nat), s.bit Reg.sysStatus 0 = true ∧ ((∀ t, s.sys.vbatTick = some t
      → t + 3600000 ≤ s.tick)) ∧ u = s.put Reg.sysVbat 0 12 (min mv 0xFFF) ∧ v = (u.setSys
      { u.sys with vbatTick := some u.tick }).setBit Reg.sysStatus 1 (decide (2600 ≤ mv))) :=
  ⟨⟨up.setBit Reg.sysClkStat 2 true, _, by decide, rfl⟩,
    ⟨up.setSys { SysSt.reset with relock := true }, by decide, by decide⟩,
    ⟨up.setSys { SysSt.reset with acquiring := 2 }, _, by decide, rfl⟩,
    ⟨{ up.setSys { SysSt.reset with acquiring := 1 } with tick := 2 }, by decide, by decide⟩,
    ⟨{ up.setSys { SysSt.reset with acquiring := 2 } with tick := 2 }, _, by decide, by decide, rfl⟩,
    ⟨up.setSys { SysSt.reset with hold := 2 }, by decide⟩,
    ⟨up.setBit Reg.sysStatus 4 false, by decide⟩,
    ⟨up.setBit Reg.sysStatus 4 true, _, 999, 1029, by decide, by decide, rfl⟩,
    ⟨up, by decide⟩,
    ⟨up.setSys { SysSt.reset with gate := true }, by decide⟩,
    ⟨up.setBit Reg.sysStatus 0 true, _, _, 2600, by decide, (by intro t h; cases h), rfl, rfl⟩⟩

theorem witness_ResetAndStartUpRowsComplete :
    (∃ (s : State) (u : State) (c : Nat), s.entryCause = some c ∧ s.sys.low = none ∧ u = s.setSys
      { s.sys with due := none, request := none, low := some c })
    ∧ (∃ (s : State) (c : Nat), s.sys.low = some c ∧ ((c = 2 → s.sys.ended = true)))
    ∧ (∃ (s : State) (u : State) (cold : Bool), s.sys.hold = 1 ∧ u = (s.setSys { s.sys with hold := 0 }).setBit
      Reg.sysStatus 0 true)
    ∧ (∃ (s : State) (checks : BootChecks), s.sys.hold = 0 ∧ s.fld Reg.sysBoot 0 5 = 0 ∧ s.sys.due = none ∧ s.sys.low =
      none)
    ∧ (∃ (s : State) (ms : Nat), s.fld Reg.sysBoot 0 5 = 8 ∧ s.sys.due = none ∧ s.sys.low = none) :=
  ⟨⟨up.setSys { SysSt.reset with due := some 3, hold := 0 }, _, _, rfl, by decide, rfl⟩,
    ⟨up.setSys { SysSt.reset with low := some 2, ended := true }, _, rfl, by decide⟩,
    ⟨up.setSys { SysSt.reset with hold := 1 }, _, true, by decide, rfl⟩,
    ⟨State.reset.setSys { SysSt.reset with hold := 0 }, noChecks, by decide, by decide, by decide, by decide⟩,
    ⟨up.put Reg.sysBoot 0 5 8 |>.setSys { SysSt.reset with hold := 0 }, 300, by decide, by decide, by decide⟩⟩

theorem witness_SecurityRowsComplete :
    (∃ (s : State) (u : State) (t : Transfer), s.sec.image.transfer = some t ∧ t.erasing = true ∧ u = s.setSlot
      t.kind (s.inactiveSlot t.kind) [])
    ∧ (∃ (s : State) (u : State) (sig : Bool) (hash : Bool) (gcm : Bool) (t : Transfer) (b : Nat) (l : List (Nat ×
      Nat)), s.sec.image.transfer = some t ∧ t.verifying = true ∧ b = s.inactiveSlot t.kind ∧ s.verifySteps
      t.kind (s.slot t.kind b) { signature := sig, hash := hash, gcm := gcm } = 0 ∧ u = (s.setImage
      { s.sec.image with transfer := none }).setBit Reg.secStatus 10 false ∧ l = sparseSet (fun _ => 0)
      u.sec.image.pending t.kind (b + 1))
    ∧ (∃ (s : State) (u : State) (sig : Bool) (hash : Bool) (gcm : Bool) (t : Transfer) (n : Nat), s.sec.image.transfer
      = some t ∧ t.verifying = true ∧ s.verifySteps t.kind (s.slot t.kind (s.inactiveSlot t.kind))
      { signature := sig, hash := hash, gcm := gcm } = n ∧ n ≠ 0 ∧ u = (s.setImage
      { s.sec.image with transfer := none }).setBit Reg.secStatus 10 false)
    ∧ (∃ (s : State) (u : State) (all : List AuditEntry), all = s.sec.flash ++ s.sec.waiting ∧ u = s.setSec
      { s.sec with waiting := [], flash := all.drop (all.length - auditRing) })
    ∧ (∃ (s : State) (u : State) (i : Nat) (high : Bool) (asserted : Bool), i < 4 ∧ s.bit Reg.secTamperCfg (4 * i) =
      true ∧ asserted = (high != s.bit Reg.secTamperCfg (4 * i + 1)) ∧ u = s.setBit Reg.secTamperStat (4 + i)
      asserted) :=
  ⟨⟨{ up with sec := { SecSt.reset with image := { ImageSt.reset with transfer := some (Transfer.mk 3 2 592 0 true false (pk [])) } } },
      _, _, rfl, by decide, rfl⟩,
    ⟨committing, _, true, true, true, _, 1, _, rfl, by decide, rfl, by decide, rfl, rfl⟩,
    ⟨{ up with sec := { SecSt.reset with image := { ImageSt.reset with transfer := some (Transfer.mk 3 2 592 592 false true (pk [])) } } },
      _, true, true, true, _, _, rfl, by decide, rfl, by decide, rfl⟩,
    ⟨up, _, _, rfl, rfl⟩,
    ⟨up.setBit Reg.secTamperCfg 12 true, _, 3, true, _, by decide, by decide, rfl, rfl⟩⟩

theorem witness_EventRowsComplete :
    (∃ (s : State) (u : State) (v : State) (k : Nat) (sample : Word) (l : List (Nat × Bool)), k < 32 ∧ sparseGet (fun
      _ => false) s.perf.overflowed k = true ∧ l = sparseSet (fun _ => false) s.perf.overflowed k false ∧ u =
      { s with perf := { s.perf with overflowed := l } } ∧ v = (if u.bit (Reg.perfCntCfg k) 18 then u.wr
      (Reg.perfCntSample k) (u.sampleOf (u.fld (Reg.perfCntCfg k) 0 16) sample) else u))
    ∧ (∃ (s : State) (u : State) (v : State) (w : Nat) (n : Nat) (b : List (Nat × Nat)) (l : List (Nat × Nat)), w < 16
      ∧ s.bit (Reg.perfWinCfg w) 22 = true ∧ sparseGet (fun _ => 0) s.perf.since w + s.fld (Reg.perfWinCfg w) 12
      10 ≤ s.tick ∧ n = sparseGet (fun _ => 0) s.perf.beats w ∧ u = s.wr (Reg.perfWinLast w) (word n) ∧ v = u.wr
      (Reg.perfWinPeak w) (word (max (u.rd (Reg.perfWinPeak w)).toNat n)) ∧ b = sparseSet (fun _ => 0)
      v.perf.beats w 0 ∧ l = sparseSet (fun _ => 0) v.perf.since w v.tick)
    ∧ (∃ (s : State) (u : State) (n : Nat) (l : List Nat), 1 ≤ n ∧ n ≤ 17 ∧ s.fld Reg.perfRateCfg 0 16 ≠ 0 ∧ s.fld
      Reg.perfRateCfg 0 16 ≤ sparseGet (fun _ => 0) s.perf.window n ∧ s.perf.rated.contains n = false ∧ l = n ::
      s.perf.rated ∧ u = { s with perf := { s.perf with rated := l } }) :=
  ⟨⟨{ up with perf := { PerfSt.reset with overflowed := [(31, true)] } }, _, _, 31, 0, _, by decide, by decide, rfl,
      rfl, rfl⟩,
    ⟨{ up.setBit (Reg.perfWinCfg 15) 22 true with tick := 1000 }, _, _, 15, _, _, _, by decide, by decide, by decide,
      rfl, rfl, rfl, rfl, rfl⟩,
    ⟨{ up.put Reg.perfRateCfg 0 16 1 with perf := { PerfSt.reset with window := [(17, 1)] } }, _, 17, _, by decide, by
      decide, by decide, by decide, by decide, rfl, rfl⟩⟩

theorem witness_CfgDiscardEmptiesStaging :
    ∃ (s : State) (p : Packet), s.takes 0x0103 p true ∧ (s.taken 0x0103 p).leaseCheck 1 0 p = none ∧ p.payload = [] :=
  ⟨holds 1 0 engineer3, pk [], ⟨by decide, by decide, by decide, by decide, by decide⟩, by decide, by decide⟩

theorem witness_ResetReturnsEveryRegister :
    ∃ (s : State) (c : Nat), s.sys.low = some c ∧ ((c = 2 → s.sys.ended = true)) :=
  ⟨up.setSys { SysSt.reset with low := some 2, ended := true }, _, rfl, by decide⟩

theorem witness_ResetRecordsItsCause :
    (∃ (s : State) (c : Nat), s.sys.low = some c ∧ ((c = 2 → s.sys.ended = true)) ∧ c < 256)
    ∧ (∃ (s : State) (d : Nat), s.sys.due = some d) :=
  ⟨⟨up.setSys { SysSt.reset with low := some 8 }, _, rfl, by decide, by decide⟩,
    ⟨up.setSys { SysSt.reset with due := some 8 }, _, rfl⟩⟩

theorem witness_CauseAddedToStandingLockout :
    ∃ (s : State), s.procLatched = true ∧ s.procOk = true :=
  ⟨safeUp.setBit Reg.safeStatus 5 true, by decide, by decide⟩

theorem witness_Bar2WriteStoresItsWord :
    (∃ (s : State) (a : Nat) (v : Word), s.certMode = false ∧ a < memSize ∧ a % 4 = 0 ∧ s.pageMarked a = false)
    ∧ (∃ (s : State) (a : Nat) (v : Word), s.certMode = false ∧ a < memSize ∧ s.pageMarked a = true)
    ∧ (∃ (s : State) (a : Nat) (v : Word), inBlocks a = true) :=
  ⟨⟨up, 0xFFFFFC, 1, by decide, by decide, by decide, by decide⟩,
    ⟨up.setBankBit (Reg.memBadpage 0) 4095 true, 0xFFFFFC, 1, by decide, by decide, by decide⟩,
    ⟨up, 0x1010FFFC, 1, by decide⟩⟩

theorem witness_MemWriteStoresThroughItsMapping :
    ∃ (s : State) (u : State) (p : Packet) (d : Nat) (k : Nat) (v : Word), s.takes 0x0501 p true ∧ u = s.taken
      0x0501 p (.host [] k) ∧ p.payload.length = 8 ∧ leAt p.payload 0 4 % 4 = 0 ∧ v = word (leAt p.payload 4 4)
      ∧ u.place p.session (leAt p.payload 0 4) = .sram d true ∧ u.pageMarked d = false :=
  ⟨mapped, _, pk (n32 0x1FFC ++ n32 7), 0xFFFFFC, 1, _, ⟨by decide, by decide, by decide, by decide, by decide⟩,
      rfl, by decide, by decide, rfl, by decide, by decide⟩

theorem witness_UnmappedRangeFaults :
    ∃ (s : State) (u : State) (p : Packet) (va : Nat) (n : Nat) (ms : List Mapping), s.takes 0x0503 p true ∧ u =
      s.taken 0x0503 p ∧ p.payload.length = 8 ∧ p.session < 128 ∧ va = leAt p.payload 0 4 ∧ n = leAt p.payload 4
      4 ∧ ms = u.memx.maps.filter (fun m => m.ctx == p.session && overlaps va n m.vaddr m.size) :=
  ⟨mapped, _, pk (n32 0x1000 ++ n32 0x1000), _, _, _, ⟨by decide, by decide, by decide, by decide, by decide⟩, rfl,
      by decide, by decide, rfl, rfl, rfl⟩

theorem witness_ReadingOpcodesChangeNothingElse :
    ∃ (s : State) (t : State) (p : Packet) (op : Nat) (c : Instr), (op, c) ∈ [(0x0004, .sessionInfo p), (0x0404,
      .shutterStatus p), (0x0600, .statusRead p), (0x0603, .counterRead p), (0x0700, .fabStatus p), (0x0803,
      .imageStatus p), (0x0804, .auditRead p), (0x0900, .safeStatus p), (0x0901, .safeParamRead p)] ∧ s.takes op
      p true ∧ exec c s = .next t :=
  ⟨engineer3, _, pk [], 4, .sessionInfo (pk []), by decide, ⟨by decide, by decide, by decide, by decide, by decide⟩,
      rfl⟩

theorem witness_ResentPacketIsNotExecutedAgain :
    ∃ (s : State) (u : State) (t : State) (op : Nat) (p : Packet) (aid : Aid) (st : Status) (payload : List Byte),
      s.takes op p true ∧ p.session < 128 ∧ p.seq < 256 ∧ u = s.taken op p aid ∧ t = u.finish op p st payload :=
  ⟨engineer3, _, _, 2, pk [], .none, .ok, [], ⟨by decide, by decide, by decide, by decide, by decide⟩, by decide, by
      decide, rfl, rfl⟩

theorem witness_RefusedPacketKeepsItsSeq :
    ∃ (s : State) (t : State) (k : Nat) (op : Nat) (p : Packet), 1 ≤ k ∧ k ≤ 5 ∧ exec (.invalidPacket k op p) s =
      .next t ∧ ((k = 4 ∨ k = 5 → ∀ payload b, s.judge op p ≠ .refuse .authFailed payload b)) :=
  ⟨engineer3, _, 1, 2, { pk [] with seq := 9 }, by decide, by decide, rfl, (by intro h; rcases h with h | h <;>
      cases h)⟩

theorem witness_OnlyModuleTicksMoveTheTick :
    ∃ (c : Instr) (s : State) (t : State), exec c s = .next t :=
  ⟨.rbGateDrive, State.reset, _, rfl⟩

theorem witness_ContactSheetCopiesEveryCounter :
    ∃ (s : State), s.perf.sheet = true :=
  ⟨{ up with perf := { PerfSt.reset with sheet := true } }, by decide⟩

/-! ### Ill-formed commands: one for each check -/

theorem test_wf_samplingTrigger : (Instr.samplingTrigger 16 0 0).wellFormed = false := by decide
theorem test_wf_conversionComplete : (Instr.conversionComplete 64 0).wellFormed = false := by decide
theorem test_wf_convOwTest : (Instr.convOwTest { pk [] with chan := 8 }).wellFormed = false := by decide
theorem test_wf_bitstreamStale : (Instr.bitstreamStale 16).wellFormed = false := by decide
theorem test_wf_bitstreamWindowEnd : (Instr.bitstreamWindowEnd 0 4 []).wellFormed = false := by decide
theorem test_wf_settlingEnd : (Instr.settlingEnd 80 0).wellFormed = false := by decide
theorem test_wf_thresholdAssert : (Instr.thresholdAssert 64 0).wellFormed = false := by decide
theorem test_wf_measInvalidLimit : (Instr.measInvalidLimit 4).wellFormed = false := by decide
theorem test_wf_laneLinkWatchdog : (Instr.laneLinkWatchdog 2).wellFormed = false := by decide
theorem test_wf_timebaseZeroPoint : (Instr.timebaseZeroPoint 12 0).wellFormed = false := by decide
theorem test_wf_tripSourceAssert : (Instr.tripSourceAssert 16 true 0 0).wellFormed = false := by decide
theorem test_wf_blankingWindowClose : (Instr.blankingWindowClose 48 0).wellFormed = false := by decide
theorem test_wf_interlockGapEnd : (Instr.interlockGapEnd 16 0).wellFormed = false := by decide
theorem test_wf_gatePhaseEnd : (Instr.gatePhaseEnd 48 0 0 0).wellFormed = false := by decide
theorem test_wf_forcedRefresh : (Instr.forcedRefresh 24).wellFormed = false := by decide
theorem test_wf_supplyUv : (Instr.supplyUv 0 3 0).wellFormed = false := by decide
theorem test_wf_soutTestPulse : (Instr.soutTestPulse 8 true 0 0).wellFormed = false := by decide
theorem test_wf_safeFrameReceived : (Instr.safeFrameReceived 2 0 0 0 0 0 true).wellFormed = false := by decide
theorem test_wf_degradedWindowExpiry : (Instr.degradedWindowExpiry 16).wellFormed = false := by decide
theorem test_wf_taskStartPoint : (Instr.taskStartPoint 8 0).wellFormed = false := by decide
theorem test_wf_programWatchdog : (Instr.programWatchdog 9).wellFormed = false := by decide
theorem test_wf_dispatchGrant : (Instr.dispatchGrant 16).wellFormed = false := by decide
theorem test_wf_uncorrectableError : (Instr.uncorrectableError 6 0 0 false 0).wellFormed = false := by decide
theorem test_wf_badpageClearDone : (Instr.badpageClearDone 4096).wellFormed = false := by decide
theorem test_wf_bankGrant : (Instr.bankGrant 16 [] false 0 0).wellFormed = false := by decide
theorem test_wf_dmaBurst : (Instr.dmaBurst 4 0 [] 0).wellFormed = false := by decide
theorem test_wf_descriptorAllocation : (Instr.descriptorAllocation 64 0 []).wellFormed = false := by decide
theorem test_wf_shutterSample : (Instr.shutterSample 8 0 0 0 0).wellFormed = false := by decide
theorem test_wf_patternTrigger : (Instr.patternTrigger 0 0 256 0 0 0 0).wellFormed = false := by decide
theorem test_wf_invalidPacket : (Instr.invalidPacket 0 0 (pk [])).wellFormed = false := by decide
theorem test_wf_sessionIdleClose : (Instr.sessionIdleClose 128).wellFormed = false := by decide
theorem test_wf_leaseExpiry : (Instr.leaseExpiry 256).wellFormed = false := by decide
theorem test_wf_pcieDoorbell : (Instr.pcieDoorbell 5 [] 0).wellFormed = false := by decide
theorem test_wf_ethReassemblyTimeout : (Instr.ethReassemblyTimeout 2 0).wellFormed = false := by decide
theorem test_wf_timeMatch : (Instr.timeMatch 16 0).wellFormed = false := by decide
theorem test_wf_canBusOn : (Instr.canBusOn 4).wellFormed = false := by decide
theorem test_wf_linkDown : (Instr.linkDown 4).wellFormed = false := by decide
theorem test_wf_slotTransmit : (Instr.slotTransmit 0).wellFormed = false := by decide
theorem test_wf_streamLost : (Instr.streamLost 256).wellFormed = false := by decide
theorem test_wf_tamper : (Instr.tamper 4 true).wellFormed = false := by decide
theorem test_wf_counterOverflow : (Instr.counterOverflow 32 0).wellFormed = false := by decide
theorem test_wf_bandwidthWindowEnd : (Instr.bandwidthWindowEnd 16).wellFormed = false := by decide
theorem test_wf_transientRate : (Instr.transientRate 0).wellFormed = false := by decide
theorem test_wf_pcieLinkUp : (Instr.pcieLinkUp 4 1).wellFormed = false := by decide
theorem test_wf_fabFrameCheckFail : (Instr.fabFrameCheckFail 0 0 3 { dst := 5, src := 6, sched := false, stream := 0, hops := 1, seq := 0, body := .hello 1 2 3 }).wellFormed = false := by decide
theorem test_wf_contactSheet : (Instr.contactSheet (some { pk [] with chan := 8 })).wellFormed = false := by decide

/-- A command with every index in its range is well formed. -/
theorem test_wf_good : (Instr.settlingEnd 79 3).wellFormed = true := by decide

/-! ### Worked examples of the spec -/

/-- The example after R127: a level of 0x70_A3D7 with hysteresis 41 (FILT_THR0_LEVEL = 0x2970_A3D7). -/
def overcurrent : State := (up.wr (Reg.filtThrLevel 0) 0x2970A3D7).wr (Reg.filtThrCfg 0) 0x111

theorem test_comparator_level : (overcurrent.cmpPast 0 7381974, overcurrent.cmpPast 0 7381975) = (false, true) := by decide

/-- The release lies below the level less 41 × 4,096. -/
theorem test_comparator_release : (overcurrent.cmpInside 0 7214039, overcurrent.cmpInside 0 7214038) = (false, true) := by decide

/-- R118: an all-ones modulator stream gives +2^23 and reads 0x7F_FFFF (sinc3 at ÷16, S = 4,096). -/
theorem test_all_ones : (sincValue 0 4096, sat24 (sincValue 0 4096)) = (2 ^ 23, 0x7FFFFF) := by decide

/-- The example of chapter "PWM generator": 28,827.1875 ns takes the extra ns in periods 0, 4 and 8, not in 7. -/
theorem test_place_rise : (place 461235 0, place 461235 4, place 461235 8, place 461235 7) = (28828, 28828, 28828, 28827) := by
  decide

/-- The same example: 71,172.8125 ns takes it in every period but 7, 11 and 15. -/
theorem test_place_fall :
    ((List.range 16).filter (fun m => place 1138765 m == 71172)) = [7, 11, 15] := by decide

/-- Unit 8 on timebase 4, whose period is 100,000 ns. -/
def duty : State := (up.put (Reg.pwmCuCfg 0 8) 0 4 4).wr (Reg.pwmTbPeriod 0 4) 0x186A00

/-- The same example: a duty of 0.423456 gives the compare value 0x0A_569A. -/
theorem test_compare_value : duty.compareOf 8 0x3ED8CF3A = 0x0A569A := by decide

/-- Chapter 14's example: PWMA_PAIR4_CFG = 0x012C_12C1 is a dead time of 1,200 cycles on both channels. -/
def dead : State := up.wr (Reg.pwmPairCfg 0 4) 0x012C12C1

theorem test_dead_times : (dead.deadTime 8, dead.deadTime 9) = (1200, 1200) := by decide

/-- The example before R149: 50 × 10 µs × 2^32 at ω = 1 is stored as 2,147,484. -/
theorem test_angle_increment :
    F32.round (F32.mul (F32.mul (F32.mul (F32.ofInt 50) (F32.rat 1 100000)) F32.one) F32.two32) = 2147484 := by decide

/-- The published check value of CRC-32C, of the digits 1 to 9. -/
theorem test_crc32c : crc32c [0x31, 0x32, 0x33, 0x34, 0x35, 0x36, 0x37, 0x38, 0x39] = 0xE3069283 := by decide

/-- R321: a constant takes the following word, so the second reference stands at word 3 and the outputs begin at word 4. -/
theorem test_references :
    refsFrom (fun w => if w = 1 then some 0x80000000 else if w = 3 then some 0xC0000000 else none) 1 [(0, 7), (0, 8)]
      = ([(1, 0x80000000, 7), (3, 0xC0000000, 8)], 4) := by decide

/-- The table of R579, column RMII: TXD0, TXD1, TX_EN, TX_CLK, RXD0, RXD1, RX_ER, CRS, MDC and MDIO are used. -/
theorem test_rmii_pads :
    (List.range 21).filter (fun n => ethUse 2 n != .held) = [0, 1, 4, 5, 6, 7, 11, 13, 15, 16] := by decide

/-- The queue is first in, first out: a step runs the front command and leaves the rest. -/
theorem test_step_pops :
    (match Machine.step { up with pending := [.rbGateDrive, .auditFlush] } with
     | .next t => decide (t.pending = [.auditFlush])
     | _ => false) = true := by decide

/-- An empty queue idles. -/
theorem test_step_idles : Machine.step State.reset = .next State.reset := rfl

end Sys2Proof.Tests
end

/-! # What every command keeps

Each operation of the model carries `Keeps` from its input to its result. One lemma per operation says so, in the order
of the model's files; chained by dots (`h.put.raise`) they follow the operation's own text. -/

namespace Sys2Proof.Machine

/-- What `t`, made from `s` by operations of the model, keeps of it: the canonical form of the shared SRAM (R5, R18) and of
the register file, the waiting commands, and the module tick. -/
structure Keeps (s t : State) : Prop where
  mem : Memory.wf s.mem = true → Memory.wf t.mem = true
  regs : sparseWf resetValue s.regs = true → sparseWf resetValue t.regs = true
  pending : t.pending = s.pending
  tick : t.tick = s.tick

/-- A row answers no state but one that `Keeps` ties to `s`. -/
def Answers (s : State) (o : Host.Outcome State Fault Refusal) : Prop := ∀ t, o = .next t → Keeps s t

section

variable {s t u : State}

theorem Keeps.refl (s : State) : Keeps s s := ⟨id, id, rfl, rfl⟩

theorem Keeps.canonical (h : Keeps s t) (hs : s.canonical) : t.canonical := ⟨h.mem hs.1, h.regs hs.2⟩

theorem Answers.next (h : Keeps s t) : Answers s (.next t) := by
  rintro _ ⟨⟩
  exact h

/-! ### Branches and folds -/

theorem Keeps.ite {c : Prop} [Decidable c] (h : Keeps s t) (k : Keeps s u) : Keeps s (if c then t else u) := by
  split
  · exact h
  · exact k

/-- The state of a pair that an operation has answered. -/
theorem Keeps.fst {β : Type} {p : State × β} {b : β} (h : Keeps s p.1) (e : p = (t, b)) : Keeps s t := by
  subst e
  exact h

theorem Keeps.snd {β : Type} {p : β × State} {b : β} (h : Keeps s p.2) (e : p = (b, t)) : Keeps s t := by
  subst e
  exact h

theorem Keeps.foldl {β : Type} {f : State → β → State} {l : List β} (h : Keeps s t)
    (k : ∀ {v} b, Keeps s v → Keeps s (f v b)) : Keeps s (l.foldl f t) := by
  induction l generalizing t with
  | nil => exact h
  | cons b l ih => exact ih (k b h)

/-! ### The plainest updates -/

/-- Every field but the registers, the shared SRAM, the waiting commands and the tick is free. -/
theorem Keeps.fields (h : Keeps s t) {fresh : Nat} {rings : List (Nat × RingQ)} {evq : List EventRec} {evLost : Nat}
    {ledger : List Claim} {staging : List (Nat × Word)} {fixes : List Fix} {sessions : List (Nat × Session)}
    {leaseDur : List (Nat × Nat)} {leaseLast : Nat} {inflight : List InFlight} {replies : List (Nat × List Reply)}
    {conv : ConvSt} {pwm : PwmSt} {gate : GateSt} {perf : PerfSt} {memx : MemSt} {safe : SafeSt} {modes : ModeSt}
    {lane : LaneSt} {red : List (Nat × RedSt)} {sec : SecSt} {cyc : CycleSt} {fab : FabSt} {shut : ShutSt} {net : NetSt}
    {sys : SysSt} {sent : List Reply} {busOut : List (Nat × Nat × List Byte)} :
    Keeps s { t with
      fresh := fresh, rings := rings, evq := evq, evLost := evLost, ledger := ledger, staging := staging, fixes := fixes,
      sessions := sessions, leaseDur := leaseDur, leaseLast := leaseLast, inflight := inflight, replies := replies,
      conv := conv, pwm := pwm, gate := gate, perf := perf, memx := memx, safe := safe, modes := modes, lane := lane,
      red := red, sec := sec, cyc := cyc, fab := fab, shut := shut, net := net, sys := sys, sent := sent,
      busOut := busOut } :=
  ⟨h.mem, h.regs, h.pending, h.tick⟩

/-- Bytes left out of the shared SRAM read zero, which is not listed. -/
theorem Keeps.filterMem (h : Keeps s t) {p : Host.Cell → Bool} : Keeps s { t with mem := t.mem.filter p } :=
  ⟨fun w => sparseWf_filter p (h.mem w), h.regs, h.pending, h.tick⟩

theorem Keeps.clearMem (h : Keeps s t) : Keeps s { t with mem := [] } :=
  ⟨fun _ => rfl, h.regs, h.pending, h.tick⟩

/-- Registers left out of the register file read their reset values, which are not listed. -/
theorem Keeps.filterRegs (h : Keeps s t) {p : Nat × Word → Bool} : Keeps s { t with regs := t.regs.filter p } :=
  ⟨h.mem, fun w => sparseWf_filter p (h.regs w), h.pending, h.tick⟩

/-- The module tick counts in both states. -/
theorem Keeps.nextTick (h : Keeps s t) : Keeps { s with tick := s.tick + 1 } { t with tick := t.tick + 1 } :=
  ⟨h.mem, h.regs, h.pending, congrArg (· + 1) h.tick⟩

/-! ### Operations of Machine/Ops -/

theorem Keeps.wr (h : Keeps s t) {a : Nat} {v : Word} : Keeps s (t.wr a v) :=
  ⟨h.mem, fun w => sparseWf_set a v (h.regs w), h.pending, h.tick⟩

theorem Keeps.put (h : Keeps s t) {a lo n v : Nat} : Keeps s (t.put a lo n v) := h.wr

theorem Keeps.setBit (h : Keeps s t) {a i : Nat} {b : Bool} : Keeps s (t.setBit a i b) := h.put

theorem Keeps.countUp (h : Keeps s t) {a lo n k : Nat} : Keeps s (t.countUp a lo n k) := h.put

theorem Keeps.countWrap (h : Keeps s t) {a lo n k : Nat} : Keeps s (t.countWrap a lo n k) := h.put

theorem Keeps.wrBoth (h : Keeps s t) {f : Nat → Nat} {v : Word} : Keeps s (t.wrBoth f v) := h.wr.wr

theorem Keeps.wrRw (h : Keeps s t) {a : Nat} {v : Word} : Keeps s (t.wrRw a v) := h.wr

theorem Keeps.setBankBit (h : Keeps s t) {a i : Nat} {b : Bool} : Keeps s (t.setBankBit a i b) := h.setBit

theorem Keeps.wrByte (h : Keeps s t) {a : Nat} {b : Byte} : Keeps s (t.wrByte a b) :=
  ⟨fun w => t.wrByte_wf a b (h.mem w), h.regs, h.pending, h.tick⟩

theorem Keeps.wrBytes (h : Keeps s t) {a : Nat} {bs : List Byte} : Keeps s (t.wrBytes a bs) := by
  induction bs generalizing t a with
  | nil => exact h
  | cons b bs ih => exact ih h.wrByte

theorem Keeps.freshWord (h : Keeps s t) : Keeps s t.freshWord.2 := h.fields

theorem Keeps.freshKey (h : Keeps s t) : Keeps s t.freshKey.2 := h.fields

theorem Keeps.setBits (h : Keeps s t) {l : List (Nat × Nat)} : Keeps s (t.setBits l) := h.foldl fun _ k => k.setBit

theorem Keeps.bumpCounter (h : Keeps s t) {k n fuel : Nat} : Keeps s (t.bumpCounter k n fuel) := by
  induction fuel generalizing t k n with
  | zero => exact h
  | succ fuel ih => exact .ite h.wr (.ite (ih h.wr) h.wr.fields)

theorem Keeps.countSource (h : Keeps s t) {src n : Nat} : Keeps s (t.countSource src n) :=
  h.foldl fun _ k => .ite k.bumpCounter k

theorem Keeps.countBeats (h : Keeps s t) {b cls idx n wait : Nat} : Keeps s (t.countBeats b cls idx n wait) :=
  h.countSource.foldl fun _ k => .ite k.fields.wr k

theorem Keeps.countFault (h : Keeps s t) {code : Nat} : Keeps s (t.countFault code) :=
  .ite h.countUp.fields (.ite h.countUp h)

theorem Keeps.takeRecord (h : Keeps s t) {code : Nat} {details : List Word} : Keeps s (t.takeRecord code details) :=
  .ite h.countWrap.fields h.countUp

theorem Keeps.enqueueEvent (h : Keeps s t) {code : Nat} {details : List Word} :
    Keeps s (t.enqueueEvent code details) :=
  .ite h.fields.put h.countUp.fields

theorem Keeps.raise (h : Keeps s t) {code : Nat} {details : List Word} : Keeps s (t.raise code details) :=
  have h1 := h.setBits.countSource.countFault.enqueueEvent
  .ite h1.takeRecord h1

theorem Keeps.raiseLane (h : Keeps s t) {n : Nat} {details : List Word} : Keeps s (t.raiseLane n details) := h.raise

theorem Keeps.raisePwm (h : Keeps s t) {n : Nat} {details : List Word} : Keeps s (t.raisePwm n details) := h.raise

theorem Keeps.raiseTransient (h : Keeps s t) {b : Nat} {addr info : Word} : Keeps s (t.raiseTransient b addr info) :=
  h.raise

theorem Keeps.raiseLasting (h : Keeps s t) {b : Nat} {addr info : Word} : Keeps s (t.raiseLasting b addr info) :=
  h.raise

theorem Keeps.setRing (h : Keeps s t) {r : Nat} {q : RingQ} : Keeps s (t.setRing r q) := h.fields

theorem Keeps.setFill (h : Keeps s t) {r f : Nat} : Keeps s (t.setFill r f) := h.put.put.setBit

theorem Keeps.append (h : Keeps s t) {r n : Nat} {bytes : List Byte} : Keeps s (t.append r n bytes) :=
  h.setRing.setFill.countWrap.fields.countSource

theorem Keeps.dropUnit (h : Keeps s t) {r : Nat} {why : Room} : Keeps s (t.dropUnit r why) := by
  unfold State.dropUnit
  dsimp only
  refine have h1 := ?_; .ite h1 h1.raise.setRing
  split
  · exact have h1 := h.countUp.countSource; .ite h1 h1.raise.fields
  · exact h.countUp

theorem Keeps.offer (h : Keeps s t) {r n : Nat} {bytes : List Byte} : Keeps s (t.offer r n bytes) := by
  unfold State.offer
  split
  · exact h.append
  · exact h.dropUnit

theorem Keeps.addClaim (h : Keeps s t) {c : Claim} : Keeps s (t.addClaim c) := h.fields

/-! ### Operations of Machine/Audit -/

theorem Keeps.audit (h : Keeps s t) {session role : Nat} {kind : AuditKind} {a b : Nat} :
    Keeps s (t.audit session role kind a b) :=
  .ite h.fields.put h.countUp.raise

theorem Keeps.showCauses (h : Keeps s t) {code index : Nat} : Keeps s (t.showCauses code index) := h.wr

theorem Keeps.queueCause (h : Keeps s t) {code index : Nat} : Keeps s (t.queueCause code index) :=
  .ite h.fields.showCauses (.ite h.countUp h.countUp.raise.fields)

theorem Keeps.showSource (h : Keeps s t) : Keeps s t.showSource := h.put

theorem Keeps.keepLink (h : Keeps s t) : Keeps s t.keepLink :=
  .ite h.fields h.fields.setBit.showSource.raise.queueCause

/-! ### Operations of Machine/FabCore -/

theorem Keeps.setFab (h : Keeps s t) {v : FabSt} : Keeps s (t.setFab v) := h.fields

theorem Keeps.setPort (h : Keeps s t) {p : Nat} {v : FabPort} : Keeps s (t.setPort p v) := h.setFab

theorem Keeps.sendOn (h : Keeps s t) {f : FabFrame} {aborted copy : Bool} {p : Nat} :
    Keeps s (t.sendOn f aborted copy p) :=
  .ite h.setPort h

theorem Keeps.originate (h : Keeps s t) {dst stream : Nat} {sched : Bool} {hops : Nat} {body : FabBody} {ports : List
    Nat} :
    Keeps s (t.originate dst stream sched hops body ports) :=
  (h.foldl fun _ k => k.sendOn).setFab

theorem Keeps.sendFab (h : Keeps s t) {dst : Nat} {body : FabBody} : Keeps s (t.sendFab dst body) :=
  .ite h (.ite (.ite h.originate (.ite h.originate h.originate)) (.ite h.originate h))

theorem Keeps.takeRequest (h : Keeps s t) {sect node : Nat} : Keeps s (t.takeRequest sect node) := .ite h h.setFab

theorem Keeps.endGrants (h : Keeps s t) {p : Nat × Nat → Bool} : Keeps s (t.endGrants p) := h.setFab

theorem Keeps.tellDead (h : Keeps s t) : Keeps s t.tellDead := .ite h.takeRequest h.sendFab

theorem Keeps.setGrant (h : Keeps s t) {b : Bool} : Keeps s (t.setGrant b) := h.setBit.setBit.setBit

theorem Keeps.tellLive (h : Keeps s t) : Keeps s t.tellLive := (Keeps.ite h.endGrants h.sendFab).setGrant

theorem Keeps.tellLeft (h : Keeps s t) : Keeps s t.tellLeft := .ite (Keeps.ite h.endGrants h.sendFab).setGrant h

/-! ### Operations of Machine/Objects -/

theorem Keeps.releaseClaims (h : Keeps s t) : Keeps s t.releaseClaims := h.fields

/-- `f` is what the owner of the registers does with each. -/
theorem Keeps.takeItems (h : Keeps s t) {p : Nat → Bool} {f : State → Nat → Word → State}
    (hf : ∀ {v}, Keeps s v → ∀ a w, Keeps s (f v a w)) : Keeps s (t.takeItems p f) :=
  (h.fields.foldl fun e k => hf k e.1 e.2).releaseClaims

/-! ### Operations of Machine/Gate -/

theorem Keeps.setGch (h : Keeps s t) {c : Nat} {g : GateCh} : Keeps s (t.setGch c g) := h.fields

theorem Keeps.showState (h : Keeps s t) {c : Nat} {st : ChanState} : Keeps s (t.showState c st) :=
  h.put.setBankBit.setBit.setBit

theorem Keeps.applyGate (h : Keeps s t) {a : Nat} {v : Word} : Keeps s (t.applyGate a v) := by
  unfold State.applyGate
  dsimp only
  split
  · exact h.wr
  · exact .ite h.wr.showState (.ite h.wr.setGch.setBankBit.showState h.wr)

theorem Keeps.applyWaiting (h : Keeps s t) {c : Nat} : Keeps s (t.applyWaiting c) :=
  h.takeItems fun k _ _ => k.applyGate

theorem Keeps.setChanCmd (h : Keeps s t) {c : Nat} {v : ChanCmd} : Keeps s (t.setChanCmd c v) := h.fields

theorem Keeps.setRefresh (h : Keeps s t) {p : Nat} {r : Refresh} : Keeps s (t.setRefresh p r) := h.fields

theorem Keeps.noteOn (h : Keeps s t) {c : Nat} {st : ChanState} : Keeps s (t.noteOn c st) :=
  .ite h (.ite h.setRefresh h.setRefresh)

theorem Keeps.enter (h : Keeps s t) {c : Nat} {st : ChanState} : Keeps s (t.enter c st) := by
  unfold State.enter
  dsimp only
  split
  · exact h.noteOn.showState.applyWaiting
  · exact h.noteOn.showState.applyWaiting
  · exact h.noteOn.showState.setBankBit.applyWaiting
  · exact h.noteOn.showState.setBankBit.applyWaiting
  · exact h.noteOn.showState

theorem Keeps.setOccupied (h : Keeps s t) {g c : Nat} {b : Bool} : Keeps s (t.setOccupied g c b) := h.fields

theorem Keeps.occupy (h : Keeps s t) {c : Nat} : Keeps s (t.occupy c) := h.foldl fun _ k => .ite k.setOccupied k

theorem Keeps.latticeLatch (h : Keeps s t) {code index : Nat} : Keeps s (t.latticeLatch code index) :=
  h.setBit.setBit.setBit.setBit.fields

theorem Keeps.exhaust (h : Keeps s t) {c kind : Nat} : Keeps s (t.exhaust c kind) :=
  (Keeps.ite h.raise h.raise.wr).setBit.latticeLatch

theorem Keeps.chanFault (h : Keeps s t) {c kind : Nat} : Keeps s (t.chanFault c kind) := by
  unfold State.chanFault
  extract_lets s1 s2 s3 s4 g s5 out s6 g' out' s7 _ s8
  have h3 : Keeps s s3 := .ite h.raise.setBit.put h.raise.setBit.put.setBankBit
  have h6 : Keeps s s6 := .ite h3.countUp.setGch.exhaust h3.countUp.setGch
  have h7 : Keeps s s7 := h6.setGch
  have h8 : Keeps s s8 := by
    unfold s8
    split
    · exact h7.setGch.enter
    · exact h7.setGch.enter
    · exact h7.setGch.enter
    · exact h7
    · exact h7.setGch
    · exact h7.setGch.enter
  exact .ite h8 h8.setBit

theorem Keeps.startProfile (h : Keeps s t) {c : Nat} {st : ChanState} : Keeps s (t.startProfile c st) :=
  h.setGch.enter

theorem Keeps.follow (h : Keeps s t) {c : Nat} : Keeps s (t.follow c) := by
  unfold State.follow
  extract_lets u e _ v
  have hu : Keeps s u := by
    unfold u
    split
    · exact h.chanFault
    · exact h
  have hv : Keeps s v := .ite hu hu.setBit.setGch
  split
  · exact hv.startProfile
  · exact hv.startProfile
  · exact hv.startProfile
  · exact hv.startProfile
  · exact hv.startProfile
  · exact hv.startProfile
  · exact .ite hv.enter hv
  · exact .ite hv.enter hv
  · exact hv.enter
  · exact hv.enter
  · exact hv

theorem Keeps.countHeld (h : Keeps s t) {c : Nat} {groups : List Nat} : Keeps s (t.countHeld c groups) :=
  .ite h (h.setGch.countUp.foldl fun _ k => k.countUp)

theorem Keeps.acceptOn (h : Keeps s t) {c : Nat} : Keeps s (t.acceptOn c) :=
  (Keeps.ite h.setRefresh h).setGch.occupy.startProfile

theorem Keeps.bar (h : Keeps s t) {sets : List (Nat × List Nat)} {cs : List Nat} : Keeps s (t.bar sets cs) :=
  .ite h ((h.foldl fun _ k => k.setBit).raise.countUp.foldl fun _ k => k.countUp)

theorem Keeps.judgeOn (h : Keeps s t) : Keeps s t.judgeOn :=
  (h.foldl fun _ k => k.countHeld).bar.foldl fun _ k => k.acceptOn

theorem Keeps.gateCycle (h : Keeps s t) : Keeps s t.gateCycle := (h.foldl fun _ k => k.follow).judgeOn

theorem Keeps.busUpdate (h : Keeps s t) : Keeps s t.busUpdate := .ite h.setBit h.setBit.setBit.setBit.gateCycle

theorem Keeps.gateSettle (h : Keeps s t) : Keeps s t.gateSettle := h.gateCycle.busUpdate

theorem Keeps.endWindows (h : Keeps s t) {now : Nat} : Keeps s (t.endWindows now) := by
  refine h.foldl fun p k => ?_
  dsimp only
  split
  · exact .ite k.setRefresh k
  · exact k

theorem Keeps.afterSoft (h : Keeps s t) {c : Nat} : Keeps s (t.afterSoft c) := h.setGch.enter

theorem Keeps.endPhase (h : Keeps s t) {c : Nat} : Keeps s (t.endPhase c) := by
  unfold State.endPhase
  dsimp only
  split
  · exact .ite h.setGch h.enter
  · exact .ite h.setGch h.enter
  · exact h.afterSoft
  · exact h

theorem Keeps.endOverride (h : Keeps s t) {p : Nat} : Keeps s (t.endOverride p) := .ite h.setRefresh.setBit h

theorem Keeps.recover (h : Keeps s t) {c : Nat} : Keeps s (t.recover c) :=
  h.setGch.setBit.setBankBit.enter.raise.setBit

theorem Keeps.failAgain (h : Keeps s t) {c : Nat} : Keeps s (t.failAgain c) := h.chanFault

theorem Keeps.gateRelease (h : Keeps s t) {persist : List Nat} : Keeps s (t.gateRelease persist) :=
  ((h.foldl fun _ k => k.setGch).foldl fun _ k => .ite (have h1 := Keeps.ite k.setBit k; .ite h1.setGch.enter
      h1.setGch.setBit.setBankBit.enter.setBit) k).setBit.wr

/-! ### Operations of Machine/Pwm -/

theorem Keeps.putBoth (h : Keeps s t) {f : Nat → Nat} {lo n v : Nat} : Keeps s (t.putBoth f lo n v) := h.put.put

theorem Keeps.setBitBoth (h : Keeps s t) {f : Nat → Nat} {i : Nat} {b : Bool} : Keeps s (t.setBitBoth f i b) :=
  h.putBoth

theorem Keeps.showTb (h : Keeps s t) {i now : Nat} : Keeps s (t.showTb i now) := h.wrBoth.wrBoth

theorem Keeps.setNow (h : Keeps s t) {now : Nat} : Keeps s (t.setNow now) := h.fields.foldl fun _ k => .ite k.showTb k

theorem Keeps.setUnit (h : Keeps s t) {l j : Nat} {v : UnitSt} : Keeps s (t.setUnit l j v) := h.fields

theorem Keeps.setRelDue (h : Keeps s t) {j : Nat} {b : Bool} : Keeps s (t.setRelDue j b) := h.fields

theorem Keeps.openUnits (h : Keeps s t) {us : List Nat} {now : Nat} : Keeps s (t.openUnits us now) :=
  h.foldl fun _ k => k.foldl fun _ k => .ite k.setUnit k

theorem Keeps.closeUnits (h : Keeps s t) {us : List Nat} {now : Nat} : Keeps s (t.closeUnits us now) :=
  h.foldl fun _ k => k.foldl fun _ k => .ite k.setUnit k.setUnit

theorem Keeps.noteReleased (h : Keeps s t) {p : Nat} : Keeps s (t.noteReleased p) := .ite h.setRefresh.setBit h

theorem Keeps.pwmCycle (h : Keeps s t) {now : Nat} : Keeps s (t.pwmCycle now) :=
  ((h.setNow.endWindows.foldl fun _ k => k.setChanCmd).foldl fun _ k => k.noteReleased).gateSettle

theorem Keeps.rejudge (h : Keeps s t) : Keeps s t.rejudge := h.pwmCycle

theorem Keeps.leaveReleased (h : Keeps s t) {i now : Nat} : Keeps s (t.leaveReleased i now) :=
  h.foldl fun _ k => .ite k.setChanCmd k

theorem Keeps.releaseUnits (h : Keeps s t) {i now : Nat} : Keeps s (t.releaseUnits i now) :=
  h.foldl fun _ k => .ite (k.setRelDue.foldl fun _ k => k.setChanCmd) k

theorem Keeps.setStepCount (h : Keeps s t) {l n : Nat} : Keeps s (t.setStepCount l n) := h.put.setBit

theorem Keeps.raiseRed (h : Keeps s t) {l i : Nat} {details : List Word} : Keeps s (t.raiseRed l i details) := h.raise

theorem Keeps.takeToken (h : Keeps s t) {l : Nat} : Keeps s (t.takeToken l) := h.setBit.setBit.setBit.setBit

theorem Keeps.passToken (h : Keeps s t) {x : LaneHold} : Keeps s (t.passToken x) :=
  .ite (Keeps.ite h.takeToken.setStepCount h.takeToken).fields h.takeToken.fields.busUpdate

theorem Keeps.passOffs (h : Keeps s t) {x : LaneHold} : Keeps s (t.passOffs x) := h.pwmCycle.fields.gateSettle

theorem Keeps.passEnd (h : Keeps s t) {x : LaneHold} : Keeps s (t.passEnd x) :=
  h.fields.countUp.countUp.pwmCycle.raiseRed

theorem Keeps.passHold (h : Keeps s t) {now : Nat} : Keeps s (t.passHold now) := by
  unfold State.passHold
  extract_lets step v w
  have hstep : ∀ {u n go f}, Keeps s u → (∀ {x l}, Keeps s x → Keeps s (f x l)) → Keeps s (step u n go f) := by
    intro u n go f hu hf
    unfold step
    split
    · exact .ite (hf hu) hu
    · exact hu
  exact hstep (hstep (hstep h fun k => k.passToken) fun k => k.passOffs) fun k => k.passEnd

theorem Keeps.reach (h : Keeps s t) {now : Nat} : Keeps s (t.reach now) := h.passHold.setNow

theorem Keeps.finishHold (h : Keeps s t) : Keeps s t.finishHold := by
  unfold State.finishHold
  split
  · exact h.reach
  · exact h

theorem Keeps.loadUnit (h : Keeps s t) {l j : Nat} : Keeps s (t.loadUnit l j) := h.setBit.wr

theorem Keeps.pairIncomplete (h : Keeps s t) {l p : Nat} : Keeps s (t.pairIncomplete l p) :=
  have h1 := h.setBit.countUp
  .ite h1 (Keeps.ite h1.raisePwm h1).fields

theorem Keeps.loadPair (h : Keeps s t) {l p i : Nat} : Keeps s (t.loadPair l p i) :=
  .ite h (.ite h.loadUnit.loadUnit.fields (.ite h.pairIncomplete h.fields))

theorem Keeps.loadCompares (h : Keeps s t) {l i : Nat} : Keeps s (t.loadCompares l i) :=
  h.foldl fun _ k => .ite k.loadPair (have h1 := Keeps.ite k.loadUnit k; .ite h1.loadUnit h1)

theorem Keeps.latchEdges (h : Keeps s t) {l i now : Nat} : Keeps s (t.latchEdges l i now) :=
  h.foldl fun _ k => .ite k.setUnit (.ite k.setUnit k)

theorem Keeps.showZones (h : Keeps s t) : Keeps s t.showZones :=
  have h1 := h.putBoth.setBitBoth
  .ite h1 h1.setBitBoth

theorem Keeps.latchTrip (h : Keeps s t) {i : Nat} : Keeps s (t.latchTrip i) :=
  have h1 := h.setBankBit.setBankBit.countUp.countUp
  have h2 := Keeps.ite h1.wrBoth h1
  (Keeps.ite h2.showZones.raisePwm.takeRecord h2.showZones.raisePwm).rejudge

theorem Keeps.judgeTrip (h : Keeps s t) {i now : Nat} : Keeps s (t.judgeTrip i now) := .ite h.latchTrip h

theorem Keeps.setSource (h : Keeps s t) {i : Nat} {b : Bool} : Keeps s (t.setSource i b) := h.setBankBit.setBankBit

theorem Keeps.clearTrip (h : Keeps s t) {i : Nat} : Keeps s (t.clearTrip i) :=
  .ite h.setBankBit.setBankBit.showZones.raisePwm h

/-! ### Operations of Machine/Filt -/

theorem Keeps.setOutput (h : Keeps s t) {c p : Nat} {o : Output} : Keeps s (t.setOutput c p o) := h.fields

theorem Keeps.showSettle (h : Keeps s t) {c : Nat} : Keeps s (t.showSettle c) := h.setBankBit

theorem Keeps.settle (h : Keeps s t) {c p : Nat} : Keeps s (t.settle c p) := h.fields.showSettle

theorem Keeps.flush (h : Keeps s t) {c : Nat} : Keeps s (t.flush c) := h.fields.showSettle

theorem Keeps.setAin (h : Keeps s t) {c : Nat} {a : AinSt} : Keeps s (t.setAin c a) := h.fields

theorem Keeps.setStaged (h : Keeps s t) {c : Nat} {r : ChanResult} : Keeps s (t.setStaged c r) := h.fields

theorem Keeps.setCmp (h : Keeps s t) {k : Nat} {v : Cmp} : Keeps s (t.setCmp k v) := h.fields

theorem Keeps.cmpAssert (h : Keeps s t) {k : Nat} : Keeps s (t.cmpAssert k) :=
  h.setBankBit.setBankBit.raise.setSource.judgeTrip

theorem Keeps.cmpRelease (h : Keeps s t) {k : Nat} : Keeps s (t.cmpRelease k) := h.setBankBit.setSource.setCmp

theorem Keeps.cmpInvalid (h : Keeps s t) {k : Nat} : Keeps s (t.cmpInvalid k) :=
  .ite (.ite h.setCmp h.setCmp.cmpAssert) h.setCmp

theorem Keeps.cmpValid (h : Keeps s t) {k : Nat} {v : Int} : Keeps s (t.cmpValid k v) :=
  .ite (.ite (.ite h.cmpRelease h.setCmp) h.setCmp) (.ite h.setCmp h.setCmp)

theorem Keeps.applyFilt (h : Keeps s t) {a : Nat} {v : Word} : Keeps s (t.applyFilt a v) := by
  unfold State.applyFilt
  dsimp only
  split
  · exact have h1 := (Keeps.ite h.cmpRelease h).wr; .ite h1.cmpInvalid h1
  · exact h.wr.showSettle

theorem Keeps.takeThresholds (h : Keeps s t) {c p : Nat} : Keeps s (t.takeThresholds c p) :=
  h.takeItems fun k _ _ => k.applyFilt

theorem Keeps.judgeOutput (h : Keeps s t) {c p : Nat} {v : Int} {valid : Bool} :
    Keeps s (t.judgeOutput c p v valid) :=
  h.takeThresholds.foldl fun _ k => .ite k.cmpValid k.cmpInvalid

theorem Keeps.invalidAll (h : Keeps s t) {c : Nat} : Keeps s (t.invalidAll c) := h.foldl fun _ k => k.cmpInvalid

theorem Keeps.countSat (h : Keeps s t) {c : Nat} {saturated : Bool} : Keeps s (t.countSat c saturated) :=
  have h1 := Keeps.ite h.countUp h
  .ite h1.fields.raise h1.fields

theorem Keeps.setShutRun (h : Keeps s t) {q : Nat} {v : Shut} : Keeps s (t.setShutRun q v) := h.fields

theorem Keeps.paceShutters (h : Keeps s t) {c p : Nat} : Keeps s (t.paceShutters c p) :=
  h.foldl fun _ k => .ite k.setShutRun k

theorem Keeps.takePreset (h : Keeps s t) {c p : Nat} : Keeps s (t.takePreset c p) :=
  .ite h (h.takeItems fun k _ _ => k.applyFilt)

theorem Keeps.produce (h : Keeps s t) {c p : Nat} {z : Int} {settled clip : Bool} :
    Keeps s (t.produce c p z settled clip) :=
  have h1 := Keeps.ite h.takePreset.setOutput.settle h.takePreset.setOutput
  (Keeps.ite h1.countSat h1).judgeOutput.paceShutters

theorem Keeps.sarFeed (h : Keeps s t) {c : Nat} {code : Int} {clip : Bool} : Keeps s (t.sarFeed c code clip) :=
  h.fields.foldl fun _ k => .ite k.produce k

theorem Keeps.sincFeed (h : Keeps s t) {m p : Nat} {bits : List Bool} : Keeps s (t.sincFeed m p bits) :=
  h.fields.produce

theorem Keeps.execBitstreamWindowEnd (h : Keeps s t) {m p : Nat} {bits : List Bool} :
    Answers s (execBitstreamWindowEnd m p bits t) :=
  .next (.ite (.ite h.sincFeed.setBit h.sincFeed) h)

theorem Keeps.execSettlingEnd (h : Keeps s t) {c p : Nat} : Answers s (execSettlingEnd c p t) :=
  .next (.ite (.ite (.ite h.settle h) (.ite (.ite h.settle.setBit h.settle) h)) h)

theorem Keeps.execThresholdAssert (h : Keeps s t) {k now : Nat} : Answers s (execThresholdAssert k now t) :=
  .next (.ite h.fields.setCmp.cmpAssert h)

/-! ### Operations of Machine/Conv -/

theorem Keeps.setGroup (h : Keeps s t) {g : Nat} {v : Group} : Keeps s (t.setGroup g v) := h.fields

theorem Keeps.phaseChange (h : Keeps s t) {i : Nat} : Keeps s (t.phaseChange i) :=
  h.foldl fun _ k => .ite k.setGroup k

theorem Keeps.dropSample (h : Keeps s t) {g seq : Nat} : Keeps s (t.dropSample g seq) :=
  .ite h.countUp.setGroup h.countUp.setGroup.raise

theorem Keeps.setSpare (h : Keeps s t) {v : Spare} : Keeps s (t.setSpare v) := h.fields

theorem Keeps.applyConv (h : Keeps s t) {a : Nat} {v : Word} : Keeps s (t.applyConv a v) :=
  .ite h.wr.setGroup (.ite (.ite h.wr (.ite h.wr.flush h.wr.showSettle.invalidAll)) (.ite (.ite (.ite h.wr
      h.wr.setBit) (.ite h.wr h.wr.setSpare.setBit)) h.wr))

theorem Keeps.takeGroup (h : Keeps s t) {g : Nat} : Keeps s (t.takeGroup g) := by
  unfold State.takeGroup
  exact (h.takeItems (f := State.applyConv) fun k _ _ => k.applyConv).takeItems (f := State.applyFilt) fun k _ _ => k.applyFilt

theorem Keeps.takeRow (h : Keeps s t) {c : Nat} : Keeps s (t.takeRow c) := .ite (.ite h.fields.fields h.fields.put) h

theorem Keeps.groupTrigger (h : Keeps s t) {g dt : Nat} : Keeps s (t.groupTrigger g dt) :=
  have h1 := h.foldl fun _ k => k.takeRow
  ((Keeps.ite (h1.foldl fun _ k => k.flush) h1).countWrap.foldl fun _ k => k.setStaged).setGroup

theorem Keeps.execSamplingTrigger (h : Keeps s t) {g now dt : Nat} : Answers s (execSamplingTrigger g now dt t) :=
  .next (.ite (have h1 := Keeps.ite h.takeGroup h; .ite h1.groupTrigger h1) h)

theorem Keeps.execGroupSampleComplete (h : Keeps s t) {g : Nat} : Answers s (execGroupSampleComplete g t) := by
  unfold Machine.execGroupSampleComplete
  dsimp only
  refine .next ?_
  split
  · exact .ite (.ite h.setGroup.setGroup h.setGroup.dropSample) h
  · exact h

theorem Keeps.execGroupSampleWritten (h : Keeps s t) {g : Nat} : Answers s (execGroupSampleWritten g t) := by
  unfold Machine.execGroupSampleWritten
  dsimp only
  refine .next ?_
  split
  · exact h
  · split
    · exact h.setGroup.append.setGroup
    · exact h.setGroup.dropUnit.dropSample

theorem Keeps.owJudge (h : Keeps s t) {c : Nat} {code : Int} : Keeps s (t.owJudge c code) := h.setAin

theorem Keeps.clipJudge (h : Keeps s t) {c : Nat} {clip : Bool} : Keeps s (t.clipJudge c clip) :=
  .ite (.ite h.setAin.setBankBit h.setAin.setBankBit.raise) h.setAin

theorem Keeps.stageResult (h : Keeps s t) {c : Nat} : Keeps s (t.stageResult c) :=
  h.foldl fun _ k => .ite k.setStaged.setGroup k

theorem Keeps.execConversionComplete (h : Keeps s t) {c : Nat} {level : Int} :
    Answers s (execConversionComplete c level t) :=
  .next (.ite (h.takeItems fun k _ _ => k.applyConv).clipJudge.owJudge.sarFeed.stageResult h)

theorem Keeps.execOpenWire (h : Keeps s t) {c : Nat} : Answers s (execOpenWire c t) :=
  .next (.ite h.setBankBit.setAin.raise h)

theorem Keeps.execOpenWireClear (h : Keeps s t) {c : Nat} : Answers s (execOpenWireClear c t) :=
  .next (.ite h.setBankBit.setAin.raise h)

theorem Keeps.owTestStart (h : Keeps s t) {v : Word} : Keeps s (t.owTestStart v) := h.setAin

theorem Keeps.execOwTestWindowEnd (h : Keeps s t) {c : Nat} : Answers s (execOwTestWindowEnd c t) := by
  unfold Machine.execOwTestWindowEnd
  dsimp only
  refine .next ?_
  split
  · exact .ite h.setAin h
  · exact h

theorem Keeps.nextInput (h : Keeps s t) : Keeps s t.nextInput :=
  have h1 := Keeps.ite h.setSpare.countWrap h.setSpare
  .ite h1 h1.setBit

theorem Keeps.execSpareCalibrationDone (h : Keeps s t) {checkOk : Bool} :
    Answers s (execSpareCalibrationDone checkOk t) :=
  .next (.ite (.ite h.setSpare (.ite h.setSpare h.setBit.setBit.raiseLasting.raise)) h)

theorem Keeps.execSpareComparisonDone (h : Keeps s t) {sumDiff : Int} :
    Answers s (execSpareComparisonDone sumDiff t) :=
  .next (.ite (.ite h.setSpare.put.setBankBit.nextInput (.ite h.raise.setBankBit.nextInput h.raise.setSpare)) h)

theorem Keeps.staleInput (h : Keeps s t) {m : Nat} : Keeps s (t.staleInput m) :=
  .ite h.setBit.setBit.flush.raise.invalidAll h

theorem Keeps.execBitstreamStale (h : Keeps s t) {m : Nat} : Answers s (execBitstreamStale m t) := .next h.staleInput

theorem Keeps.execBitstreamResumed (h : Keeps s t) {m : Nat} : Answers s (execBitstreamResumed m t) :=
  .next (.ite h.setBit.setBit.flush.raise h)

/-! ### Operations of Machine/PwmRows -/

theorem Keeps.runTb (h : Keeps s t) {i : Nat} {on : Bool} : Keeps s (t.runTb i on) :=
  have h1 := (Keeps.ite h h.openUnits).setBitBoth.phaseChange
  .ite (h1.foldl fun _ k => k.foldl fun _ k => k.setUnit).showTb h1.wrBoth.releaseUnits

theorem Keeps.applyPwm (h : Keeps s t) {a : Nat} {v : Word} : Keeps s (t.applyPwm a v) := by
  unfold State.applyPwm
  dsimp only
  refine .ite (.ite (.ite h.wr.wr h.wr.wr.fields) (h.wr.wr.fields.setBitBoth.foldl fun _ k => k.runTb).rejudge) ?_
  split
  · exact .ite (.ite h.wr.wr.phaseChange h.wr.wr.runTb.rejudge) (.ite h.wr.wr.phaseChange h.wr.wr)
  · exact .ite h.wr.wr.judgeTrip h.wr.wr

theorem Keeps.startEpoch (h : Keeps s t) : Keeps s t.startEpoch := h.fields.setBitBoth.foldl fun _ k => .ite k.runTb k

theorem Keeps.execGeneratorEpoch (h : Keeps s t) : Answers s (execGeneratorEpoch t) := .next (.ite h.startEpoch h)

theorem Keeps.countRefresh (h : Keeps s t) {i p : Nat} : Keeps s (t.countRefresh i p) := .ite h.setRefresh h

theorem Keeps.changeTb (h : Keeps s t) {i now : Nat} : Keeps s (t.changeTb i now) :=
  have h1 := h.openUnits.takeItems (fun k _ _ => k.applyPwm)
  .ite h1.closeUnits h1

theorem Keeps.zeroPoint (h : Keeps s t) {i now : Nat} : Keeps s (t.zeroPoint i now) :=
  have h1 := h.reach.changeTb
  (Keeps.ite ((h1.foldl fun _ k => k.countRefresh).openUnits.foldl fun _ k => k.latchEdges).closeUnits.leaveReleased
      h1).pwmCycle

theorem Keeps.execTimebaseZeroPoint (h : Keeps s t) {i now : Nat} : Answers s (execTimebaseZeroPoint i now t) :=
  .next (.ite h.zeroPoint h)

theorem Keeps.updatePoint (h : Keeps s t) {i now : Nat} {ls : List Nat} : Keeps s (t.updatePoint i now ls) :=
  (((h.openUnits.takeItems fun k _ _ => k.applyPwm).foldl fun _ k => k.loadCompares).foldl fun _ k =>
      k.latchEdges).closeUnits.releaseUnits.pwmCycle

theorem Keeps.execTripSourceAssert (h : Keeps s t) {i : Nat} {high : Bool} {held now : Nat} :
    Answers s (execTripSourceAssert i high held now t) :=
  .next (.ite h.reach.setSource.judgeTrip h)

theorem Keeps.execBlankingWindowClose (h : Keeps s t) {w now : Nat} : Answers s (execBlankingWindowClose w now t) :=
  .next (.ite (h.reach.foldl fun _ k => .ite k.judgeTrip k) h)

theorem Keeps.afterFault (h : Keeps s t) : Keeps s t.afterFault := h.busUpdate.gateSettle

theorem Keeps.execGateCommandChange (h : Keeps s t) {now : Nat} : Answers s (execGateCommandChange now t) :=
  .next (.ite h.reach.pwmCycle h)

theorem Keeps.execInterlockGapEnd (h : Keeps s t) {g c : Nat} : Answers s (execInterlockGapEnd g c t) :=
  .next (.ite h.setOccupied.endOverride.gateSettle h)

theorem Keeps.execGatePhaseEnd (h : Keeps s t) {c elapsed now : Nat} {volts : Int} :
    Answers s (execGatePhaseEnd c elapsed now volts t) :=
  .next (.ite h.reach.endPhase.endOverride.gateSettle h)

theorem Keeps.execGateEnableChange (h : Keeps s t) : Answers s (execGateEnableChange t) := .next h.busUpdate

theorem Keeps.execForcedRefresh (h : Keeps s t) {p : Nat} : Answers s (execForcedRefresh p t) :=
  .next (.ite h.setRefresh.setBit.countUp.gateSettle h)

theorem Keeps.execSc (h : Keeps s t) {c sns since : Nat} : Answers s (execSc c sns since t) :=
  .next (.ite h.chanFault.afterFault h)

theorem Keeps.monSupply (h : Keeps s t) {c kind : Nat} {level : Int} : Keeps s (t.monSupply c kind level) := h.put

theorem Keeps.monTemp (h : Keeps s t) {c : Nat} {temp : Int} : Keeps s (t.monTemp c temp) := h.put

theorem Keeps.execSupplyUv (h : Keeps s t) {c kind : Nat} {level : Int} : Answers s (execSupplyUv c kind level t) :=
  .next (.ite (.ite (.ite h.monSupply.chanFault.afterFault (.ite h.monSupply.setBit.enter h.monSupply.setBit))
      h.monSupply) h)

theorem Keeps.execOvertemp (h : Keeps s t) {c : Nat} {temp : Int} : Answers s (execOvertemp c temp t) :=
  .next (.ite (.ite h.monTemp.setBit (.ite (.ite h.monTemp.setBit h.monTemp.chanFault.afterFault) h.monTemp)) h)

theorem Keeps.execSupplyConditionClear (h : Keeps s t) {c kind : Nat} {level : Int} :
    Answers s (execSupplyConditionClear c kind level t) :=
  .next (.ite (.ite (.ite h.monSupply.setBit.enter.gateSettle h.monSupply.setBit) h.monSupply) h)

theorem Keeps.execRetryWaitEnd (h : Keeps s t) {c sns : Nat} : Answers s (execRetryWaitEnd c sns t) :=
  .next (.ite (have h1 := Keeps.ite h.setBit h; (Keeps.ite h1.failAgain h1.recover).afterFault) h)

/-! ### Operations of Machine/Lanes -/

theorem Keeps.eachLane (h : Keeps s t) {f : State → Nat → State} (hf : ∀ {v}, Keeps s v → ∀ l, Keeps s (f v l)) :
    Keeps s (t.eachLane f) :=
  have h1 := Keeps.ite (hf h 0) h
  .ite (hf h1 1) h1

theorem Keeps.lwr (h : Keeps s t) {f : Nat → Nat} {v : Word} : Keeps s (t.lwr f v) := h.eachLane fun k _ => k.wr

theorem Keeps.lput (h : Keeps s t) {f : Nat → Nat} {lo n v : Nat} : Keeps s (t.lput f lo n v) :=
  h.eachLane fun k _ => k.put

theorem Keeps.lsetBit (h : Keeps s t) {f : Nat → Nat} {i : Nat} {b : Bool} : Keeps s (t.lsetBit f i b) :=
  h.eachLane fun k _ => k.setBit

theorem Keeps.setLaw (h : Keeps s t) {l : Nat} {v : LawSt} : Keeps s (t.setLaw l v) := h.fields

theorem Keeps.showQueue (h : Keeps s t) : Keeps s t.showQueue := h.lput.foldl fun _ k => k.lput

theorem Keeps.applyWords (h : Keeps s t) {l : Nat} : Keeps s (t.applyWords l) := .ite h h.fields.setLaw.showQueue

theorem Keeps.showCoefCrc (h : Keeps s t) {l : Nat} : Keeps s (t.showCoefCrc l) := .ite h h.lwr.setLaw

theorem Keeps.discardWords (h : Keeps s t) {l : Nat} : Keeps s (t.discardWords l) := h.fields.showQueue

theorem Keeps.setHeld (h : Keeps s t) {l : Nat} {b : Bool} {left : Nat} : Keeps s (t.setHeld l b left) :=
  h.lsetBit.lput.lsetBit

theorem Keeps.loadPreset (h : Keeps s t) {l : Nat} : Keeps s (t.loadPreset l) := h.foldl fun _ k => k.lwr

/-! ### Operations of Machine/Scp -/

theorem Keeps.setSession (h : Keeps s t) {n : Nat} {v : Session} : Keeps s (t.setSession n v) := h.fields

theorem Keeps.setWaitingReplies (h : Keeps s t) {c : Nat} {l : List Reply} : Keeps s (t.setWaitingReplies c l) :=
  h.fields

theorem Keeps.popUnit (h : Keeps s t) {r : Nat} : Keeps s (t.popUnit r) := by
  unfold State.popUnit
  dsimp only
  split
  · exact h
  · exact h.setRing.setFill

theorem Keeps.fillReplies (h : Keeps s t) {c : Nat} : Keeps s (t.fillReplies c) := h.foldl fun _ k => .ite k.append k

theorem Keeps.sendReply (h : Keeps s t) {c : Nat} : Keeps s (t.sendReply c) := by
  unfold State.sendReply
  split
  · exact h
  · exact h.fields.setWaitingReplies.popUnit.fillReplies

theorem Keeps.drainPcie (h : Keeps s t) {c : Nat} : Keeps s (t.drainPcie c) :=
  h.foldl fun _ k => .ite k.sendReply.put.fields k

theorem Keeps.emit (h : Keeps s t) {r : Reply} : Keeps s (t.emit r) :=
  have h1 := h.setWaitingReplies.fillReplies
  .ite h1.drainPcie h1

theorem Keeps.noteReply (h : Keeps s t) {p : Packet} {r : Reply} : Keeps s (t.noteReply p r) := h.setSession

theorem Keeps.countStatus (h : Keeps s t) {st : Status} : Keeps s (t.countStatus st) := by
  unfold State.countStatus
  split
  · exact h.countUp
  · exact h.countUp
  · exact h

theorem Keeps.refuse (h : Keeps s t) {op : Nat} {p : Packet} {st : Status} {payload : List Byte} {tag : Bool} :
    Keeps s (t.refuse op p st payload tag) :=
  h.countStatus.emit

theorem Keeps.answer (h : Keeps s t) {op : Nat} {p : Packet} {st : Status} {payload : List Byte} :
    Keeps s (t.answer op p st payload) :=
  h.countStatus.noteReply.emit

theorem Keeps.finish (h : Keeps s t) {op : Nat} {p : Packet} {st : Status} {payload : List Byte} :
    Keeps s (t.finish op p st payload) :=
  (Keeps.ite h.fields.put.audit h.fields.put).answer

theorem Keeps.finishLate (h : Keeps s t) {op : Nat} {p : Packet} {st : Status} {payload : List Byte} :
    Keeps s (t.finishLate op p st payload) :=
  .ite h.finish h

theorem Keeps.pend (h : Keeps s t) {op : Nat} {p : Packet} : Keeps s (t.pend op p) := h.answer

theorem Keeps.notify (h : Keeps s t) {n op tag : Nat} {st : Status} {payload : List Byte} :
    Keeps s (t.notify n op tag st payload) :=
  h.setSession.emit

theorem Keeps.emptyStaging (h : Keeps s t) : Keeps s t.emptyStaging := h.fields

theorem Keeps.resetShadow (h : Keeps s t) : Keeps s t.resetShadow := h.fields.put.fields.wr

theorem Keeps.endObject (h : Keeps s t) {kind index : Nat} : Keeps s (t.endObject kind index) :=
  .ite h.emptyStaging (.ite h.discardWords (.ite (.ite h h.resetShadow.sendFab) h))

theorem Keeps.endLease (h : Keeps s t) {i : Nat} {why : LeaseEnd} : Keeps s (t.endLease i why) :=
  .ite h h.wr.wr.put.put.fields.raise.audit.endObject

theorem Keeps.discardSome (h : Keeps s t) {n : Nat} {keep : InFlight → Bool} : Keeps s (t.discardSome n keep) :=
  h.foldl fun _ k => (Keeps.ite k k.popUnit).finish

theorem Keeps.dropUnderWay (h : Keeps s t) {n : Nat} : Keeps s (t.dropUnderWay n) := by
  unfold State.dropUnderWay
  dsimp only
  split
  · exact .ite h.fields.fields.setBit h.fields
  · exact h.fields

theorem Keeps.discardFlight (h : Keeps s t) {n : Nat} : Keeps s (t.discardFlight n) := h.discardSome.dropUnderWay

theorem Keeps.endTransfer (h : Keeps s t) {n : Nat} : Keeps s (t.endTransfer n) := by
  unfold State.endTransfer
  dsimp only
  split
  · exact .ite h.fields.setBit h
  · exact h

theorem Keeps.endFilters (h : Keeps s t) {n : Nat} : Keeps s (t.endFilters n) :=
  h.foldl fun _ k => .ite k.setRing.wr k

theorem Keeps.endArm (h : Keeps s t) {n : Nat} : Keeps s (t.endArm n) := by
  unfold State.endArm
  dsimp only
  split
  · exact .ite h.fields.fields.put.put h.fields
  · exact h.fields

theorem Keeps.endSession (h : Keeps s t) {n : Nat} {why : SessionEnd} : Keeps s (t.endSession n why) := by
  unfold State.endSession
  extract_lets role s1 s2 s3 _ s4 s5 s6 s7 _ s8
  have h3 : Keeps s s3 := h.discardSome.fields.foldl fun _ k => .ite k.endLease k
  have h8 : Keeps s s8 := h3.fields.endTransfer.endFilters.endArm.wr.setBit.put.setSession
  refine .ite h ?_
  split
  · exact h8.audit.raise
  · exact h8.audit.raise

theorem Keeps.refused (h : Keeps s t) {op : Nat} {p : Packet} {st : Status} {payload : List Byte} {tagged : Bool} :
    Keeps s (t.refused op p st payload tagged) := by
  unfold State.refused
  dsimp only
  split
  · exact h.refuse.countUp
  · exact have h1 := h.refuse.countUp.raise; .ite h1.setSession.endSession h1.setSession
  · exact h.refuse

theorem Keeps.consume (h : Keeps s t) {p : Packet} : Keeps s (t.consume p) :=
  .ite h.setSession.put.countSource.keepLink h.setSession.put.countSource

/-- `run` is the work of the opcode on the state in which its packet is in flight. -/
theorem Keeps.accept (h : Keeps s t) {op : Nat} {p : Packet} {lenOk : Bool} {run : State → State} {aid : Aid}
    (hrun : ∀ {v}, Keeps s v → Keeps s (run v)) : Keeps s (t.accept op p lenOk run aid) := by
  unfold State.accept
  dsimp only
  split
  · exact (Keeps.ite h.consume.audit h.consume).answer
  · exact .ite (hrun h.consume.fields.put) h.consume.fields.put.append

theorem Keeps.turnAway (h : Keeps s t) {op : Nat} {p : Packet} : Keeps s (t.turnAway op p) := .ite h.countUp h.refuse

theorem Keeps.command (h : Keeps s t) {op : Nat} {p : Packet} {lenOk : Bool} {run : State → State} {aid : Aid}
    (hrun : ∀ {v}, Keeps s v → Keeps s (run v)) : Keeps s (t.command op p lenOk run aid) := by
  unfold State.command
  refine .ite h (.ite h.turnAway ?_)
  split
  · exact h.refused
  · split
    · exact h.emit
    · exact h
  · exact h.accept hrun

/-! ### Operations of Machine/Access -/

-- Unfolding compares the functions at an address, and the kernel then goes through the register map.
set_option maxRecDepth 20000 in
theorem Keeps.clearRc (h : Keeps s t) {a : Nat} : Keeps s (t.clearRc a) := by
  unfold State.clearRc
  split
  · exact .ite h.wr h
  · exact h

/-! ### Operations of Machine/Lease -/

theorem Keeps.granted (h : Keeps s t) {p : Packet} {handle : Nat} : Keeps s (t.granted p handle) := h.finish

theorem Keeps.runTake (h : Keeps s t) {p : Packet} {elsewhere : Bool} : Keeps s (t.runTake p elsewhere) := by
  unfold State.runTake
  dsimp only
  split
  · exact h.finish
  · refine .ite h.finish (.ite h.finish (.ite h.finish ?_))
    split
    · exact .ite h.finish h.fields.put.granted
    · split
      · exact h.finish
      · exact .ite h.finish h.fields.wr.wr.put.put.granted

theorem Keeps.execLeaseTake (h : Keeps s t) {p : Packet} {elsewhere : Bool} :
    Answers s (execLeaseTake p elsewhere t) :=
  .next (h.command fun k => k.runTake)

theorem Keeps.runRelease (h : Keeps s t) {p : Packet} : Keeps s (t.runRelease p) := by
  unfold State.runRelease
  dsimp only
  split
  · exact h.finish
  · split
    · exact h.endLease.finish
    · exact h.finish

theorem Keeps.execLeaseRelease (h : Keeps s t) {p : Packet} : Answers s (execLeaseRelease p t) :=
  .next (h.command fun k => k.runRelease)

theorem Keeps.execLeaseExpiry (h : Keeps s t) {i : Nat} : Answers s (execLeaseExpiry i t) := .next (.ite h.endLease h)

theorem Keeps.readFixed (h : Keeps s t) {a n : Nat} : Keeps s (t.readFixed a n).2 := by
  induction n generalizing t a with
  | zero => exact h
  | succ n ih =>
    unfold State.readFixed
    exact ih h.clearRc

theorem Keeps.runCfgRead (h : Keeps s t) {p : Packet} : Keeps s (t.runCfgRead p) := by
  unfold State.runCfgRead
  dsimp only
  refine .ite (.ite h.finish h.finish) (.ite h.finish (.ite ?_ (.ite h.finish (.ite h.readFixed.finish h.finish))))
  split
  · exact h.finish
  · exact h

theorem Keeps.execCfgRead (h : Keeps s t) {p : Packet} : Answers s (execCfgRead p t) :=
  .next (h.command fun k => k.runCfgRead)

theorem Keeps.runCfgWrite (h : Keeps s t) {p : Packet} {elsewhere : Bool} : Keeps s (t.runCfgWrite p elsewhere) := by
  unfold State.runCfgWrite
  dsimp only
  split
  · exact h.finish
  · split
    · exact h.finish
    · exact .ite h.finish h.fields.finish

theorem Keeps.execCfgWrite (h : Keeps s t) {p : Packet} {elsewhere : Bool} : Answers s (execCfgWrite p elsewhere t) :=
  .next (h.command fun k => k.runCfgWrite)

theorem Keeps.runDiscard (h : Keeps s t) {p : Packet} : Keeps s (t.runDiscard p) := by
  unfold State.runDiscard
  split
  · exact h.finish
  · exact h.emptyStaging.finish

theorem Keeps.execCfgDiscard (h : Keeps s t) {p : Packet} : Answers s (execCfgDiscard p t) :=
  .next (h.command fun k => k.runDiscard)

/-! ### Operations of Machine/Profile -/

theorem Keeps.setPg (h : Keeps s t) {j : Nat} {v : PgSt} : Keeps s (t.setPg j v) := h.fields.lwr.lwr

theorem Keeps.loadPg (h : Keeps s t) {j : Nat} {p : Word} : Keeps s (t.loadPg j p) := h.setPg

theorem Keeps.own (h : Keeps s t) {j : Nat} {i : Word} : Keeps s (t.own j i) := h.fields

theorem Keeps.disown (h : Keeps s t) {j : Nat} : Keeps s (t.disown j) := h.fields

theorem Keeps.stepPg (h : Keeps s t) {j : Nat} : Keeps s (t.stepPg j) := h.setPg.lsetBit

theorem Keeps.showOwned (h : Keeps s t) : Keeps s t.showOwned := h.lput

theorem Keeps.profileStep (h : Keeps s t) : Keeps s t.profileStep := (h.lwr.lwr.foldl fun _ k => k.stepPg).showOwned

/-! ### Operations of Machine/Xform -/

theorem Keeps.busStep (h : Keeps s t) {x : XfOut} : Keeps s (t.busStep x) := by
  unfold State.busStep
  dsimp only
  refine .ite (Keeps.fields ?_) h.lwr.lwr.fields
  split
  · exact h.lwr.lwr.lwr
  · exact h.lwr.lwr

theorem Keeps.rotorLimit (h : Keeps s t) {c : Nat} : Keeps s (t.rotorLimit c) :=
  .ite h.fields.lsetBit.raiseLane h.fields.lsetBit

theorem Keeps.limitReached (h : Keeps s t) {iu : Word} : Keeps s (t.limitReached iu) :=
  .ite h.fields.raiseLane h.fields

theorem Keeps.exitTest (h : Keeps s t) {inn : Word} : Keeps s (t.exitTest inn) := h.fields

theorem Keeps.xfStep (h : Keeps s t) : Keeps s t.xfStep.1 :=
  h.fields.lwr.lwr.lwr.lwr.lwr.lwr.lwr.rotorLimit.limitReached.exitTest.busStep

theorem Keeps.stageUnit (h : Keeps s t) {j c : Nat} : Keeps s (t.stageUnit j c) := h.lwr

theorem Keeps.unstage (h : Keeps s t) {j : Nat} : Keeps s (t.unstage j) := h.setBitBoth

/-! ### Operations of Machine/Control -/

theorem Keeps.putLaw (h : Keeps s t) {l : Nat} {xs ua : List Word} : Keeps s (t.putLaw l xs ua) :=
  (h.foldl fun _ k => k.lwr).foldl fun _ k => k.lwr

theorem Keeps.beginSample (h : Keeps s t) {l : Nat} : Keeps s (t.beginSample l) := by
  unfold State.beginSample
  dsimp only
  split
  · exact h.lwr.countSource.applyWords.setLaw.setHeld
  · exact .ite (.ite h.lwr.countSource.applyWords.setLaw.setHeld h.lwr.countSource.applyWords.setHeld)
      h.lwr.countSource.applyWords

theorem Keeps.judgeInputs (h : Keeps s t) {l : Nat} : Keeps s (t.judgeInputs l) :=
  .ite h.setLaw (.ite h.setLaw.raiseLane h.setLaw)

theorem Keeps.keepSetpoints (h : Keeps s t) {l : Nat} : Keeps s (t.keepSetpoints l) :=
  h.foldl fun _ k => .ite k.setLaw k

theorem Keeps.withholdSample (h : Keeps s t) : Keeps s t.withholdSample := h.foldl fun _ k => k.unstage

theorem Keeps.withholdWhere (h : Keeps s t) {p : Nat → Bool} : Keeps s (t.withholdWhere p) :=
  h.foldl fun _ k => k.unstage

theorem Keeps.stageDuty (h : Keeps s t) {j : Nat} {d : Word} : Keeps s (t.stageDuty j d) :=
  have h1 := Keeps.ite h.stageUnit.fields h.stageUnit
  .ite h1.fields h1

theorem Keeps.lawNumeric (h : Keeps s t) {law stage row : Nat} : Keeps s (t.lawNumeric law stage row) :=
  h.lwr.raiseLane

theorem Keeps.runLaws (h : Keeps s t) {ls : List Nat} : Keeps s (t.runLaws ls).1 := h.foldl fun _ k => k.putLaw

theorem Keeps.keepVdc (h : Keeps s t) : Keeps s t.keepVdc := h.fields

theorem Keeps.runSample (h : Keeps s t) {n : Nat} : Keeps s (t.runSample n).1 := by
  unfold State.runSample
  extract_lets due u vmo theta omega
  have hu : Keeps s u := h.foldl fun _ k => k.beginSample
  split
  next v xbad hx =>
    have hv : Keeps s v := by
      refine Keeps.fst ?_ hx
      split
      · exact hu.xfStep
      · exact hu
    dsimp only
    have hw : Keeps s (due.foldl (fun s l => (s.judgeInputs l).keepSetpoints l) v).keepVdc :=
      (hv.foldl fun _ k => k.judgeInputs.keepSetpoints).keepVdc
    split
    · exact (hw.runLaws.foldl fun _ k => k.showCoefCrc).lawNumeric
    · exact ((hw.runLaws.foldl fun _ k => k.showCoefCrc).foldl fun _ k => k.stageDuty).foldl fun _ k => k.stageDuty

/-! ### Operations of Machine/Modes -/

theorem Keeps.setWait (h : Keeps s t) {w : WaitSt} : Keeps s (t.setWait w) := h.fields

theorem Keeps.setBrk (h : Keeps s t) {b : BrkSt} : Keeps s (t.setBrk b) := h.fields

theorem Keeps.setStop (h : Keeps s t) {p : StopSt} : Keeps s (t.setStop p) := h.fields

theorem Keeps.setStage (h : Keeps s t) {g : StageSt} : Keeps s (t.setStage g) := h.fields

theorem Keeps.setModeBit (h : Keeps s t) {i : Nat} {b : Bool} : Keeps s (t.setModeBit i b) := h.lsetBit

theorem Keeps.issueOpen (h : Keeps s t) : Keeps s t.issueOpen := h.setModeBit.setModeBit.setBrk

theorem Keeps.issueClose (h : Keeps s t) : Keeps s t.issueClose := h.setModeBit.setBrk

theorem Keeps.setStages (h : Keeps s t) {ac dc req : Bool} : Keeps s (t.setStages ac dc req) :=
  have h1 := Keeps.ite h.withholdWhere h
  ((Keeps.ite h1.withholdWhere h1).foldl fun _ k => k.setRelDue).setStage.busUpdate

theorem Keeps.retarget (h : Keeps s t) : Keeps s t.retarget := by
  unfold State.retarget
  dsimp only
  split
  · exact .ite h.own.own.own h.own
  · exact h.own.own.own.own
  · exact .ite h.own.own (have h1 := Keeps.ite h.own h; .ite h1.own h1)
  · exact .ite h.own h
  · exact h

theorem Keeps.endOwned (h : Keeps s t) : Keeps s t.endOwned := (h.foldl fun _ k => .ite k.disown k).showOwned

theorem Keeps.disownAll (h : Keeps s t) : Keeps s t.disownAll := h.fields.showOwned

theorem Keeps.enterBlackStart (h : Keeps s t) : Keeps s t.enterBlackStart :=
  h.lwr.lwr.lwr.lwr.fields.setWait.setBrk.loadPg.own.showOwned.issueClose

theorem Keeps.enterSync (h : Keeps s t) : Keeps s t.enterSync := h.lwr.lwr.setBrk.loadPg.loadPg.retarget.showOwned

theorem Keeps.enterFromSync (h : Keeps s t) : Keeps s t.enterFromSync := h.disownAll.loadPg.loadPg.own.own.showOwned

theorem Keeps.enterPrecharge (h : Keeps s t) : Keeps s t.enterPrecharge :=
  have h1 := h.disownAll.setModeBit.setBrk.setStop.loadPg
  .ite h1 h1.setWait.own.showOwned

theorem Keeps.enterQuiet (h : Keeps s t) {m : Mode} : Keeps s (t.enterQuiet m) :=
  have h1 := h.disownAll.setModeBit.setModeBit.setBrk.setStop.setWait
  .ite h1.issueOpen h1

theorem Keeps.setLimiting (h : Keeps s t) {b : Bool} : Keeps s (t.setLimiting b) :=
  .ite h.lsetBit.fields.setLaw.setHeld.raiseLane h.lsetBit.fields

theorem Keeps.goMode (h : Keeps s t) {m : Mode} : Keeps s (t.goMode m) := by
  unfold State.goMode
  extract_lets old ret s1 s2 _ s3 s4 _ s5 _ s6 _ s7 s8 s9 rec' cause s10
  have h1 : Keeps s s1 := h.foldl fun _ k => k.loadPreset
  have h5 : Keeps s s5 := h1.lput.setWait.lwr.setModeBit.fields
  have h6 : Keeps s s6 := .ite h5.setLimiting.setWait h5
  have h7 : Keeps s s7 := by
    unfold s7
    split
    · exact h6.lput.setLimiting.setWait
    · exact .ite h6 h6.enterBlackStart
    · exact .ite h6 h6.enterSync
    · exact .ite h6.enterFromSync (.ite h6.disownAll h6)
    · exact h6.enterPrecharge
    · exact h6.enterQuiet
  have h8 : Keeps s s8 := .ite h7 h7.tellLeft
  have h10 : Keeps s s10 := h8.setStages.raiseLane
  exact .ite h10.takeRecord h10

theorem Keeps.openDecision (h : Keeps s t) : Keeps s t.openDecision := h.fields

theorem Keeps.safelight (h : Keeps s t) {c : Nat} : Keeps s (t.safelight c) := by
  unfold State.safelight
  dsimp only
  split
  · exact h
  · exact h.lput.fields
  · exact .ite h.fields h.fields.lput.goMode.raiseLane

theorem Keeps.endLate (h : Keeps s t) {c : Nat} : Keeps s (t.endLate c) := h.fields

theorem Keeps.advance (h : Keeps s t) {dt : Nat} : Keeps s (t.advance dt) :=
  have h1 := Keeps.ite h.setWait.lwr.setBrk.setStop h.setWait.lwr.setBrk
  have h2 := Keeps.ite h1.setModeBit h1
  have h3 := Keeps.ite h2 h2.setModeBit
  .ite h3 h3.setModeBit

theorem Keeps.setTarget (h : Keeps s t) {m : Mode} : Keeps s (t.setTarget m) := h.lput.setWait.setModeBit

theorem Keeps.clearRoute (h : Keeps s t) : Keeps s t.clearRoute := h.setWait.setModeBit

theorem Keeps.routeWait (h : Keeps s t) : Keeps s t.routeWait := (Keeps.ite h.setWait h).setModeBit

theorem Keeps.tryMode (h : Keeps s t) {m : Mode} : Keeps s (t.tryMode m) := .ite h.goMode h

theorem Keeps.judgeAbort (h : Keeps s t) : Keeps s t.judgeAbort := .ite h.setBrk.raiseLane h

theorem Keeps.leaveGrid (h : Keeps s t) : Keeps s t.leaveGrid := .ite h.tryMode h.tryMode

theorem Keeps.pursue (h : Keeps s t) : Keeps s t.pursue := by
  unfold State.pursue
  dsimp only
  split
  · exact .ite h.tryMode h
  · exact .ite h.tryMode (.ite (.ite h.clearRoute.tryMode h.routeWait) h)
  · exact .ite h.tryMode (.ite (.ite (.ite h.clearRoute h.clearRoute.tryMode) (.ite h.clearRoute.tryMode
      h.routeWait)) h.clearRoute)
  · exact .ite (have h1 := h.setModeBit.setBrk.issueOpen.retarget.showOwned; .ite h1 h1.tryMode) (.ite h.tryMode h)
  · exact .ite h.tryMode (.ite h.tryMode (.ite h (.ite h.tryMode (.ite h.issueClose h))))
  · exact .ite h.leaveGrid (.ite h.setModeBit.setStop.retarget.showOwned (.ite h.setModeBit.disown.disown.showOwned
      (.ite h.setStop.issueOpen h)))
  · exact .ite h.leaveGrid (.ite h.tryMode (.ite h.setModeBit.disown.disown.showOwned h))
  · exact .ite h.tryMode h
  · exact .ite h h.setTarget.goMode

theorem Keeps.closeConfirmed (h : Keeps s t) : Keeps s t.closeConfirmed := by
  unfold State.closeConfirmed
  dsimp only
  split
  · exact h.setModeBit.setBrk.tryMode
  · exact .ite h.setModeBit.setBrk.lput (.ite (.ite h.setModeBit.setBrk.setBrk.issueOpen h.setModeBit.setBrk)
      h.setModeBit.setBrk)
  · exact .ite h.setModeBit.setBrk.setBrk.issueOpen h.setModeBit.setBrk
  · exact h.setModeBit.setBrk

theorem Keeps.closeUnexpected (h : Keeps s t) : Keeps s t.closeUnexpected := by
  unfold State.closeUnexpected
  split
  · exact h.raiseLane.issueOpen
  · exact h.raiseLane.issueOpen
  · exact h.raiseLane.issueOpen
  · exact .ite h h.raiseLane.safelight
  · exact .ite h h.raiseLane.safelight
  · exact h

theorem Keeps.openConfirmed (h : Keeps s t) : Keeps s t.openConfirmed := by
  unfold State.openConfirmed
  dsimp only
  split
  · exact .ite h.setModeBit.tryMode h.setModeBit
  · exact .ite h.setModeBit.tryMode h.setModeBit
  · exact .ite h.setModeBit.tryMode h.setModeBit
  · exact .ite h.setModeBit.tryMode h.setModeBit
  · exact h.setModeBit

theorem Keeps.leaveBlackStart (h : Keeps s t) : Keeps s t.leaveBlackStart := h.setModeBit.setModeBit.setWait.tryMode

theorem Keeps.openUnexpected (h : Keeps s t) : Keeps s t.openUnexpected := by
  unfold State.openUnexpected
  dsimp only
  split
  · exact h.raiseLane.leaveGrid
  · exact .ite h.raiseLane.leaveBlackStart h.raiseLane.leaveGrid
  · exact .ite h.raiseLane.setBrk.leaveBlackStart h
  · exact h

theorem Keeps.handleFb (h : Keeps s t) : Keeps s t.handleFb := by
  unfold State.handleFb
  dsimp only
  split
  · exact h
  · exact .ite (.ite h.setBrk.issueOpen h.setBrk) (.ite (.ite h.setBrk.closeConfirmed h.setBrk.closeUnexpected) (.ite
      h.setBrk.openConfirmed h.setBrk.openUnexpected))

theorem Keeps.decideLow (h : Keeps s t) {limit : Bool} : Keeps s (t.decideLow limit) :=
  .ite h.judgeAbort (.ite h.judgeAbort.tryMode (.ite h.judgeAbort h.judgeAbort.pursue))

theorem Keeps.decideMode (h : Keeps s t) {limit : Bool} : Keeps s (t.decideMode limit) := by
  unfold State.decideMode
  dsimp only
  refine .ite h.fields.fields.goMode ?_
  split
  · exact h.fields.fields.lput.fields
  · exact h.fields.fields.pursue
  · exact h.fields.fields.safelight
  · exact .ite h.fields.fields (.ite h.fields.fields.handleFb h.fields.fields.handleFb.decideLow)

/-! ### Operations of Machine/Orders -/

theorem Keeps.runSetCoef (h : Keeps s t) {p : Packet} : Keeps s (t.runSetCoef p) := by
  unfold State.runSetCoef
  dsimp only
  split
  · exact h.finish
  · exact .ite h.finish (.ite h.finish h.fields.showQueue.finish)

theorem Keeps.execLawSetCoef (h : Keeps s t) {p : Packet} : Answers s (execLawSetCoef p t) :=
  .next (h.command fun k => k.runSetCoef)

theorem Keeps.runHold (h : Keeps s t) {p : Packet} : Keeps s (t.runHold p) := by
  unfold State.runHold
  dsimp only
  split
  · exact h.finish
  · exact .ite h.finish (.ite h.finish h.setLaw.finish)

theorem Keeps.execLawHold (h : Keeps s t) {p : Packet} : Answers s (execLawHold p t) :=
  .next (h.command fun k => k.runHold)

theorem Keeps.runLawRelease (h : Keeps s t) {p : Packet} : Keeps s (t.runLawRelease p) := by
  unfold State.runLawRelease
  dsimp only
  split
  · exact h.finish
  · exact .ite h.finish (.ite h.finish (.ite h.finish (.ite h.finish h.setHeld.finish)))

theorem Keeps.execLawRelease (h : Keeps s t) {p : Packet} : Answers s (execLawRelease p t) :=
  .next (h.command fun k => k.runLawRelease)

theorem Keeps.setProfile (h : Keeps s t) {j : Nat} {i : Word} : Keeps s (t.setProfile j i) := h.wrBoth

theorem Keeps.runProfileMove (h : Keeps s t) {p : Packet} : Keeps s (t.runProfileMove p) := by
  unfold State.runProfileMove
  dsimp only
  split
  · exact h.finish
  · split
    · exact h.finish
    · exact h.setProfile.finish

theorem Keeps.execProfileMove (h : Keeps s t) {p : Packet} : Answers s (execProfileMove p t) :=
  .next (h.command fun k => k.runProfileMove)

theorem Keeps.acceptTarget (h : Keeps s t) {code : Nat} : Keeps s (t.acceptTarget code) :=
  .ite h.setTarget.fields h.setTarget

theorem Keeps.runModeSet (h : Keeps s t) {p : Packet} : Keeps s (t.runModeSet p) := by
  unfold State.runModeSet
  dsimp only
  split
  · exact h.finish
  · split
    · exact h.finish
    · exact h.acceptTarget.finish

theorem Keeps.execModeSet (h : Keeps s t) {p : Packet} : Answers s (execModeSet p t) :=
  .next (h.command fun k => k.runModeSet)

/-! ### Operations of Machine/Safe -/

theorem Keeps.setSafeIn (h : Keeps s t) {i : Nat} {v : SafeIn} : Keeps s (t.setSafeIn i v) := h.fields

theorem Keeps.setSafeSub (h : Keeps s t) {r : Nat} {v : SafeSub} : Keeps s (t.setSafeSub r v) := h.fields

theorem Keeps.setDiag (h : Keeps s t) {d : SafeDiag} : Keeps s (t.setDiag d) := h.fields

theorem Keeps.setRst (h : Keeps s t) {r : LocalReset} : Keeps s (t.setRst r) := h.fields

theorem Keeps.showLattice (h : Keeps s t) : Keeps s t.showLattice := h.setBit.busUpdate

theorem Keeps.showProc (h : Keeps s t) : Keeps s t.showProc := h.setBit.busUpdate

theorem Keeps.showMirror (h : Keeps s t) : Keeps s t.showMirror := h.fields

theorem Keeps.dropArm (h : Keeps s t) : Keeps s t.dropArm := h.fields.put.put

theorem Keeps.outputsOff (h : Keeps s t) : Keeps s t.outputsOff := h.put

theorem Keeps.latchLockout (h : Keeps s t) {code index : Nat} : Keeps s (t.latchLockout code index) :=
  .ite (have h1 := h.fields.wr.setBit.setBit.setBit.wr.raise; (Keeps.ite h1.dropArm
      h1).outputsOff.showLattice.showProc) (.ite h (Keeps.ite h.fields.dropArm h.fields).setBit.raise)

theorem Keeps.latticeLatches (h : Keeps s t) {code index : Nat} : Keeps s (t.latticeLatches code index) :=
  h.latticeLatch.busUpdate

theorem Keeps.latchNow (h : Keeps s t) {code index : Nat} : Keeps s (t.latchNow code index) := h.latchLockout.fields

theorem Keeps.recordLattice (h : Keeps s t) : Keeps s t.recordLattice := h.fields.foldl fun _ k => k.latchNow

theorem Keeps.clearCauses (h : Keeps s t) : Keeps s t.clearCauses := h.setRst.fields.wr.put.put.put.dropArm

theorem Keeps.releaseLockout (h : Keeps s t) {persist : List Nat} : Keeps s (t.releaseLockout persist) :=
  have h1 := h.clearCauses.raise.gateRelease
  .ite h1.latchLockout h1.showLattice.showProc.put

theorem Keeps.latticeTested (h : Keeps s t) {ok : Bool} : Keeps s (t.latticeTested ok) := h.setDiag.setBit

theorem Keeps.tryRelease (h : Keeps s t) {testOk : Bool} {persist : List Nat} :
    Keeps s (t.tryRelease testOk persist).1 := by
  unfold State.tryRelease
  dsimp only
  split
  · dsimp only
    exact Keeps.releaseLockout (.ite h.latticeTested h)
  · dsimp only
    exact Keeps.raise (.ite h.latticeTested h)

theorem Keeps.faultOutput (h : Keeps s t) {n : Nat} : Keeps s (t.faultOutput n) := h.setBit.setBit.raise.latchLockout

theorem Keeps.setRxState (h : Keeps s t) {r st : Nat} : Keeps s (t.setRxState r st) := h.put

theorem Keeps.toSafeValue (h : Keeps s t) {r : Nat} : Keeps s (t.toSafeValue r) := h.setSafeSub.setRxState

theorem Keeps.loseSub (h : Keeps s t) {r : Nat} : Keeps s (t.loseSub r) := h.toSafeValue.countUp.raise

theorem Keeps.judgeCycle (h : Keeps s t) {r : Nat} {cx cy : Option SafeCopy} : Keeps s (t.judgeCycle r cx cy) := by
  unfold State.judgeCycle
  dsimp only
  split
  · exact .ite (.ite h.setSafeSub h.setSafeSub.setRxState) h.toSafeValue.countUp.raise
  · exact h.loseSub
  · exact .ite h.loseSub (.ite h.setSafeSub (.ite h.setSafeSub.raise h.setSafeSub.setRxState.raise))
  · exact .ite h.loseSub (.ite h.setSafeSub (.ite h.setSafeSub.raise h.setSafeSub.setRxState.raise))

theorem Keeps.safeCycleEnd (h : Keeps s t) : Keeps s t.safeCycleEnd := h.foldl fun _ k => .ite k.setSafeSub k

theorem Keeps.samplePair (h : Keeps s t) {raw : Word} {i : Nat} : Keeps s (t.samplePair raw i) :=
  .ite h h.setBit.setSafeIn

theorem Keeps.runFunctions (h : Keeps s t) : Keeps s t.runFunctions :=
  (h.fields.wr.foldl fun _ k => .ite k.latchNow k).showProc

/-! ### Operations of Machine/Shut -/

theorem Keeps.showFilm (h : Keeps s t) : Keeps s t.showFilm := (h.foldl fun _ k => k.put).put

theorem Keeps.writerStore (h : Keeps s t) {a : Nat} {bs : List Byte} : Keeps s (t.writerStore a bs).1 := by
  unfold State.writerStore
  dsimp only
  split
  · exact .ite h.countUp.fields h.countUp.fields.raise
  · exact h.fields.wrBytes

theorem Keeps.storeFilm (h : Keeps s t) {w : FilmWord} : Keeps s (t.storeFilm w) :=
  .ite h.writerStore h.writerStore.setShutRun

theorem Keeps.writeFilm (h : Keeps s t) {p : FilmWord → Bool} : Keeps s (t.writeFilm p) :=
  h.fields.foldl fun _ k => k.storeFilm

theorem Keeps.setShutState (h : Keeps s t) {q st : Nat} : Keeps s (t.setShutState q st) := h.put.setBit.setBit.setBit

theorem Keeps.beginRecord (h : Keeps s t) {q : Nat} : Keeps s (t.beginRecord q) := h.setShutRun.setShutState

theorem Keeps.freeSegment (h : Keeps s t) {q : Nat} (e : t.freeSegment q = some u) : Keeps s u := by
  unfold State.freeSegment at e
  split at e
  · cases e
    exact h
  · split at e
    · cases e
      exact h.put.countUp.raise
    · cases e

theorem Keeps.armShutter (h : Keeps s t) {q : Nat} : Keeps s (t.armShutter q) := by
  unfold State.armShutter
  split
  next e => exact (h.freeSegment e).beginRecord
  next => exact h.setShutState.raise

theorem Keeps.obey {a : State × ShutCall} (h : Keeps s a.1) {q : Nat} {o : ShutOrder} :
    Keeps s (State.obey q a o).1 := by
  obtain ⟨t, c⟩ := a
  replace h : Keeps s t := h
  unfold State.obey
  cases o with
  | arm single =>
    dsimp only
    split
    · exact h.setBit.armShutter
    · exact h
  | trigger => exact h
  | stop =>
    dsimp only
    split
    · exact h.setShutRun.setShutState
    · exact h

theorem Keeps.obeyOrders (h : Keeps s t) {q : Nat} : Keeps s (t.obeyOrders q).1 := by
  have hl : ∀ (l : List ShutOrder) {a : State × ShutCall}, Keeps s a.1 → Keeps s (l.foldl (State.obey q) a).1 := by
    intro l
    induction l with
    | nil => exact fun k => k
    | cons o l ih => exact fun k => ih k.obey
  exact hl _ (Keeps.ite h.armShutter h).setShutRun

theorem Keeps.trackSample (h : Keeps s t) {q : Nat} {r : ChanResult} : Keeps s (t.trackSample q r).1 := h.setShutRun

theorem Keeps.writeSample (h : Keeps s t) {q : Nat} {ws : List Word} {invalid time : Nat} :
    Keeps s (t.writeSample q ws invalid time) :=
  h.fields.setShutRun

theorem Keeps.closeTest (h : Keeps s t) {q k : Nat} {stop : Bool} : Keeps s (t.closeTest q k stop) := by
  unfold State.closeTest
  dsimp only
  split
  · exact h.setShutRun.countUp.raise
  · exact .ite h.setShutRun (.ite h.setShutRun h)

theorem Keeps.takeSample (h : Keeps s t) {q : Nat} {c : ShutCall} {hit : Option Nat} {pads dio sins : Word} {time :
    Nat} :
    Keeps s (t.takeSample q c hit pads dio sins time) := by
  unfold State.takeSample
  dsimp only
  refine .ite ?_ ?_
  · split
    · exact h.writeSample
    · exact h.writeSample.setShutRun.setShutState.closeTest
  · split
    · exact h.writeSample
    · exact h.writeSample.setShutRun.closeTest

theorem Keeps.shutterSample (h : Keeps s t) {q : Nat} {pads dio sins : Word} {time : Nat} :
    Keeps s (t.shutterSample q pads dio sins time) := by
  unfold State.shutterSample
  dsimp only
  refine .ite (Keeps.takeSample (Keeps.trackSample ?_)) (Keeps.trackSample ?_)
  · split
    · exact h.setShutRun
    · exact h.setShutRun.obeyOrders
  · split
    · exact h.setShutRun
    · exact h.setShutRun.obeyOrders

theorem Keeps.execShutterSample (h : Keeps s t) {q : Nat} {pads dio sins : Word} {dt : Nat} :
    Answers s (execShutterSample q pads dio sins dt t) :=
  .next (.ite h.shutterSample h)

theorem Keeps.patternAt (h : Keeps s t) {q back frac : Nat} : Keeps s (t.patternAt q back frac) :=
  .ite h.setShutRun h.setShutRun.setShutState

theorem Keeps.execPatternTrigger (h : Keeps s t) {q back frac held : Nat} {pads dio sins : Word} :
    Answers s (execPatternTrigger q back frac held pads dio sins t) :=
  .next (.ite h.patternAt h)

theorem Keeps.afterRecord (h : Keeps s t) {q : Nat} : Keeps s (t.afterRecord q) :=
  .ite h.setShutState (.ite h.setShutRun h.setShutState.raise)

theorem Keeps.closeRecord (h : Keeps s t) {q : Nat} {e : ShutEnd} {i : ShutTrig} : Keeps s (t.closeRecord q e i) :=
  have h1 := (Keeps.ite h.writeFilm.setShutRun h.writeFilm).writerStore.wr.put
  (Keeps.ite h1.put.setShutRun.raise.offer h1.put.setShutRun.raise).afterRecord

theorem Keeps.execRecordClosed (h : Keeps s t) {q : Nat} : Answers s (execRecordClosed q t) := by
  unfold Machine.execRecordClosed
  refine .next ?_
  split
  · exact h.closeRecord
  · exact h

theorem Keeps.execFilmWrite (h : Keeps s t) {b : Nat} : Answers s (execFilmWrite b t) := by
  unfold Machine.execFilmWrite
  refine .next ?_
  split
  · exact .ite h.writeFilm.countBeats h
  · exact h

theorem Keeps.order (h : Keeps s t) {q : Nat} {o : ShutOrder} : Keeps s (t.order q o) := h.setShutRun

theorem Keeps.releaseRecords (h : Keeps s t) {q seq : Nat} : Keeps s (t.releaseRecords q seq) :=
  .ite h.put.setShutRun h.put

theorem Keeps.runOrder (h : Keeps s t) {op : Nat} {p : Packet} {o : ShutOrder} : Keeps s (t.runOrder op p o) := by
  unfold State.runOrder
  dsimp only
  split
  · exact h.finish
  · split
    · exact h.finish
    · exact .ite h.order.finish h.finish

theorem Keeps.execShutterArm (h : Keeps s t) {p : Packet} : Answers s (execShutterArm p t) :=
  .next (h.command fun k => k.runOrder)

theorem Keeps.execShutterStop (h : Keeps s t) {p : Packet} : Answers s (execShutterStop p t) :=
  .next (h.command fun k => k.runOrder)

theorem Keeps.execShutterTrigger (h : Keeps s t) {p : Packet} : Answers s (execShutterTrigger p t) :=
  .next (h.command fun k => k.runOrder)

theorem Keeps.runShutRelease (h : Keeps s t) {p : Packet} : Keeps s (t.runShutRelease p) := by
  unfold State.runShutRelease
  dsimp only
  split
  · exact h.finish
  · split
    · exact h.finish
    · exact .ite h.finish h.releaseRecords.finish

theorem Keeps.execShutterRelease (h : Keeps s t) {p : Packet} : Answers s (execShutterRelease p t) :=
  .next (h.command fun k => k.runShutRelease)

theorem Keeps.runShutStatus (h : Keeps s t) {p : Packet} : Keeps s (t.runShutStatus p) := .ite h.finish h.finish

theorem Keeps.execShutterStatus (h : Keeps s t) {p : Packet} : Answers s (execShutterStatus p t) :=
  .next (h.command fun k => k.runShutStatus)

theorem Keeps.applyShut (h : Keeps s t) {a : Nat} {v : Word} : Keeps s (t.applyShut a v) :=
  .ite (have h1 := Keeps.ite h.wr.put h.wr; (Keeps.ite h1.setShutRun h1).showFilm) h.wr

/-! ### Operations of Machine/Cycle -/

theorem Keeps.setPrgState (h : Keeps s t) {n : Nat} : Keeps s (t.setPrgState n) := h.put

theorem Keeps.setTask (h : Keeps s t) {i : Nat} {v : TaskSt} : Keeps s (t.setTask i v) := h.fields

theorem Keeps.putProgWord (h : Keeps s t) {w : Nat} {v : Word} : Keeps s (t.putProgWord w v) := h.wrBytes

theorem Keeps.forceWords (h : Keeps s t) {p : Nat → Bool} : Keeps s (t.forceWords p) :=
  h.foldl fun _ k => .ite k.putProgWord k

theorem Keeps.fillPub (h : Keeps s t) {i : Nat} {bytes : List Byte} : Keeps s (t.fillPub i bytes) := h.fields

theorem Keeps.outputPhase (h : Keeps s t) {i : Nat} : Keeps s (t.outputPhase i) :=
  (((h.foldl fun _ k => .ite k.setBit k).foldl fun _ k => .ite k.fillPub k).foldl fun _ k => .ite k.wrBoth k).foldl
      fun _ k => .ite (.ite k.setBit k) (.ite k.wrBoth k)

theorem Keeps.safePads (h : Keeps s t) : Keeps s t.safePads := by
  refine h.foldl fun p k => .ite ?_ k
  split
  · exact k.setBit
  · exact k.setBit
  · exact k

theorem Keeps.safeValues (h : Keeps s t) : Keeps s t.safeValues := h.safePads.foldl fun _ k => .ite k k.wrBoth

theorem Keeps.leaveProgram (h : Keeps s t) {st : Nat} : Keeps s (t.leaveProgram st) :=
  have h1 := h.fields.put.put.setBit.setPrgState.safeValues
  .ite h1.setTarget h1

theorem Keeps.haltProgram (h : Keeps s t) : Keeps s t.haltProgram := by
  unfold State.haltProgram
  dsimp only
  split
  · exact h.leaveProgram.finishLate
  · exact h.leaveProgram

theorem Keeps.request334 (h : Keeps s t) {x1 : BlockReq} : Keeps s (t.request334 x1).2 := by
  unfold State.request334
  dsimp only
  split
  · split
    · exact h.fields
    · exact h.fields.acceptTarget
  · split
    · exact h
    · exact h.setProfile
  · split
    · exact h
    · exact h.clearTrip
  · split
    · exact h
    · split
      · split
        · exact h.order
        · exact h
      · split
        · exact h.order
        · exact h
      · split
        · exact h.order
        · exact h
      · split
        · exact h
        · exact h.releaseRecords
      · exact h

theorem Keeps.blockError (h : Keeps s t) {i : Nat} : Keeps s (t.blockError i) := h.raise.queueCause

theorem Keeps.keepOutputs (h : Keeps s t) {c : Call} {e : BlockEffect} : Keeps s (t.keepOutputs c e) := h.setTask

theorem Keeps.releaseWords (h : Keeps s t) {l : List (Nat × Word)} : Keeps s (t.releaseWords l) :=
  (h.foldl fun _ k => k.putProgWord).forceWords

theorem Keeps.releaseCall (h : Keeps s t) {q : CallRun} {c : Call} {e : BlockEffect} :
    Keeps s (t.releaseCall q c e) := by
  unfold State.releaseCall
  dsimp only
  refine .ite h.releaseWords.blockError ?_
  split
  · exact h.keepOutputs.releaseWords
  · exact .ite h.keepOutputs.request334.releaseWords h.keepOutputs.request334.releaseWords.blockError

theorem Keeps.endCycle (h : Keeps s t) {i elapsed : Nat} : Keeps s (t.endCycle i elapsed) :=
  .ite h.outputPhase.setTask.put.put.setBit h.outputPhase.setTask.put.put

theorem Keeps.releaseLoop (h : Keeps s t) {i elapsed n : Nat} : Keeps s (t.releaseLoop i elapsed n) := by
  induction n generalizing t with
  | zero => exact h
  | succ n ih =>
    unfold State.releaseLoop
    split
    · exact .ite h.endCycle h
    · split
      · split
        · exact ih h.fields.setTask.releaseCall
        · exact h
      · exact h

theorem Keeps.release (h : Keeps s t) {i elapsed : Nat} : Keeps s (t.release i elapsed) := h.releaseLoop

theorem Keeps.endCall (h : Keeps s t) {i : Nat} {e : BlockEffect} : Keeps s (t.endCall i e) := by
  unfold State.endCall
  dsimp only
  split
  · exact h.setBit.fields
  · exact h

theorem Keeps.discardCall (h : Keeps s t) {i elapsed : Nat} : Keeps s (t.discardCall i elapsed) :=
  h.endCall.raise.queueCause.release

theorem Keeps.discardCore (h : Keeps s t) {c : Nat} : Keeps s (t.discardCore c) := by
  unfold State.discardCore
  split
  · exact h.discardCall
  · exact h

theorem Keeps.loseCore (h : Keeps s t) {c : Nat} : Keeps s (t.loseCore c) :=
  .ite h (have h1 := h.setBit.put.discardCore.raise.queueCause; .ite h1.haltProgram h1)

theorem Keeps.translationFault (h : Keeps s t) {ctx a reason : Nat} {write : Bool} :
    Keeps s (t.translationFault ctx a reason write) := by
  unfold State.translationFault
  exact h.wr.wr.raise

theorem Keeps.loseStation (h : Keeps s t) {n : Nat} : Keeps s (t.loseStation n) := .ite h h.fields.raise.queueCause

theorem Keeps.returnStation (h : Keeps s t) {n : Nat} : Keeps s (t.returnStation n) :=
  .ite h.fields.raise.queueCause h

theorem Keeps.applyCycle (h : Keeps s t) {a : Nat} {v : Word} : Keeps s (t.applyCycle a v) := .ite h.wr.safePads h.wr

/-! ### Operations of Machine/Measure -/

theorem Keeps.recordMeasures (h : Keeps s t) {q : Nat} {vs : List (Option Int)} : Keeps s (t.recordMeasures q vs).2 := by
  have hl : ∀ (l : List Nat) {a : List Word × State}, Keeps s a.2 →
      Keeps s (l.foldl (fun a _ => (a.1 ++ [a.2.freshWord.1], a.2.freshWord.2)) a).2 := by
    intro l
    induction l with
    | nil => exact fun k => k
    | cons _ l ih => exact fun k => ih k.freshWord
  unfold State.recordMeasures
  dsimp only
  split
  · exact h
  · exact hl _ h

theorem Keeps.measureRun (h : Keeps s t) {i : Nat} {m : Measure} {places : List Nat} :
    Keeps s (t.measureRun i m places).2 := by
  unfold State.measureRun
  dsimp only
  split
  · exact h
  · split
    · exact h
    · split
      · exact h.fields
      · split
        · exact h.fields
        · exact h.recordMeasures.fields

theorem Keeps.ruledOuts (h : Keeps s t) {q : CallRun} {c : Call} {e : BlockEffect} : Keeps s (t.ruledOuts q c e).2 := by
  unfold State.ruledOuts
  dsimp only
  split
  · exact h
  · split
    · split
      · split
        next w => exact h.measureRun.snd w
        next w => exact h.measureRun.snd w
      · exact h
    · exact h

/-! ### Operations of Machine/CycleRows -/

theorem Keeps.latchInputs (h : Keeps s t) {i : Nat} {dio : Word} : Keeps s (t.latchInputs i dio) := by
  unfold State.latchInputs
  exact h.wr.setTask.forceWords

theorem Keeps.overrun (h : Keeps s t) {i : Nat} : Keeps s (t.overrun i) := h.setTask.countUp.raise.queueCause

theorem Keeps.startCycle (h : Keeps s t) {i : Nat} {dio : Word} : Keeps s (t.startCycle i dio) :=
  h.setTask.latchInputs.release

theorem Keeps.execTaskStartPoint (h : Keeps s t) {i : Nat} {dio : Word} : Answers s (execTaskStartPoint i dio t) :=
  .next (.ite (.ite h.setTask.overrun (.ite h.setTask.startCycle h.setTask)) h)

theorem Keeps.programWatchdog (h : Keeps s t) {i : Nat} : Keeps s (t.programWatchdog i) := .ite h.raise.haltProgram h

theorem Keeps.execProgramWatchdog (h : Keeps s t) {i : Nat} : Answers s (execProgramWatchdog i t) :=
  .next h.programWatchdog

theorem Keeps.grant (h : Keeps s t) {i c : Nat} : Keeps s (t.grant i c) := by
  unfold State.grant
  dsimp only
  split
  · exact h.fields.setBit.countSource.translationFault.discardCall
  · exact .ite h.fields.setBit.countSource.discardCall h.fields.setBit.countSource

theorem Keeps.execDispatchGrant (h : Keeps s t) {c : Nat} : Answers s (execDispatchGrant c t) := by
  unfold Machine.execDispatchGrant
  refine .next (.ite ?_ h)
  split
  · exact h.grant
  · exact h

theorem Keeps.completeCall (h : Keeps s t) {r : CallRun} {c : Call} {e : BlockEffect} {elapsed cycles corrected :
    Nat} :
    Keeps s (t.completeCall r c e elapsed cycles corrected) :=
  have h1 := h.ruledOuts.countSource.countUp
  .ite h1.discardCall h1.endCall.release

theorem Keeps.execBlockCallComplete (h : Keeps s t) {i : Nat} {e : BlockEffect} {rest cycles corrected : Nat} :
    Answers s (execBlockCallComplete i e rest cycles corrected t) := by
  unfold Machine.execBlockCallComplete
  refine .next ?_
  split
  · exact h.completeCall
  · exact h

theorem Keeps.startError (h : Keeps s t) {c : Nat × Nat} {cs : List (Nat × Nat)} {dio : Word} :
    Keeps s (t.startError c cs dio) :=
  h.fields.put.setBit.setTask.latchInputs.release

theorem Keeps.execErrorTaskRun (h : Keeps s t) {dio : Word} : Answers s (execErrorTaskRun dio t) := by
  unfold Machine.execErrorTaskRun
  refine .next ?_
  split
  · exact .ite h.startError h
  · exact h

theorem Keeps.checkImage (h : Keeps s t) {p : Packet} : Keeps s (t.checkImage p) := by
  unfold State.checkImage
  dsimp only
  split
  · exact h.fields.setPrgState.finish
  · exact h.fields.setPrgState.finish

theorem Keeps.runLoad (h : Keeps s t) {p : Packet} : Keeps s (t.runLoad p) := by
  unfold State.runLoad
  dsimp only
  split
  · exact h.finish
  · exact .ite h.finish (.ite h.finish (have h1 := h.fields.setPrgState; .ite h1.checkImage h1.finish))

theorem Keeps.execPrgLoad (h : Keeps s t) {p : Packet} : Answers s (execPrgLoad p t) :=
  .next (h.command fun k => k.runLoad)

theorem Keeps.startProgram (h : Keeps s t) {g : Program} {cold : Bool} : Keeps s (t.startProgram g cold) := by
  unfold State.startProgram
  extract_lets s1 s2 maps _ _ s3 s4 s5 s6 s7 lo hi _ s8 s9
  have h2 : Keeps s s2 := Keeps.foldl h.fields fun _ k => k.addClaim
  have h3 : Keeps s s3 := h2.fields
  have h4 : Keeps s s4 := h3.wr.wr.wr
  have h7 : Keeps s s7 := (h4.wr.foldl fun _ k => k.wr.put).setPrgState
  clear_value s7
  have h8 : Keeps s s8 := h7.filterMem.fields
  have h9 : Keeps s s9 := h8.wr.setBit
  exact .ite (h9.foldl fun _ k => k.putProgWord) h7

theorem Keeps.runStart (h : Keeps s t) {p : Packet} : Keeps s (t.runStart p) := by
  unfold State.runStart
  dsimp only
  split
  · exact h.finish
  · refine .ite h.finish ?_
    split
    · exact h.finish
    · refine .ite h.finish ?_
      split
      · exact h.finish
      · exact .ite h.finish h.startProgram.finish

theorem Keeps.execPrgStart (h : Keeps s t) {p : Packet} : Answers s (execPrgStart p t) :=
  .next (h.command fun k => k.runStart)

theorem Keeps.runPrgStop (h : Keeps s t) {p : Packet} : Keeps s (t.runPrgStop p) := by
  unfold State.runPrgStop
  dsimp only
  split
  · exact h.finish
  · exact .ite h.finish h.fields.setPrgState.pend

theorem Keeps.execPrgStop (h : Keeps s t) {p : Packet} : Answers s (execPrgStop p t) :=
  .next (h.command fun k => k.runPrgStop)

theorem Keeps.execProgramStopped (h : Keeps s t) : Answers s (execProgramStopped t) := by
  unfold Machine.execProgramStopped
  refine .next (.ite ?_ h)
  split
  · exact h.leaveProgram.finishLate
  · exact h.leaveProgram

theorem Keeps.showForces (h : Keeps s t) {p : Packet} {what : Nat} : Keeps s (t.showForces p what) :=
  h.put.setBit.setBit.raise.audit

theorem Keeps.runForceSet (h : Keeps s t) {p : Packet} : Keeps s (t.runForceSet p) := by
  unfold State.runForceSet
  dsimp only
  split
  · exact h.finish
  · split
    · exact h.finish
    · exact .ite h.finish h.fields.showForces.finish

theorem Keeps.execForceSet (h : Keeps s t) {p : Packet} : Answers s (execForceSet p t) :=
  .next (h.command fun k => k.runForceSet)

theorem Keeps.runForceClear (h : Keeps s t) {p : Packet} : Keeps s (t.runForceClear p) := by
  unfold State.runForceClear
  dsimp only
  split
  · exact h.finish
  · exact h.fields.showForces.finish

theorem Keeps.execForceClear (h : Keeps s t) {p : Packet} : Answers s (execForceClear p t) :=
  .next (h.command fun k => k.runForceClear)

theorem Keeps.execKeyChange (h : Keeps s t) {run stop : Bool} : Answers s (execKeyChange run stop t) :=
  .next (have h1 := h.setBit.setBit; .ite h1 (have h2 := (Keeps.ite h1.fields h1).put.showSource.raise; .ite
      h2.setTarget h2))

theorem Keeps.hostLinkLost (h : Keeps s t) : Keeps s t.hostLinkLost := .ite h.setBit.showSource.raise.queueCause h

theorem Keeps.execHostLinkLost (h : Keeps s t) : Answers s (execHostLinkLost t) := .next h.hostLinkLost

/-! ### Operations of Machine/Session -/

theorem Keeps.execInvalidPacket (h : Keeps s t) {step opcode : Nat} {p : Packet} :
    Answers s (execInvalidPacket step opcode p t) := by
  unfold Machine.execInvalidPacket
  refine .next (.ite h (.ite h.countUp (.ite h.turnAway (.ite h.refuse (.ite h.refuse ?_)))))
  split
  · exact h.refused
  · exact h

theorem Keeps.execDuplicatePacket (h : Keeps s t) {opcode : Nat} {p : Packet} :
    Answers s (execDuplicatePacket opcode p t) := by
  unfold Machine.execDuplicatePacket
  refine .next (.ite h (.ite h.turnAway ?_))
  split
  · exact h.emit
  · exact h

theorem Keeps.execBadOpcode (h : Keeps s t) {opcode : Nat} {p : Packet} : Answers s (execBadOpcode opcode p t) :=
  .next (.ite (h.command fun k => k) h)

theorem Keeps.openSession (h : Keeps s t) {n : Nat} {p : Packet} : Keeps s (t.openSession n p) :=
  h.setSession.wr.setBit.put.raise.audit

theorem Keeps.runOpen (h : Keeps s t) {p : Packet} : Keeps s (t.runOpen p) := by
  unfold State.runOpen
  refine .ite h.refuse ?_
  split
  · exact h.refuse
  · split
    · exact h.refuse
    · exact h.openSession.refuse

theorem Keeps.execSessionOpen (h : Keeps s t) {p : Packet} : Answers s (execSessionOpen p t) :=
  .next (.ite (.ite h (.ite h.turnAway (.ite h.refuse h.runOpen))) (h.command fun k => k.finish))

theorem Keeps.failAuth (h : Keeps s t) {p : Packet} {st : Status} : Keeps s (t.failAuth p st) := h.countUp.finish

theorem Keeps.runAuth1 (h : Keeps s t) {p : Packet} : Keeps s (t.runAuth1 p) :=
  .ite h.failAuth (.ite h.failAuth (.ite h.failAuth h.freshKey.freshKey.fields.setSession.finish))

theorem Keeps.execSessionAuthPhase1 (h : Keeps s t) {p : Packet} : Answers s (execSessionAuthPhase1 p t) :=
  .next (.ite h (h.command fun k => k.runAuth1))

theorem Keeps.runAuth2 (h : Keeps s t) {p : Packet} {sigOk : Bool} : Keeps s (t.runAuth2 p sigOk) := by
  unfold State.runAuth2
  dsimp only
  refine .ite h.failAuth ?_
  split
  · exact h.failAuth
  · exact .ite h.setSession.failAuth (.ite h.setSession.failAuth h.setSession.setSession.put.put.audit.finish)

theorem Keeps.execSessionAuthPhase2 (h : Keeps s t) {p : Packet} {sigOk : Bool} :
    Answers s (execSessionAuthPhase2 p sigOk t) :=
  .next (.ite h (h.command fun k => k.runAuth2))

theorem Keeps.runClose (h : Keeps s t) {p : Packet} : Keeps s (t.runClose p) := h.finish.endSession

theorem Keeps.execSessionClose (h : Keeps s t) {p : Packet} : Answers s (execSessionClose p t) :=
  .next (h.command fun k => k.runClose)

theorem Keeps.renewLeases (h : Keeps s t) {n : Nat} : Keeps s (t.renewLeases n) := h.foldl fun _ k => .ite k.put k

theorem Keeps.runKeepalive (h : Keeps s t) {p : Packet} : Keeps s (t.runKeepalive p) := h.renewLeases.finish

theorem Keeps.execSessionKeepalive (h : Keeps s t) {p : Packet} : Answers s (execSessionKeepalive p t) :=
  .next (h.command fun k => k.runKeepalive)

theorem Keeps.runInfo (h : Keeps s t) {p : Packet} : Keeps s (t.runInfo p) := h.finish

theorem Keeps.execSessionInfo (h : Keeps s t) {p : Packet} : Answers s (execSessionInfo p t) :=
  .next (h.command fun k => k.runInfo)

theorem Keeps.execSessionIdleClose (h : Keeps s t) {n : Nat} : Answers s (execSessionIdleClose n t) :=
  .next (.ite h.endSession h)

theorem Keeps.idlePassed (h : Keeps s t) : Keeps s t.idlePassed := h.foldl fun _ k => .ite k.endSession k

theorem Keeps.timeOut (h : Keeps s t) {f : InFlight} : Keeps s (t.timeOut f) := h.popUnit.finish.raise

theorem Keeps.timeoutPassed (h : Keeps s t) : Keeps s t.timeoutPassed := h.foldl fun _ k => k.timeOut

theorem Keeps.execCommandTimeout (h : Keeps s t) {session seq : Nat} :
    Answers s (execCommandTimeout session seq t) := by
  unfold Machine.execCommandTimeout
  refine .next ?_
  split
  · exact h.timeOut
  · exact h

/-! ### Operations of Machine/Redundancy -/

theorem Keeps.setRed (h : Keeps s t) {l : Nat} {r : RedSt} : Keeps s (t.setRed l r) := h.fields

theorem Keeps.outOfStep (h : Keeps s t) {l : Nat} : Keeps s (t.outOfStep l) :=
  h.setStepCount.setStepCount.setBit.setRed

theorem Keeps.selfFault (h : Keeps s t) {f : LaneFault} : Keeps s (t.selfFault f) := .ite h.wr.wr.setRed.raiseRed h

theorem Keeps.dropStaged (h : Keeps s t) {l : Nat} : Keeps s (t.dropStaged l) := h.foldl fun _ k => k.setBit

theorem Keeps.failLane (h : Keeps s t) {l : Nat} : Keeps s (t.failLane l) :=
  h.setBit.setBit.setBit.setBit.setBit.setBit.countUp.dropStaged.setRed

theorem Keeps.failStandby (h : Keeps s t) {l : Nat} : Keeps s (t.failStandby l) := .ite h.failLane h

theorem Keeps.laneCrcs (h : Keeps s t) {now : Nat} {agree : Bool} : Keeps s (t.laneCrcs now agree).2 := by
  unfold State.laneCrcs
  dsimp only
  split
  · exact h
  · exact h.freshWord

theorem Keeps.receiveCrc (h : Keeps s t) {l : Nat} {got : Bool} {peer : Word} : Keeps s (t.receiveCrc l got peer) :=
  .ite h (.ite (.ite h.setBit.wr h.setBit) h.setBit.raiseRed)

theorem Keeps.compareCrc (h : Keeps s t) {now : Nat} {agree linkA linkB : Bool} :
    Keeps s (t.compareCrc now agree linkA linkB) :=
  have h1 := Keeps.ite h.laneCrcs.wr h.laneCrcs
  have h2 := (Keeps.ite h1.wr h1).receiveCrc.receiveCrc
  .ite h2 (.ite (.ite h2 h2.outOfStep) (.ite h2 (.ite h2
    (.ite h2.setStepCount.setStepCount h2.raiseRed.raiseRed.countUp.countUp.outOfStep))))

theorem Keeps.copyCoefs (h : Keeps s t) : Keeps s t.copyCoefs := h.foldl fun _ k => .ite k.setRed k

theorem Keeps.laneChange (h : Keeps s t) {a now : Nat} {forced : Bool} : Keeps s (t.laneChange a now forced) :=
  have h1 := h.reach.pwmCycle
  .ite (Keeps.ite h1.failLane h1.setBit.setBit).fields (have h2 := h1.raiseRed.fields.rejudge
  have h3 := (Keeps.ite h2.setBit.setBit h2).openDecision.safelight
  have h4 := (Keeps.ite h3.setStage.failLane h3.setStage.setBit.setBit).failStandby
  (Keeps.ite h4.fields h4).busUpdate)

theorem Keeps.execActiveLaneFailed (h : Keeps s t) {now : Nat} : Answers s (execActiveLaneFailed now t) :=
  .next (.ite h (.ite h.laneChange (.ite h.laneChange h)))

theorem Keeps.commandedChange (h : Keeps s t) {now : Nat} : Keeps s (t.commandedChange now) :=
  .ite h.fields.laneChange (.ite h.fields.laneChange h.fields)

theorem Keeps.execUpdatePoint (h : Keeps s t) {i now : Nat} : Answers s (execUpdatePoint i now t) :=
  .next (.ite (have h1 := Keeps.ite h.reach.changeTb h.reach; .ite (Keeps.ite h1.commandedChange h1).updatePoint
      h1.pwmCycle) h)

theorem Keeps.execLaneLinkWatchdog (h : Keeps s t) {l : Nat} : Answers s (execLaneLinkWatchdog l t) :=
  .next (.ite h.selfFault h)

theorem Keeps.execLaneRecoveryStart (h : Keeps s t) {l : Nat} : Answers s (execLaneRecoveryStart l t) :=
  .next (.ite (.ite h.finishHold.setRed h.finishHold.setRed.setBit.setBit) h)

theorem Keeps.execLaneRecovered (h : Keeps s t) {l : Nat} {pass : Bool} : Answers s (execLaneRecovered l pass t) :=
  .next (.ite (.ite h.setBit.setBit.outOfStep.raiseRed h.setBit.setBit) h)

theorem Keeps.execResyncCopy (h : Keeps s t) {l : Nat} : Answers s (execResyncCopy l t) :=
  .next (.ite (.ite (have h1 := (h.finishHold.foldl fun _ k => k.wr).setBit.setStepCount; .ite h1.setBit.setRed
      h1.setRed) (.ite (h.finishHold.foldl fun _ k => k.wr).setBit.setStepCount.setRed h.finishHold)) h.finishHold)

theorem Keeps.execLaneResyncDone (h : Keeps s t) {l : Nat} : Answers s (execLaneResyncDone l t) :=
  .next (.ite h.setRed.raiseRed h)

/-! ### Operations of Machine/Sample -/

theorem Keeps.showLane (h : Keeps s t) : Keeps s t.showLane :=
  ((h.lsetBit.lsetBit.foldl fun _ k => k.lsetBit.lsetBit).eachLane fun k _ => k.setBit).lwr

theorem Keeps.applySpill (h : Keeps s t) {l a : Nat} {v : Word} : Keeps s (t.applySpill l a v) :=
  have h1 := Keeps.ite h.wr.fields (.ite h.wr.fields h.wr)
  .ite h1.put h1

theorem Keeps.applyLane (h : Keeps s t) {a : Nat} {v : Word} : Keeps s (t.applyLane a v) :=
  .ite h.applySpill (.ite h.applySpill h.wr.wr)

theorem Keeps.loadEnabled (h : Keeps s t) {old : State} : Keeps s (t.loadEnabled old) :=
  h.foldl fun _ k => .ite k.loadPreset k

theorem Keeps.spill (h : Keeps s t) {l : Nat} : Keeps s (t.spill l) :=
  .ite (.ite h.fields (.ite h.countUp.fields h.countUp.fields.raiseLane)) h

theorem Keeps.countUnload (h : Keeps s t) : Keeps s t.countUnload := h.setStop

theorem Keeps.endSample (h : Keeps s t) {now : Nat} {diag : List LaneFault} {agree linkA linkB : Bool} :
    Keeps s (t.endSample now diag agree linkA linkB) :=
  (h.foldl fun _ k => k.selfFault).compareCrc.copyCoefs.failStandby.failStandby

theorem Keeps.startSample (h : Keeps s t) {n : Nat} : Keeps s (t.startSample n) :=
  (h.openDecision.takeItems fun k _ _ =>
      k.applyLane).loadEnabled.showLane.lwr.countSource.countSource.retarget.profileStep

theorem Keeps.computeSample (h : Keeps s t) {n : Nat} {vmo : Bool} : Keeps s (t.computeSample n vmo) :=
  have h1 := Keeps.ite h.fields h
  have h2 := Keeps.ite h1.runSample.fields h1.runSample
  (Keeps.ite h2.countUnload h2).spill.spill.endOwned

theorem Keeps.execSampleSchedule (h : Keeps s t) {now corrected : Nat} {diag : List LaneFault} {agree linkA linkB :
    Bool} :
    Answers s (execSampleSchedule now corrected diag agree linkA linkB t) :=
  .next (.ite h.reach.countUp.startSample.computeSample.advance.decideMode.endSample h)

theorem Keeps.execInternal1usBoundary (h : Keeps s t) : Answers s (execInternal1usBoundary t) :=
  .next (have h1 := h.finishHold.foldl fun _ k => .ite k.applyWords.showCoefCrc k; .ite
      h1.openDecision.showLane.advance.decideMode.failStandby.failStandby h1)

/-! ### Operations of Machine/Mem -/

theorem Keeps.showMarked (h : Keeps s t) : Keeps s t.showMarked := h.setBit

theorem Keeps.setDmaCh (h : Keeps s t) {k : Nat} {v : DmaCh} : Keeps s (t.setDmaCh k v) := h.fields

theorem Keeps.setDmaState (h : Keeps s t) {k st : Nat} : Keeps s (t.setDmaState k st) := h.put

theorem Keeps.showDma (h : Keeps s t) {k : Nat} : Keeps s (t.showDma k) := h.put.put

theorem Keeps.report (h : Keeps s t) {k index : Nat} {st : Status} : Keeps s (t.report k index st) := by
  unfold State.report
  split
  · exact .ite h.notify h
  · exact h

theorem Keeps.loseWords (h : Keeps s t) {ctx a n : Nat} : Keeps s (t.loseWords ctx a n) := by
  induction n generalizing t a with
  | zero => exact h
  | succ n ih =>
    refine ih ?_
    split
    · exact .ite h h.freshWord.wrBytes
    · exact h

theorem Keeps.discardChain (h : Keeps s t) {k st : Nat} : Keeps s (t.discardChain k st) :=
  ((h.foldl fun _ k => k.loseWords).foldl fun _ k => k.countUp.report).fields.setDmaCh.showDma.setDmaState

theorem Keeps.faultChannel (h : Keeps s t) {k : Nat} : Keeps s (t.faultChannel k) := h.setBit.discardChain

theorem Keeps.discardContext (h : Keeps s t) {ctx : Nat} : Keeps s (t.discardContext ctx) :=
  .ite h.discardFlight (.ite h.discardCore h)

theorem Keeps.discardUsers (h : Keeps s t) {p : Nat} : Keeps s (t.discardUsers p) :=
  (h.foldl fun _ k => .ite k.discardChain k).foldl fun _ k => .ite k.discardCore k

theorem Keeps.retire (h : Keeps s t) {slot : Bool} : Keeps s (t.retire slot) := .ite h.fields (.ite h.put h.put.put)

theorem Keeps.land (h : Keeps s t) {r : Retry} : Keeps s (t.land r) := by
  unfold State.land
  dsimp only
  split
  · exact have h1 := Keeps.ite h.setBankBit h; have h2 := Keeps.ite h1.faultChannel h1.discardContext; .ite
      h2.discardUsers h2
  · exact h.loseCore
  · exact h
  · exact h.setDiag.latchLockout
  · exact h.retire
  · exact .ite h h.fields

theorem Keeps.execUncorrectableError (h : Keeps s t) {region addr ctx : Nat} {dma : Bool} {channel : Nat} :
    Answers s (execUncorrectableError region addr ctx dma channel t) :=
  .next (.ite h (have h1 := Keeps.ite h.fields.selfFault h.fields; .ite h1.setStaged h1))

theorem Keeps.execScrubAccess (h : Keeps s t) {corrected : Nat} {bad : Bool} :
    Answers s (execScrubAccess corrected bad t) :=
  .next (.ite h.countUp.fields.fields h.countUp.fields)

theorem Keeps.clearPages (h : Keeps s t) {w : Nat} {v : Word} : Keeps s (t.clearPages w v) := h.fields

theorem Keeps.execBadpageClearDone (h : Keeps s t) {p : Nat} : Answers s (execBadpageClearDone p t) :=
  .next (.ite h.filterMem.fields.setBankBit.showMarked h)

theorem Keeps.setAge (h : Keeps s t) {b q n : Nat} : Keeps s (t.setAge b q n) := h.fields

theorem Keeps.writeSpill (h : Keeps s t) {l beats : Nat} : Keeps s (t.writeSpill l beats) := by
  unfold State.writeSpill
  dsimp only
  split
  · exact h
  · exact have h1 := h.writerStore.fields; .ite h1 h1.fields.put

theorem Keeps.grantBank (h : Keeps s t) {b : Nat} {qs : List Nat} {win : Nat} {withdrawn : Bool} {beats wait : Nat} :
    Keeps s (t.grantBank b qs win withdrawn beats wait) :=
  have h1 := h.foldl fun _ k => .ite k.setAge k.setAge
  have h2 := Keeps.ite h1.countSource h1
  .ite h2.countSource (.ite h2.countBeats.writeSpill h2.countBeats)

theorem Keeps.execBankGrant (h : Keeps s t) {b : Nat} {qs : List Nat} {withdrawn : Bool} {beats wait : Nat} :
    Answers s (execBankGrant b qs withdrawn beats wait t) := by
  unfold Machine.execBankGrant
  refine .next ?_
  split
  · exact h
  · exact .ite h.grantBank h

theorem Keeps.execFaultRecordWrite (h : Keeps s t) : Answers s (execFaultRecordWrite t) := by
  unfold Machine.execFaultRecordWrite
  dsimp only
  refine .next ?_
  split
  · exact h
  · exact h.fields.writerStore.countWrap

theorem Keeps.readWord (h : Keeps s t) {ctx a : Nat} {x : Word} : Keeps s (t.readWord ctx a x).2 := by
  unfold State.readWord
  split
  · exact h
  · dsimp only
    exact h.clearRc
  · exact h
  · exact h

theorem Keeps.readWords (h : Keeps s t) {ctx a n : Nat} {host : List Byte} : Keeps s (t.readWords ctx a n host).2 := by
  induction n generalizing t a host with
  | zero => exact h
  | succ n ih => exact ih h.readWord

theorem Keeps.writeHost (h : Keeps s t) {ctx offset : Nat} {bs : List Byte} : Keeps s (t.writeHost ctx offset bs) :=
  h.fields

theorem Keeps.countEcc (h : Keeps s t) {ctx a n corrected : Nat} : Keeps s (t.countEcc ctx a n corrected) :=
  .ite h.countUp h

theorem Keeps.runMemRead (h : Keeps s t) {p : Packet} {host : List Byte} {corrected : Nat} :
    Keeps s (t.runMemRead p host corrected) := by
  unfold State.runMemRead
  dsimp only
  refine .ite h.finish ?_
  split
  · exact h.translationFault.discardFlight
  · exact h.finish
  · exact h.finish
  · exact h.countEcc.readWords.finish

theorem Keeps.execMemRead (h : Keeps s t) {p : Packet} {host : List Byte} {corrected : Nat} :
    Answers s (execMemRead p host corrected t) :=
  .next (h.command fun k => k.runMemRead)

theorem Keeps.runMap (h : Keeps s t) {p : Packet} : Keeps s (t.runMap p) :=
  .ite h.finish (.ite h.finish (.ite h.finish h.fields.finish))

theorem Keeps.execMemMap (h : Keeps s t) {p : Packet} : Answers s (execMemMap p t) :=
  .next (h.command fun k => k.runMap)

theorem Keeps.runUnmap (h : Keeps s t) {p : Packet} : Keeps s (t.runUnmap p) := .ite h.finish h.fields.finish

theorem Keeps.execMemUnmap (h : Keeps s t) {p : Packet} : Answers s (execMemUnmap p t) :=
  .next (h.command fun k => k.runUnmap)

theorem Keeps.runDmaStart (h : Keeps s t) {p : Packet} : Keeps s (t.runDmaStart p) := by
  unfold State.runDmaStart
  dsimp only
  split
  · exact h.finish
  · exact .ite h.finish (.ite h.finish (.ite h.finish h.setDmaCh.setDmaState.showDma.finish))

theorem Keeps.execDmaStart (h : Keeps s t) {p : Packet} : Answers s (execDmaStart p t) :=
  .next (h.command fun k => k.runDmaStart)

theorem Keeps.runDmaAbort (h : Keeps s t) {p : Packet} : Keeps s (t.runDmaAbort p) := by
  unfold State.runDmaAbort
  dsimp only
  split
  · exact h.finish
  · exact (Keeps.ite h.discardChain h).finish

theorem Keeps.execDmaAbort (h : Keeps s t) {p : Packet} : Answers s (execDmaAbort p t) :=
  .next (h.command fun k => k.runDmaAbort)

theorem Keeps.runDmaStatus (h : Keeps s t) {p : Packet} : Keeps s (t.runDmaStatus p) := .ite h.finish h.clearRc.finish

theorem Keeps.execDmaStatus (h : Keeps s t) {p : Packet} : Answers s (execDmaStatus p t) :=
  .next (h.command fun k => k.runDmaStatus)

theorem Keeps.takeEngine (h : Keeps s t) {k : Nat} : Keeps s (t.takeEngine k) :=
  (Keeps.ite h.setDmaState.countSource h).fields.setDmaState.countSource

theorem Keeps.storeWords (h : Keeps s t) {ctx a : Nat} {vs : List Word} : Keeps s (t.storeWords ctx a vs) := by
  induction vs generalizing t a with
  | nil => exact h
  | cons v vs ih =>
    refine ih ?_
    split
    · exact h.wrBytes
    · exact h.writeHost
    · exact h

theorem Keeps.endTransferDma (h : Keeps s t) {k : Nat} {x : DmaXfer} : Keeps s (t.endTransferDma k x) :=
  have h1 := Keeps.ite h.countUp.report h.countUp
  .ite h1.setDmaCh.showDma.setDmaState h1.setDmaCh.showDma

theorem Keeps.moveBurst (h : Keeps s t) {k n : Nat} {x : DmaXfer} {host : List Byte} :
    Keeps s (t.moveBurst k n x host) :=
  have h1 := h.readWords.storeWords
  .ite h1.endTransferDma h1.setDmaCh.showDma

theorem Keeps.burst (h : Keeps s t) {k : Nat} {x : DmaXfer} {err : Nat} {host : List Byte} :
    Keeps s (t.burst k x err host) := by
  unfold State.burst
  dsimp only
  split
  · exact h.takeEngine.faultChannel
  · exact h.takeEngine.translationFault.discardChain
  · exact h.takeEngine.translationFault.discardChain
  · exact .ite h.takeEngine.moveBurst h.takeEngine.fields

theorem Keeps.resumeBurst (h : Keeps s t) {r : Retry} : Keeps s (t.resumeBurst r) := by
  unfold State.resumeBurst
  split
  · exact .ite h.moveBurst h
  · exact h

theorem Keeps.endRetry (h : Keeps s t) {r : Retry} {ok : Bool} : Keeps s (t.endRetry r ok) :=
  have h1 := h.wr.wr
  have h2 := Keeps.ite (.ite h1.setBit h1) h1
  .ite (Keeps.ite h2.countUp.countUp h2.countUp).raiseTransient.resumeBurst h2.countUp.raiseLasting.land.showMarked

theorem Keeps.execRetryResult (h : Keeps s t) {ok : Bool} : Answers s (execRetryResult ok t) := by
  unfold Machine.execRetryResult
  dsimp only
  refine .next ?_
  split
  · exact h
  · exact h.fields.endRetry

theorem Keeps.countBurst (h : Keeps s t) {k : Nat} {x : DmaXfer} {corrected : Nat} :
    Keeps s (t.countBurst k x corrected) :=
  .ite h.countUp h

theorem Keeps.execDmaBurst (h : Keeps s t) {e err : Nat} {host : List Byte} {corrected : Nat} :
    Answers s (execDmaBurst e err host corrected t) := by
  unfold Machine.execDmaBurst
  refine .next (.ite h ?_)
  split
  · exact h
  · split
    · exact h
    · exact h.countBurst.burst

theorem Keeps.clearChannels (h : Keeps s t) {e : Nat} {v : Word} : Keeps s (t.clearChannels e v) :=
  h.foldl fun _ k => .ite k.setBit.setDmaState k

theorem Keeps.execDescriptorAllocation (h : Keeps s t) {r n : Nat} {bytes : List Byte} :
    Answers s (execDescriptorAllocation r n bytes t) :=
  .next (.ite h.offer h)

theorem Keeps.execRingHeadAdvance (h : Keeps s t) {r n : Nat} : Answers s (execRingHeadAdvance r n t) :=
  .next (.ite h.setRing.setFill h)

theorem Keeps.applyMem (h : Keeps s t) {a : Nat} {v : Word} : Keeps s (t.applyMem a v) :=
  .ite h.wr.put.setFill (.ite h.wr h.wr)

/-! ### Operations of Machine/Net -/

theorem Keeps.setNet (h : Keeps s t) {n : NetSt} : Keeps s (t.setNet n) := h.fields

theorem Keeps.setTime (h : Keeps s t) {i : Nat} : Keeps s (t.setTime i) := h.setNet.wr.wr.wr.wr.wr.wr

theorem Keeps.advanceTime (h : Keeps s t) {n : Nat} : Keeps s (t.advanceTime n) := h.setTime.setNet

theorem Keeps.moveTime (h : Keeps s t) {i : Nat} : Keeps s (t.moveTime i) := h.setTime.setNet

theorem Keeps.stepTime (h : Keeps s t) {ns : Int} : Keeps s (t.stepTime ns) := by
  unfold State.stepTime
  exact h.moveTime.raise

theorem Keeps.slewTime (h : Keeps s t) {ns : Int} : Keeps s (t.slewTime ns) := h.setNet

theorem Keeps.tcUpdate (h : Keeps s t) : Keeps s t.tcUpdate :=
  have h1 := Keeps.ite h.setNet h
  .ite h1.setBit h1.setBit.setBit.raise

theorem Keeps.syncTime (h : Keeps s t) {offset : Int} {incNs incFrac : Nat} :
    Keeps s (t.syncTime offset incNs incFrac) :=
  have h1 := h.wr.wr
  .ite h1.wr.setNet.stepTime h1.wr.setNet.slewTime

theorem Keeps.hearSync (h : Keeps s t) : Keeps s t.hearSync := h.setNet

theorem Keeps.execPtpSync (h : Keeps s t) {offset : Int} {incNs incFrac portState utc : Nat} :
    Answers s (execPtpSync offset incNs incFrac portState utc t) :=
  .next (.ite h.hearSync.put.put.syncTime h)

theorem Keeps.execTimeLocked (h : Keeps s t) : Answers s (execTimeLocked t) := .next (.ite h.put.raise.tcUpdate h)

theorem Keeps.loseTime (h : Keeps s t) : Keeps s t.loseTime :=
  .ite h (have h1 := Keeps.ite h.setNet.put h.setNet; .ite h1.put.raise.tcUpdate h1)

theorem Keeps.execTimeSourceLost (h : Keeps s t) : Answers s (execTimeSourceLost t) := .next (.ite h.loseTime h)

theorem Keeps.execTimeFree (h : Keeps s t) : Answers s (execTimeFree t) := .next (.ite h.put.raise.tcUpdate h)

theorem Keeps.adjustTime (h : Keeps s t) {v : Word} : Keeps s (t.adjustTime v) := .ite h.stepTime h.slewTime

theorem Keeps.setSeconds (h : Keeps s t) {v : Word} : Keeps s (t.setSeconds v) := h.moveTime

theorem Keeps.fireCmp (h : Keeps s t) {k dt : Nat} : Keeps s (t.fireCmp k dt) :=
  have h1 := h.setBit.raise
  have h2 := Keeps.ite h1.fields h1
  .ite h2.wr.wr.countUp h2.setBit

theorem Keeps.execTimeMatch (h : Keeps s t) {k dt : Nat} : Answers s (execTimeMatch k dt t) :=
  .next (.ite h.fireCmp h)

theorem Keeps.freeStamp (h : Keeps s t) : Keeps s t.freeStamp.2 := h.freshWord.freshWord.freshWord

theorem Keeps.dropEth (h : Keeps s t) {p : Nat} : Keeps s (t.dropEth p) := h.countUp

theorem Keeps.setBridgeQ (h : Keeps s t) {p : Nat} {l : List BridgeFrame} : Keeps s (t.setBridgeQ p l) := h.setNet

theorem Keeps.forward (h : Keeps s t) {p : Nat} {f : EthFrame} {dt : Nat} : Keeps s (t.forward p f dt) :=
  .ite h.setBridgeQ h.dropEth

theorem Keeps.toFirmware (h : Keeps s t) {f : EthFrame} : Keeps s (t.toFirmware f) := .ite h.offer h

theorem Keeps.hearSource (h : Keeps s t) {p : Nat} {k : EthKind} : Keeps s (t.hearSource p k) := by
  unfold State.hearSource
  dsimp only
  refine .ite h ?_
  split
  · exact h.hearSync
  · exact h.setNet
  · exact h

theorem Keeps.takePtp (h : Keeps s t) {p : Nat} {f : EthFrame} {dt : Nat} : Keeps s (t.takePtp p f dt) :=
  have h1 := Keeps.ite h.hearSource.toFirmware (.ite h.dropEth h)
  .ite h1.forward h1

theorem Keeps.takeFragment (h : Keeps s t) {p key : Nat} {last : Bool} : Keeps s (t.takeFragment p key last) :=
  .ite (.ite h.setNet h) (.ite h.setNet h.dropEth)

theorem Keeps.takeEth (h : Keeps s t) {p : Nat} {f : EthFrame} {dt : Nat} : Keeps s (t.takeEth p f dt) := by
  unfold State.takeEth
  extract_lets s1 ip own s2
  have h1 : Keeps s s1 := h.countUp
  have h2 : Keeps s s2 := .ite h1.forward h1
  have hown : Keeps s (if ¬ own then if f.kind = .arpIcmp ∧ ip then s2.toFirmware f else s2
      else if ¬ ip then s2.dropEth p
      else match f.kind with
        | .fragment last => s2.takeFragment p f.key last
        | .arpIcmp => s2.toFirmware f
        | .other => s2.dropEth p
        | _ => s2) := by
    refine .ite (.ite h2.toFirmware h2) (.ite h2.dropEth ?_)
    split
    · exact h2.takeFragment
    · exact h2.toFirmware
    · exact h2.dropEth
    · exact h2
  split
  · exact h1.takePtp
  · exact h1.takePtp
  · exact h1.takePtp
  · exact h1.takePtp
  · exact h1.takePtp
  · exact hown
  · exact hown
  · exact hown
  · exact hown

theorem Keeps.execEthFrameReceived (h : Keeps s t) {p : Nat} {f : EthFrame} {dt : Nat} :
    Answers s (execEthFrameReceived p f dt t) :=
  .next (.ite h (.ite h.countUp h.takeEth))

theorem Keeps.complete (h : Keeps s t) {r status : Nat} {stamp : List Word} :
    Keeps s (t.complete r status stamp) := by
  unfold State.complete
  dsimp only
  split
  · exact h
  · exact h.setNet.popUnit

theorem Keeps.residence (h : Keeps s t) {f : BridgeFrame} {tx : Nat} : Keeps s (t.residence f tx).2 := by
  unfold State.residence
  dsimp only
  split
  · exact h
  · split
    · exact h.countUp
    · exact h.countUp
    · exact .ite h.setNet h
    · split
      · exact h.setNet.countUp
      · exact h.countUp
    · exact h

theorem Keeps.frameSent (h : Keeps s t) {p what dt : Nat} {tsReq last : Bool} :
    Keeps s (t.frameSent p what dt tsReq last) := by
  unfold State.frameSent
  dsimp only
  split
  · exact .ite h.countUp.sendReply h.countUp
  · exact h.countUp.complete
  · split
    · exact h.countUp
    · exact h.countUp.residence.setBridgeQ.setNet

theorem Keeps.execEthLinkUp (h : Keeps s t) {p speed : Nat} : Answers s (execEthLinkUp p speed t) :=
  .next (.ite h h.setBit.put.setBit.setBit.setBit)

theorem Keeps.ethDown (h : Keeps s t) {p : Nat} : Keeps s (t.ethDown p) := .ite h.setBit.setBit.setBit.setBit.setNet h

theorem Keeps.execEthLinkDown (h : Keeps s t) {p : Nat} : Answers s (execEthLinkDown p t) := .next h.ethDown

theorem Keeps.setCanSt (h : Keeps s t) {n : Nat} {v : CanSt} : Keeps s (t.setCanSt n v) := h.setNet

theorem Keeps.canErrors (h : Keeps s t) {n errors tec rec' : Nat} : Keeps s (t.canErrors n errors tec rec') :=
  have h1 := h.put.put.countUp.put.setBit
  .ite h1.raise h1

theorem Keeps.execCanFrameReceived (h : Keeps s t) {n : Nat} {f : CanFrame} {dt errors tec rec' : Nat} :
    Answers s (execCanFrameReceived n f dt errors tec rec' t) :=
  .next (.ite h (.ite (.ite h.put h.canErrors) (.ite h.canErrors.offer h.canErrors)))

theorem Keeps.canSent (h : Keeps s t) {n : Nat} {j : RingUnit} {lost : Bool} {dt errors tec rec' : Nat} :
    Keeps s (t.canSent n j lost dt errors tec rec') :=
  .ite h.freeStamp.complete (.ite h.canErrors.setCanSt.complete (.ite h.canErrors.setCanSt.complete (.ite
      h.canErrors.complete h.canErrors)))

theorem Keeps.execCanFrameSent (h : Keeps s t) {n : Nat} {lost : Bool} {dt errors tec rec' : Nat} :
    Answers s (execCanFrameSent n lost dt errors tec rec' t) := by
  unfold Machine.execCanFrameSent
  refine .next (.ite h ?_)
  split
  · exact h
  · exact h.canSent

theorem Keeps.canOff (h : Keeps s t) {n : Nat} {onBus : Bool} {dt : Nat} : Keeps s (t.canOff n onBus dt) := by
  unfold State.canOff
  exact have h1 := h.put.setBit.countUp; (Keeps.ite h1.complete h1).setCanSt.raise

theorem Keeps.execCanBusOff (h : Keeps s t) {n : Nat} {onBus : Bool} {dt : Nat} :
    Answers s (execCanBusOff n onBus dt t) :=
  .next (.ite h h.canOff)

theorem Keeps.execCanBusOn (h : Keeps s t) {n : Nat} : Answers s (execCanBusOn n t) :=
  .next (.ite h.wr.setBit.setBit.setCanSt.raise h)

theorem Keeps.canCommand (h : Keeps s t) {n : Nat} {v : Word} : Keeps s (t.canCommand n v) :=
  have h1 := Keeps.ite h.setCanSt h
  .ite (have h2 := (h1.foldl fun _ k => k.freeStamp.setNet).setRing.setFill
  .ite h2.setCanSt h2) h1

theorem Keeps.applyNet (h : Keeps s t) {a : Nat} {v : Word} : Keeps s (t.applyNet a v) :=
  .ite (.ite h.wrRw.tcUpdate (have h1 := h.wrRw.put.setNet; (Keeps.ite h1 h1.put.raise).tcUpdate)) (.ite
      h.wrRw.ethDown (.ite h.wrRw.ethDown h.wrRw))

/-! ### Operations of Machine/FixCore -/

theorem Keeps.closeFix (h : Keeps s t) {x : Fix} : Keeps s (t.closeFix x) := h.fields.finishLate

theorem Keeps.closeFixes (h : Keeps s t) : Keeps s t.closeFixes := h.foldl fun _ k => .ite k k.closeFix

theorem Keeps.tableDone (h : Keeps s t) {p : Packet} : Keeps s (t.tableDone p) := h.fields

/-! ### Operations of Machine/SafeRows -/

theorem Keeps.evalConfirm (h : Keeps s t) {p : Packet} {testOk : Bool} {persist : List Nat} :
    Keeps s (t.evalConfirm p testOk persist) := by
  unfold State.evalConfirm
  dsimp only
  refine .ite h.finish (.ite h.finish ?_)
  split
  · exact h.finish
  · exact .ite h.finish (.ite h.dropArm.finish (.ite h.dropArm.finish (.ite h.tryRelease.finish
      h.tryRelease.dropArm.finish)))

theorem Keeps.evalConfirms (h : Keeps s t) {testOk : Bool} {persist : List Nat} :
    Keeps s (t.evalConfirms testOk persist) :=
  h.fields.foldl fun _ k => k.evalConfirm

theorem Keeps.sampleReset (h : Keeps s t) {a b : Bool} : Keeps s (t.sampleReset a b) := h.setRst

theorem Keeps.judgeSubs (h : Keeps s t) : Keeps s t.judgeSubs :=
  h.foldl fun _ k => have h1 := k.setSafeSub.foldl fun _ k => k.judgeCycle; .ite h1.setSafeSub h1

theorem Keeps.judgeLattice (h : Keeps s t) : Keeps s t.judgeLattice := .ite h.setDiag.latchNow h.setDiag

theorem Keeps.setOutTest (h : Keeps s t) {n : Nat} {v : OutTest} : Keeps s (t.setOutTest n v) := h.fields

theorem Keeps.driveOutputs (h : Keeps s t) {closedA closedB voltage : Nat} :
    Keeps s (t.driveOutputs closedA closedB voltage) :=
  (h.put.put.put.foldl fun _ k => k.setOutTest).foldl fun _ k => .ite k.faultOutput k

theorem Keeps.runDiag (h : Keeps s t) : Keeps s t.runDiag := .ite h.setDiag.setBit.raise h.setDiag

theorem Keeps.faultInput (h : Keeps s t) {i : Nat} : Keeps s (t.faultInput i) :=
  h.setSafeIn.setBit.setBit.countUp.raise.latchLockout

theorem Keeps.finishTick (h : Keeps s t) {r : TickRest} : Keeps s (t.finishTick r) :=
  h.fields.recordLattice.judgeLattice.runFunctions.driveOutputs.evalConfirms.runDiag.showMirror

theorem Keeps.goOnTick (h : Keeps s t) : Keeps s t.goOnTick := by
  unfold State.goOnTick
  split
  · exact .ite h h.finishTick
  · exact h

theorem Keeps.endTick (h : Keeps s t) : Keeps s t.endTick :=
  .ite h ((h.foldl fun _ k => .ite k.faultInput k).foldl fun _ k => .ite k.loseSub k).goOnTick

theorem Keeps.safetyWork (h : Keeps s t) {raw : Word} {rstA rstB : Bool} {rest : TickRest} :
    Keeps s (t.safetyWork raw rstA rstB rest) :=
  (h.endTick.fields.wr.wr.foldl fun _ k => k.samplePair).sampleReset.judgeSubs.goOnTick

theorem Keeps.execSafetyTick (h : Keeps s t) {raw : Word} {rstA rstB : Bool} {closedA closedB voltage : Nat} {testOk
    : Bool} {persist : List Nat} :
    Answers s (execSafetyTick raw rstA rstB closedA closedB voltage testOk persist t) :=
  .next (.ite h.safetyWork h)

theorem Keeps.execInputDiscrepancy (h : Keeps s t) {i : Nat} : Answers s (execInputDiscrepancy i t) :=
  .next (.ite h.faultInput.goOnTick h)

theorem Keeps.takeSafeFrame (h : Keeps s t) {plane node stream seq : Nat} {data crc : Word} {inSlot : Bool} :
    Keeps s (t.takeSafeFrame plane node stream seq data crc inSlot) :=
  .ite h (h.foldl fun _ k => .ite k.setSafeSub k)

theorem Keeps.execSafeFrameReceived (h : Keeps s t) {plane node stream seq : Nat} {data crc : Word} {inSlot : Bool} :
    Answers s (execSafeFrameReceived plane node stream seq data crc inSlot t) :=
  .next h.takeSafeFrame

theorem Keeps.execDegradedWindowExpiry (h : Keeps s t) {r : Nat} : Answers s (execDegradedWindowExpiry r t) :=
  .next (.ite h.loseSub.goOnTick h)

theorem Keeps.execSoutTestPulse (h : Keeps s t) {n : Nat} {switchB : Bool} {opened closed : Nat} :
    Answers s (execSoutTestPulse n switchB opened closed t) :=
  .next (.ite (.ite h.setOutTest h.setOutTest.faultOutput) h)

theorem Keeps.execSoutOvercurrent (h : Keeps s t) {n : Nat} : Answers s (execSoutOvercurrent n t) :=
  .next (.ite h.faultOutput h)

theorem Keeps.execLatticeDemand (h : Keeps s t) {i : Nat} : Answers s (execLatticeDemand i t) :=
  .next (.ite h.setDiag.showLattice h)

theorem Keeps.execLatticeDemandEnd (h : Keeps s t) {i : Nat} : Answers s (execLatticeDemandEnd i t) :=
  .next (.ite h.setDiag.showLattice h)

theorem Keeps.execLatticeTest (h : Keeps s t) {ok : Bool} : Answers s (execLatticeTest ok t) :=
  .next (.ite (have h1 := h.latticeTested; .ite h1 h1.latchLockout) h)

theorem Keeps.execHeartbeatLost (h : Keeps s t) : Answers s (execHeartbeatLost t) := .next h.setDiag.latticeLatches

theorem Keeps.execLockstepMismatch (h : Keeps s t) : Answers s (execLockstepMismatch t) :=
  .next (.ite h.countUp.setBit.setDiag.latticeLatches.showProc.fields h)

theorem Keeps.execProcessorRestartDone (h : Keeps s t) : Answers s (execProcessorRestartDone t) :=
  .next (.ite h.setDiag.setBit.showProc h)

theorem Keeps.execLocalReset (h : Keeps s t) {testOk : Bool} {persist : List Nat} :
    Answers s (execLocalReset testOk persist t) :=
  .next (.ite (Keeps.ite h.tryRelease h.tryRelease.setRst).showMirror h)

theorem Keeps.execResetDiscrepancy (h : Keeps s t) : Answers s (execResetDiscrepancy t) :=
  .next (.ite h.setRst.raise h)

theorem Keeps.runArm (h : Keeps s t) {p : Packet} {testOk : Bool} : Keeps s (t.runArm p testOk) :=
  .ite h.finish (.ite h.finish (.ite h.finish (.ite h.finish h.freshWord.fields.setBit.put.finish)))

theorem Keeps.execLockoutArm (h : Keeps s t) {p : Packet} {testOk : Bool} : Answers s (execLockoutArm p testOk t) :=
  .next (h.command fun k => k.runArm)

theorem Keeps.runConfirm (h : Keeps s t) {p : Packet} : Keeps s (t.runConfirm p) := h.fields.pend

theorem Keeps.execLockoutConfirm (h : Keeps s t) {p : Packet} : Answers s (execLockoutConfirm p t) :=
  .next (h.command fun k => k.runConfirm)

theorem Keeps.execArmExpired (h : Keeps s t) : Answers s (execArmExpired t) := by
  unfold Machine.execArmExpired
  dsimp only
  refine .next ?_
  split
  · exact .ite h.fields.setBit.put.showMirror h
  · exact h

theorem Keeps.runSafeStatus (h : Keeps s t) {p : Packet} : Keeps s (t.runSafeStatus p) := h.finish

theorem Keeps.execSafeStatus (h : Keeps s t) {p : Packet} : Answers s (execSafeStatus p t) :=
  .next (h.command fun k => k.runSafeStatus)

theorem Keeps.runParamRead (h : Keeps s t) {p : Packet} : Keeps s (t.runParamRead p) := h.finish

theorem Keeps.execSafeParamRead (h : Keeps s t) {p : Packet} : Answers s (execSafeParamRead p t) :=
  .next (h.command fun k => k.runParamRead)

/-! ### Operations of Machine/Fab -/

theorem Keeps.setSurvey (h : Keeps s t) {v : SurveySt} : Keeps s (t.setSurvey v) := h.setFab

theorem Keeps.setTt (h : Keeps s t) {v : TtSt} : Keeps s (t.setTt v) := h.setFab

theorem Keeps.setFabCyc (h : Keeps s t) {v : FabCycSt} : Keeps s (t.setFabCyc v) := h.setFab

theorem Keeps.showFab (h : Keeps s t) : Keeps s t.showFab := h.setBit.setBit

theorem Keeps.setSurveying (h : Keeps s t) {b : Bool} : Keeps s (t.setSurveying b) := h.setBit

theorem Keeps.floodClaim (h : Keeps s t) {p : Nat} : Keeps s (t.floodClaim p) := .ite h.originate h

theorem Keeps.hearKey (h : Keeps s t) {k p : Nat} : Keeps s (t.hearKey k p) :=
  .ite h.setSurvey.setSurveying.floodClaim (.ite h.setSurvey h)

theorem Keeps.keepReport (h : Keeps s t) {r : NodeReport} : Keeps s (t.keepReport r) := h.setSurvey

theorem Keeps.startReports (h : Keeps s t) : Keeps s t.startReports := h.setSurvey.setSurveying.keepReport.sendFab

theorem Keeps.takeId (h : Keeps s t) {id : Nat} : Keeps s (t.takeId id) :=
  .ite h.put.raise (.ite h.put.setSurvey.raise h.put.setSurvey)

theorem Keeps.takeAssignment (h : Keeps s t) {ids : List (Nat × Nat)} {surveyor deputy : Nat} :
    Keeps s (t.takeAssignment ids surveyor deputy) := by
  unfold State.takeAssignment
  dsimp only
  refine Keeps.showFab (Keeps.setBit (Keeps.put (Keeps.put ?_)))
  split
  · exact .ite h.takeId h
  · exact h

theorem Keeps.setWay (h : Keeps s t) {pl dst mask hops : Nat} : Keeps s (t.setWay pl dst mask hops) :=
  .ite h.put.put h.put.put

theorem Keeps.expandRoute (h : Keeps s t) {r : RouteList} : Keeps s (t.expandRoute r) :=
  have h1 := h.foldl fun _ k => k.setWay
  .ite h1 (h1.foldl fun _ k => .ite k (.ite k.setWay k.setWay)).setWay

theorem Keeps.stopPlane (h : Keeps s t) {pl : Nat} {b : Bool} : Keeps s (t.stopPlane pl b) :=
  (Keeps.ite h.setFabCyc.raise h.setFabCyc).showFab

theorem Keeps.takeRoute (h : Keeps s t) {r : RouteList} : Keeps s (t.takeRoute r) :=
  h.setFab.expandRoute.setBit.put.stopPlane.showFab

theorem Keeps.showCrcs (h : Keeps s t) : Keeps s t.showCrcs := h.wr.wr

theorem Keeps.claimSlots (h : Keeps s t) : Keeps s t.claimSlots :=
  (h.fields.foldl fun _ k => .ite k k.addClaim).foldl fun _ k => .ite k k.addClaim

theorem Keeps.writeShadow (h : Keeps s t) {l : List (Nat × Word)} {c : Option Nat} : Keeps s (t.writeShadow l c) := by
  unfold State.writeShadow
  dsimp only
  refine Keeps.showCrcs (Keeps.claimSlots ?_)
  split
  · exact h.setFab.put
  · exact h.setFab

theorem Keeps.startDist (h : Keeps s t) {p : Packet} {l : List (Nat × Word)} {c : Option Nat} :
    Keeps s (t.startDist p l c) :=
  .ite h.writeShadow.setTt.sendFab h.writeShadow.setTt.sendFab

theorem Keeps.takeDirect (h : Keeps s t) {l : List (Nat × Word)} {d : Nat} : Keeps s (t.takeDirect l d) :=
  h.writeShadow.setTt

theorem Keeps.announceDirect (h : Keeps s t) {l : List (Nat × Word)} : Keeps s (t.announceDirect l) :=
  h.takeDirect.sendFab

theorem Keeps.startDirect (h : Keeps s t) {p : Packet} {l : List (Nat × Word)} : Keeps s (t.startDirect p l) :=
  .ite h.setTt.announceDirect h.setTt.sendFab

theorem Keeps.startTables (h : Keeps s t) : Keeps s t.startTables := by
  unfold State.startTables
  refine .ite h ?_
  split
  · exact h
  · exact .ite h.startDirect h.startDist

theorem Keeps.endTable (h : Keeps s t) {p : Packet} : Keeps s (t.endTable p) := h.tableDone.closeFixes.startTables

theorem Keeps.endDist (h : Keeps s t) : Keeps s t.endDist := by
  unfold State.endDist
  dsimp only
  split
  · exact h
  · exact h.setTt.endTable

theorem Keeps.endDirect (h : Keeps s t) : Keeps s t.endDirect := by
  unfold State.endDirect
  dsimp only
  split
  · exact h
  · split
    · exact h.setTt.endTable
    · exact h.setTt.startTables

theorem Keeps.liftStops (h : Keeps s t) : Keeps s t.liftStops := h.foldl fun _ k => .ite k.stopPlane k

theorem Keeps.setSub (h : Keeps s t) {j : Nat} {v : FabSub} : Keeps s (t.setSub j v) := h.setFab

theorem Keeps.takeCopy (h : Keeps s t) {j pl : Nat} {f : FabFrame} {bytes : List Byte} {inSlot : Bool} :
    Keeps s (t.takeCopy j pl f bytes inSlot) :=
  .ite (.ite (have h1 := h.setSub.put.put; have h2 := Keeps.ite h1.put h1.put.setBit; .ite h2.offer h2) h) h

theorem Keeps.takeStream (h : Keeps s t) {pl : Nat} {f : FabFrame} {bytes : List Byte} {inSlot : Bool} :
    Keeps s (t.takeStream pl f bytes inSlot) :=
  h.foldl fun _ k => .ite (.ite (.ite k.takeSafeFrame k) k.takeCopy) k

theorem Keeps.endSubs (h : Keeps s t) : Keeps s t.endSubs := h.foldl fun _ k => .ite k.setSub.put k

theorem Keeps.takeSecondary (h : Keeps s t) {sect : Nat} {offset : Word} {corr : List (Nat × Word)} :
    Keeps s (t.takeSecondary sect offset corr) :=
  .ite h.fields.put h

theorem Keeps.takeGrant (h : Keeps s t) {sect node : Nat} : Keeps s (t.takeGrant sect node) := .ite h.setGrant.raise h

theorem Keeps.decideGrants (h : Keeps s t) : Keeps s t.decideGrants :=
  h.setFab.foldl fun _ k => .ite k.setFab.sendFab.takeGrant k

theorem Keeps.endReads (h : Keeps s t) {p : NodeRead → Bool} {st : Status} {payload : List Byte} :
    Keeps s (t.endReads p st payload) :=
  h.setFab.foldl fun _ k => k.finishLate

theorem Keeps.applyFab (h : Keeps s t) {a : Nat} {v : Word} : Keeps s (t.applyFab a v) :=
  .ite h.wrRw.setSub.wr (.ite h.wrRw.setFab h.wrRw)

/-! ### Operations of Machine/FabRows -/

theorem Keeps.reportLinks (h : Keeps s t) : Keeps s t.reportLinks := .ite h.keepReport.setSurveying (.ite h.sendFab h)

theorem Keeps.dropLink (h : Keeps s t) {p st : Nat} : Keeps s (t.dropLink p st) :=
  h.put.put.setBit.setPort.raise.endReads.reportLinks

theorem Keeps.markLink (h : Keeps s t) {p : Nat} : Keeps s (t.markLink p) := h.raiseLasting.setPort.put.dropLink

theorem Keeps.showMarks (h : Keeps s t) : Keeps s t.showMarks := h.foldl fun _ k => .ite k k.setPort.put

theorem Keeps.qualify (h : Keeps s t) {p delay : Nat} : Keeps s (t.qualify p delay) :=
  have h1 := h.put.put.setBit.setPort.raise
  .ite h1.setSurvey (.ite h1.setSurvey.setSurveying.floodClaim h1)

theorem Keeps.refuseLink (h : Keeps s t) {p : Nat} : Keeps s (t.refuseLink p) := h.put.setPort.raise

theorem Keeps.execLinkUp (h : Keeps s t) {p delay : Nat} {samePlane : Bool} :
    Answers s (execLinkUp p delay samePlane t) :=
  .next (.ite (.ite h.qualify h.refuseLink) h)

theorem Keeps.execLinkDown (h : Keeps s t) {p : Nat} : Answers s (execLinkDown p t) := .next (.ite h.dropLink h)

theorem Keeps.execPortRetry (h : Keeps s t) {p : Nat} : Answers s (execPortRetry p t) := .next (.ite h.put h)

theorem Keeps.clearPort (h : Keeps s t) {p : Nat} {v : Word} : Keeps s (t.clearPort p v) := .ite h.setPort h

theorem Keeps.passOn (h : Keeps s t) {p : Nat} {f : FabFrame} {aborted : Bool} : Keeps s (t.passOn p f aborted) :=
  h.foldl fun _ k => .ite k.sendOn.countSource k

theorem Keeps.dropFrame (h : Keeps s t) : Keeps s t.dropFrame := h.countUp

theorem Keeps.takeHello (h : Keeps s t) {p key id best : Nat} : Keeps s (t.takeHello p key id best) :=
  have h1 := h.put.setPort
  (Keeps.ite h1.setSurvey h1).hearKey.hearKey

theorem Keeps.takeStart (h : Keeps s t) {src key : Nat} : Keeps s (t.takeStart src key) :=
  .ite h.setSurvey.setSurveying.floodClaim h.setBit.put.setSurveying.setSurvey

theorem Keeps.takeConfirm (h : Keeps s t) {src subject plane : Nat} {right : Bool} :
    Keeps s (t.takeConfirm src subject plane right) := by
  unfold State.takeConfirm
  dsimp only
  refine .ite h (.ite (.ite h.setSurvey h) (.ite ?_ h))
  split
  · exact .ite h.setTt.endDist h.setTt
  · exact h

theorem Keeps.takeTimetable (h : Keeps s t) {src : Nat} {m : TtMsg} : Keeps s (t.takeTimetable src m) := by
  unfold State.takeTimetable
  dsimp only
  split
  · exact .ite h.sendFab h
  · exact h.setFab.put.put.claimSlots.showCrcs
  · exact .ite h (.ite h.announceDirect h.writeShadow.sendFab.sendFab)
  · exact .ite h h.writeShadow.sendFab
  · exact h.takeDirect.sendFab
  · exact .ite h.setTt.setBit h
  · exact .ite h h.resetShadow

theorem Keeps.serveRead (h : Keeps s t) {src tag a n : Nat} : Keeps s (t.serveRead src tag a n) :=
  .ite h.sendFab h.sendFab

theorem Keeps.takeReply (h : Keeps s t) {src tag st : Nat} {ws : List Word} : Keeps s (t.takeReply src tag st ws) :=
  .ite h.endReads h.endReads

theorem Keeps.keepSecReport (h : Keeps s t) {r : SecReport} : Keeps s (t.keepSecReport r) := h.setFab

theorem Keeps.consumeFrame (h : Keeps s t) {p : Nat} {f : FabFrame} {inSlot : Bool} :
    Keeps s (t.consumeFrame p f inSlot) := by
  unfold State.consumeFrame
  dsimp only
  split
  · exact h.takeHello
  · exact h.hearKey
  · exact h.takeStart
  · exact .ite h.startReports h
  · exact h.takeAssignment
  · exact h.setSurvey.setSurveying.foldl fun _ k => k.finishLate
  · exact h.takeRoute.sendFab
  · exact .ite h.setFabCyc h
  · exact h.takeStream
  · exact .ite h.keepSecReport h
  · exact h.takeSecondary
  · exact .ite h.takeRequest h
  · exact h.takeGrant
  · exact .ite h.endGrants h
  · exact .ite h.endGrants h
  · exact h.takeTimetable
  · exact h.serveRead
  · exact h.takeReply
  · exact .ite h.keepReport.setSurveying h
  · exact h.takeConfirm
  · exact h

theorem Keeps.takeFrame (h : Keeps s t) {p : Nat} {f : FabFrame} {aborted inSlot : Bool} :
    Keeps s (t.takeFrame p f aborted inSlot) :=
  have h1 := Keeps.ite h (.ite h.dropFrame h.passOn)
  .ite h1 h1.consumeFrame

theorem Keeps.execFabFrameReceived (h : Keeps s t) {p : Nat} {f : FabFrame} {aborted : Bool} {arrival : Nat} :
    Answers s (execFabFrameReceived p f aborted arrival t) :=
  .next (.ite h (.ite h.dropFrame (.ite h h.takeFrame)))

theorem Keeps.execFabFrameCheckFail (h : Keeps s t) {p tag copy : Nat} {f : FabFrame} :
    Answers s (execFabFrameCheckFail p tag copy f t) := by
  unfold Machine.execFabFrameCheckFail
  dsimp only
  refine .next (.ite h ?_)
  split
  · exact h.passOn.setPort
  · exact h.passOn.markLink
  · exact h.passOn

theorem Keeps.execNakReceived (h : Keeps s t) {p tag : Nat} {passes : Bool} :
    Answers s (execNakReceived p tag passes t) := by
  unfold Machine.execNakReceived
  dsimp only
  refine .next (.ite h ?_)
  split
  · exact .ite h (.ite h.sendOn.raiseTransient.countUp h.sendOn.markLink)
  · exact h

theorem Keeps.execFrameIdleStop (h : Keeps s t) {p stray : Nat} {f : FabFrame} :
    Answers s (execFrameIdleStop p stray f t) :=
  .next (.ite h h.passOn.countUp.countUp)

theorem Keeps.execHelloSend (h : Keeps s t) {p : Nat} : Answers s (execHelloSend p t) :=
  .next (.ite h.originate.setPort h)

theorem Keeps.execBecomeSurveyor (h : Keeps s t) : Answers s (execBecomeSurveyor t) :=
  .next (.ite h.setBit.put.startReports h)

theorem Keeps.execReportSend (h : Keeps s t) : Answers s (execReportSend t) := .next (.ite h.setSurvey.sendFab h)

theorem Keeps.announceRoute (h : Keeps s t) {pl : Nat} {routes : List RouteList} :
    Keeps s (t.announceRoute pl routes) := by
  unfold State.announceRoute
  dsimp only
  split
  · exact h.sendFab.takeRoute
  · exact h

theorem Keeps.assignNodes (h : Keeps s t) {partingX partingY : Nat} : Keeps s (t.assignNodes partingX partingY) := by
  unfold State.assignNodes
  exact h.keepReport.setSurvey.sendFab.takeAssignment.announceRoute.announceRoute

theorem Keeps.execIdAssignment (h : Keeps s t) {partingX partingY : Nat} :
    Answers s (execIdAssignment partingX partingY t) :=
  .next (.ite h.assignNodes h)

theorem Keeps.endSurvey (h : Keeps s t) : Keeps s t.endSurvey :=
  h.setSurvey.setSurveying.raise.sendFab.foldl fun _ k => k.finishLate

theorem Keeps.execSurveyDone (h : Keeps s t) : Answers s (execSurveyDone t) := .next (.ite h.endSurvey h)

theorem Keeps.runSurvey (h : Keeps s t) {p : Packet} : Keeps s (t.runSurvey p) :=
  .ite h.finish (have h1 := h.setSurvey.pend; .ite h1.startReports h1.sendFab)

theorem Keeps.execFabSurvey (h : Keeps s t) {p : Packet} : Answers s (execFabSurvey p t) :=
  .next (h.command fun k => k.runSurvey)

theorem Keeps.runFabStatus (h : Keeps s t) {p : Packet} : Keeps s (t.runFabStatus p) := h.finish

theorem Keeps.execFabStatus (h : Keeps s t) {p : Packet} : Answers s (execFabStatus p t) :=
  .next (h.command fun k => k.runFabStatus)

theorem Keeps.runNodeRead (h : Keeps s t) {p : Packet} : Keeps s (t.runNodeRead p) :=
  .ite h.finish (.ite (.ite h.finish h.finish) h.setFab.pend.sendFab)

theorem Keeps.execFabNodeRead (h : Keeps s t) {p : Packet} : Answers s (execFabNodeRead p t) :=
  .next (h.command fun k => k.runNodeRead)

theorem Keeps.execFabNodeReadTimeout (h : Keeps s t) : Answers s (execFabNodeReadTimeout t) := by
  unfold Machine.execFabNodeReadTimeout
  refine .next ?_
  split
  · exact h.endReads
  · exact h

theorem Keeps.runSwap (h : Keeps s t) {p : Packet} : Keeps s (t.runSwap p) := by
  unfold State.runSwap
  dsimp only
  split
  · exact h.finish
  · exact .ite h.finish (.ite h.finish (.ite h.finish (have h1 := h.setTt.setBit; .ite h1.pend h1.pend.sendFab)))

theorem Keeps.execFabTtSwap (h : Keeps s t) {p : Packet} : Answers s (execFabTtSwap p t) :=
  .next (h.command fun k => k.runSwap)

theorem Keeps.swapTables (h : Keeps s t) {cycle : Nat} : Keeps s (t.swapTables cycle) := by
  unfold State.swapTables
  dsimp only
  split
  · exact h.setTt.setFab.put.setBit.claimSlots.showCrcs.raise.liftStops.finishLate
  · exact h.setTt.setFab.put.setBit.claimSlots.showCrcs.raise.liftStops

theorem Keeps.execTtSwapped (h : Keeps s t) : Answers s (execTtSwapped t) := by
  unfold Machine.execTtSwapped
  refine .next ?_
  split
  · exact .ite h.swapTables h
  · exact h

theorem Keeps.writeActive (h : Keeps s t) {l : List (Nat × Word)} : Keeps s (t.writeActive l) :=
  h.setFab.claimSlots.showCrcs.liftStops

theorem Keeps.applyDirect (h : Keeps s t) {v : TtDirect} : Keeps s (t.applyDirect v) :=
  .ite h.writeActive.endDirect h.writeActive.setTt

theorem Keeps.execTtDirectApply (h : Keeps s t) : Answers s (execTtDirectApply t) := by
  unfold Machine.execTtDirectApply
  dsimp only
  refine .next ?_
  split
  · exact .ite h.applyDirect (.ite h.writeActive.endDirect h)
  · exact h

theorem Keeps.execTtDistributionTimeout (h : Keeps s t) : Answers s (execTtDistributionTimeout t) := by
  unfold Machine.execTtDistributionTimeout
  refine .next ?_
  split
  · exact .ite h.endDist h
  · exact h

theorem Keeps.sendSlot (h : Keeps s t) {planes stream seq : Nat} {body : FabBody} :
    Keeps s (t.sendSlot planes stream seq body) :=
  h.foldl fun _ k => .ite (k.foldl fun _ k => k.sendOn) k

theorem Keeps.setPub (h : Keeps s t) {i : Nat} {v : FabPub} : Keeps s (t.setPub i v) := h.setFab

theorem Keeps.countSafe (h : Keeps s t) : Keeps s t.countSafe := .ite (h.foldl fun _ k => .ite k.setPub k) h

theorem Keeps.cycleBoundary (h : Keeps s t) : Keeps s t.cycleBoundary :=
  h.endSubs.safeCycleEnd.countSafe.decideGrants.takeItems fun k _ _ => k.applyFab

theorem Keeps.sendAgain (h : Keeps s t) : Keeps s t.sendAgain := h.setTt.foldl fun _ k => k.sendFab

theorem Keeps.judgeCrc (h : Keeps s t) {c : CycleInfo} : Keeps s (t.judgeCrc c) :=
  .ite h.setBit.raise.sendFab h.setBit

theorem Keeps.followCycle (h : Keeps s t) {src dt incNs incFrac : Nat} {c : CycleInfo} :
    Keeps s (t.followCycle src dt incNs incFrac c) := by
  unfold State.followCycle
  dsimp only
  refine have h1 := ?_; (Keeps.ite h1.put.syncTime h1).judgeCrc
  split
  · exact .ite (Keeps.ite h.wr.setBit.setFabCyc.put.put.setBit.setTt.setBit
      h.wr.setBit.setFabCyc.put.put.setBit).setTt (.ite h.wr.setBit.setFabCyc.put.put.setBit.setTt.setBit
      h.wr.setBit.setFabCyc.put.put.setBit)
  · exact .ite h.wr.setBit.setFabCyc.put.put.setBit.setTt.setBit h.wr.setBit.setFabCyc.put.put.setBit

theorem Keeps.leadCycle (h : Keeps s t) {dt : Nat} : Keeps s (t.leadCycle dt) :=
  h.countWrap.cycleBoundary.sendAgain.setBit.showCrcs.showFab.sendSlot

theorem Keeps.keepCycle (h : Keeps s t) {dt incNs incFrac : Nat} : Keeps s (t.keepCycle dt incNs incFrac) := by
  unfold State.keepCycle
  dsimp only
  refine Keeps.showFab (Keeps.sendAgain (Keeps.cycleBoundary ?_))
  split
  · exact h.setFabCyc.showCrcs.followCycle
  · exact h.setFabCyc.showCrcs.followCycle
  · exact h.setFabCyc.showCrcs.countWrap

theorem Keeps.execCycleStart (h : Keeps s t) {dt incNs incFrac : Nat} :
    Answers s (execCycleStart dt incNs incFrac t) :=
  .next (.ite h (.ite h.leadCycle (.ite h.keepCycle h)))

theorem Keeps.execCycleLost (h : Keeps s t) : Answers s (execCycleLost t) :=
  .next (.ite (have h1 := h.setFabCyc.setBit.raise; (Keeps.ite h1.loseTime h1).showFab) h)

theorem Keeps.execSurveyorChanged (h : Keeps s t) : Answers s (execSurveyorChanged t) :=
  .next (.ite h.setFabCyc.setBit.setBit.put.put.setSurvey.raise.showFab h)

theorem Keeps.publish (h : Keeps s t) {i : Nat} {x : Slot} : Keeps s (t.publish i x) :=
  .ite h.raise (Keeps.ite h h.setPub).sendSlot

theorem Keeps.execSlotTransmit (h : Keeps s t) {n : Nat} : Answers s (execSlotTransmit n t) := by
  unfold Machine.execSlotTransmit
  refine .next (.ite ?_ h)
  split
  · exact h
  · exact .ite h h.publish

theorem Keeps.execStreamLost (h : Keeps s t) {j : Nat} : Answers s (execStreamLost j t) :=
  .next (.ite (have h1 := h.setBit.setBit.raise; .ite h1.loseStation h1) h)

theorem Keeps.execStreamReturned (h : Keeps s t) {j : Nat} : Answers s (execStreamReturned j t) :=
  .next (.ite (have h1 := h.setBit.setBit.raise; .ite h1.returnStation h1) h)

theorem Keeps.secondaryReport (h : Keeps s t) : Keeps s t.secondaryReport :=
  have h1 := Keeps.ite h.fields h.fields.countUp
  .ite h1.keepSecReport h1.sendFab

theorem Keeps.execSecondaryReportSend (h : Keeps s t) : Answers s (execSecondaryReportSend t) :=
  .next (.ite h.secondaryReport h)

theorem Keeps.secondarySection (h : Keeps s t) {z : Nat} {l : List SecReport} : Keeps s (t.secondarySection z l) :=
  .ite h h.setFab.sendFab.takeSecondary

theorem Keeps.execSecondaryCompute (h : Keeps s t) : Answers s (execSecondaryCompute t) :=
  .next (.ite (h.setFab.foldl fun _ k => k.secondarySection) h)

/-! ### Operations of Machine/Perf -/

theorem Keeps.writeEvent (h : Keeps s t) {e : EventRec} {r : Nat} : Keeps s (t.writeEvent e r) := by
  unfold State.writeEvent
  dsimp only
  refine .ite ?_ h
  split
  · exact h.append.setRing
  · exact h.dropUnit.setRing

theorem Keeps.auditEvent (h : Keeps s t) {e : EventRec} : Keeps s (t.auditEvent e) :=
  .ite h.audit (.ite h.audit (.ite h.audit (.ite h.audit h)))

theorem Keeps.mergeEvents (h : Keeps s t) : Keeps s t.mergeEvents :=
  (Keeps.ite h.fields (h.fields.foldl fun _ k => k.setRing)).fields.put.foldl fun _ k => (k.foldl fun _ k =>
      k.writeEvent).auditEvent

theorem Keeps.execEventWrite (h : Keeps s t) : Answers s (execEventWrite t) := .next h.mergeEvents

theorem Keeps.setFilters (h : Keeps s t) {p : Packet} {r : Nat} {l : List (Nat × Nat)} :
    Keeps s (t.setFilters p r l) :=
  h.setRing.wr

theorem Keeps.runSubscribe (h : Keeps s t) {p : Packet} : Keeps s (t.runSubscribe p) := by
  unfold State.runSubscribe
  dsimp only
  split
  · exact h.finish
  · exact h.setFilters.finish

theorem Keeps.execEventSubscribe (h : Keeps s t) {p : Packet} : Answers s (execEventSubscribe p t) :=
  .next (h.command fun k => k.runSubscribe)

theorem Keeps.runUnsubscribe (h : Keeps s t) {p : Packet} : Keeps s (t.runUnsubscribe p) := by
  unfold State.runUnsubscribe
  dsimp only
  split
  · exact h.finish
  · exact h.setFilters.finish

theorem Keeps.execEventUnsubscribe (h : Keeps s t) {p : Packet} : Answers s (execEventUnsubscribe p t) :=
  .next (h.command fun k => k.runUnsubscribe)

theorem Keeps.runStatusRead (h : Keeps s t) {p : Packet} : Keeps s (t.runStatusRead p) := h.finish

theorem Keeps.execStatusRead (h : Keeps s t) {p : Packet} : Answers s (execStatusRead p t) :=
  .next (h.command fun k => k.runStatusRead)

theorem Keeps.runCounterRead (h : Keeps s t) {p : Packet} : Keeps s (t.runCounterRead p) := .ite h.finish h.finish

theorem Keeps.execCounterRead (h : Keeps s t) {p : Packet} : Answers s (execCounterRead p t) :=
  .next (h.command fun k => k.runCounterRead)

theorem Keeps.clearCounters (h : Keeps s t) {v : Word} : Keeps s (t.clearCounters v) := h.foldl fun _ k => .ite k.wr k

theorem Keeps.execCounterOverflow (h : Keeps s t) {k : Nat} {sample : Word} :
    Answers s (execCounterOverflow k sample t) :=
  .next (.ite (have h1 := Keeps.ite h.fields.wr h.fields; .ite h1 h1.setBit.raise) h)

theorem Keeps.takeSheet (h : Keeps s t) : Keeps s t.takeSheet :=
  have h1 := ((h.foldl fun _ k => k.wr).foldl fun _ k => k.wr).wr.put
  (Keeps.ite (h1.countWrap.foldl fun _ k => k.wr) h1.countWrap).raise.fields

theorem Keeps.runSheet (h : Keeps s t) {p : Packet} : Keeps s (t.runSheet p) := h.takeSheet.finish

theorem Keeps.execContactSheet (h : Keeps s t) {packet : Option Packet} : Answers s (execContactSheet packet t) := by
  unfold Machine.execContactSheet
  refine .next ?_
  split
  · exact .ite h.takeSheet h
  · exact h.command fun k => k.runSheet

theorem Keeps.execBandwidthWindowEnd (h : Keeps s t) {w : Nat} : Answers s (execBandwidthWindowEnd w t) :=
  .next (.ite h.wr.wr.fields h)

theorem Keeps.execTransientRate (h : Keeps s t) {n : Nat} : Answers s (execTransientRate n t) :=
  .next (.ite h.fields.raise h)

theorem Keeps.perfTick (h : Keeps s t) : Keeps s t.perfTick := .ite h.fields h

theorem Keeps.applyPerf (h : Keeps s t) {a : Nat} {v : Word} : Keeps s (t.applyPerf a v) :=
  .ite h.wrRw (.ite h.wrRw.wr (.ite h.wrRw.setBit.fields h.wrRw))

/-! ### Operations of Machine/Sys -/

theorem Keeps.setSys (h : Keeps s t) {v : SysSt} : Keeps s (t.setSys v) := h.fields

theorem Keeps.needReset (h : Keeps s t) {c : Nat} : Keeps s (t.needReset c) := h.setSys

theorem Keeps.dropFabLinks (h : Keeps s t) : Keeps s t.dropFabLinks := h.foldl fun _ k => .ite k.dropLink k

theorem Keeps.dropEthLinks (h : Keeps s t) : Keeps s t.dropEthLinks := h.ethDown.ethDown

theorem Keeps.gateClocks (h : Keeps s t) : Keeps s t.gateClocks :=
  have h1 := h.setBit.setBit
  have h2 := Keeps.ite h1 h1.dropEthLinks
  .ite h2 h2.dropFabLinks

theorem Keeps.stopClocks (h : Keeps s t) : Keeps s t.stopClocks :=
  ((h.setBit.setBit.put.setBitBoth.foldl fun _ k => .ite k.runTb k).rejudge.foldl fun _ k =>
      k.staleInput).dropEthLinks.dropFabLinks

theorem Keeps.startClocks (h : Keeps s t) : Keeps s t.startClocks :=
  have h1 := h.setBit.setBit.gateClocks.put.foldl fun _ k => k.phaseChange
  .ite h1.fields h1

theorem Keeps.execPllUnlock (h : Keeps s t) : Answers s (execPllUnlock t) :=
  .next (.ite (have h1 := h.setBit.raise; .ite h1.needReset h1.setSys) h)

theorem Keeps.execRelockStart (h : Keeps s t) : Answers s (execRelockStart t) := .next (.ite h.stopClocks.setSys h)

theorem Keeps.execPllLock (h : Keeps s t) : Answers s (execPllLock t) :=
  .next (.ite h (h.setSys.takeItems fun k _ _ => k.wrRw).startClocks.raise.countUp.closeFixes)

theorem Keeps.execRelockTimeout (h : Keeps s t) : Answers s (execRelockTimeout t) := by
  unfold Machine.execRelockTimeout
  dsimp only
  refine .next (.ite h ?_)
  split
  · exact h
  · exact h.setSys
  · exact h.raiseLasting.setSys.needReset

theorem Keeps.execRefclkLost (h : Keeps s t) : Answers s (execRefclkLost t) := .next h.needReset

theorem Keeps.execRefclkPresent (h : Keeps s t) : Answers s (execRefclkPresent t) := .next (.ite h.setSys h)

theorem Keeps.applySys (h : Keeps s t) {a : Nat} {v : Word} : Keeps s (t.applySys a v) :=
  .ite h.wrRw.gateClocks h.wrRw

theorem Keeps.powerFail (h : Keeps s t) : Keeps s t.powerFail :=
  h.setBit.setBit.setSys.busUpdate.raise.put.dropEthLinks.dropFabLinks

theorem Keeps.execVsysFail (h : Keeps s t) : Answers s (execVsysFail t) := .next (.ite h h.powerFail)

theorem Keeps.execHoldupEnd (h : Keeps s t) {duration vmin : Nat} : Answers s (execHoldupEnd duration vmin t) :=
  .next (.ite h.wr.setSys h)

theorem Keeps.execVsysHigh (h : Keeps s t) : Answers s (execVsysHigh t) := .next (.ite h h.setSys.raise)

theorem Keeps.execRailOutOfWindow (h : Keeps s t) : Answers s (execRailOutOfWindow t) := .next h.needReset

theorem Keeps.execReverseBlocked (h : Keeps s t) : Answers s (execReverseBlocked t) := .next (.ite h.setSys.raise h)

theorem Keeps.execRbGateDrive (h : Keeps s t) : Answers s (execRbGateDrive t) := .next h.setSys

theorem Keeps.execVbatMeasure (h : Keeps s t) {mv : Nat} : Answers s (execVbatMeasure mv t) :=
  .next (.ite (have h1 := h.put.setSys; .ite h1.setBit.raise h1.setBit) h)

theorem Keeps.execVaultBrownOut (h : Keeps s t) : Answers s (execVaultBrownOut t) := .next h.setSys

theorem Keeps.execRtcWrite (h : Keeps s t) : Answers s (execRtcWrite t) := by
  unfold Machine.execRtcWrite
  cases t.wholeSecond with
  | none => exact .next h
  | some n => exact .next (.ite h.wr.wr.setSys h)

theorem Keeps.rtcTick (h : Keeps s t) : Keeps s t.rtcTick := h.setSys.wr.put.put

theorem Keeps.requestReset (h : Keeps s t) : Keeps s t.requestReset := h.setSys

theorem Keeps.execResetEntry (h : Keeps s t) : Answers s (execResetEntry t) := by
  unfold Machine.execResetEntry
  dsimp only
  refine .next ?_
  split
  · exact h.setSys.busUpdate.takeRecord
  · exact h

theorem Keeps.showVault (h : Keeps s t) : Keeps s t.showVault := h.fields

/-- A reset keeps the registers of the vault domain and the waiting commands, and counts ticks from 0 (R530). -/
theorem State.afterReset_keeps (s : State) (c : Nat) : Keeps { s with tick := 0 } (s.afterReset c) := by
  unfold State.afterReset
  extract_lets _ _ _ _ _ _ _ _ _ s1 s2 s3 s4
  have h1 : Keeps { s with tick := 0 } s1 := ⟨fun _ => rfl, fun w => sparseWf_filter _ w, rfl, rfl⟩
  have h3 : Keeps { s with tick := 0 } s3 := h1.wr.setBit.put.put
  exact h3.setBit.setBit.setBit.showVault

theorem execResetAssert_next (e : execResetAssert s = .next t) : Keeps s t ∨ Keeps { s with tick := 0 } t := by
  unfold execResetAssert at e
  split at e
  · split at e
    · cases e
      exact .inl (.refl s)
    · cases e
      exact .inr (s.afterReset_keeps _)
  · cases e
    exact .inl (.refl s)

theorem Keeps.execPowerGood (h : Keeps s t) {cold : Bool} : Answers s (execPowerGood cold t) :=
  .next (.ite (have h1 := h.setSys.setBit; .ite h1.wr h1) h)

/-! ### Operations of Machine/Sec -/

theorem Keeps.setSec (h : Keeps s t) {v : SecSt} : Keeps s (t.setSec v) := h.fields

theorem Keeps.setImage (h : Keeps s t) {v : ImageSt} : Keeps s (t.setImage v) := h.setSec

theorem Keeps.setSlot (h : Keeps s t) {k b : Nat} {l : List Byte} : Keeps s (t.setSlot k b l) := h.setImage

theorem Keeps.setOwner (h : Keeps s t) {i : Nat} {v : Owner} : Keeps s (t.setOwner i v) := h.setSec

theorem Keeps.runImageBegin (h : Keeps s t) {p : Packet} : Keeps s (t.runImageBegin p) :=
  .ite h.finish (.ite h.finish (.ite h.finish h.setImage.setBit.pend))

theorem Keeps.execImageBegin (h : Keeps s t) {p : Packet} : Answers s (execImageBegin p t) :=
  .next (h.command fun k => k.runImageBegin)

theorem Keeps.execImageEraseDone (h : Keeps s t) : Answers s (execImageEraseDone t) := by
  unfold Machine.execImageEraseDone
  dsimp only
  refine .next ?_
  split
  · exact .ite h.setSlot.setImage.finishLate h
  · exact h

theorem Keeps.runImageData (h : Keeps s t) {p : Packet} : Keeps s (t.runImageData p) := by
  unfold State.runImageData
  dsimp only
  split
  · exact .ite h.finish (.ite h.finish h.setSlot.setImage.finish)
  · exact h.finish

theorem Keeps.execImageData (h : Keeps s t) {p : Packet} : Answers s (execImageData p t) :=
  .next (h.command fun k => k.runImageData)

theorem Keeps.runCommit (h : Keeps s t) {p : Packet} : Keeps s (t.runCommit p) := by
  unfold State.runCommit
  dsimp only
  split
  · exact .ite h.finish (.ite h.finish h.setImage.pend)
  · exact h.finish

theorem Keeps.execImageCommit (h : Keeps s t) {p : Packet} : Answers s (execImageCommit p t) :=
  .next (h.command fun k => k.runCommit)

theorem Keeps.execImageCommitted (h : Keeps s t) {signature hash gcm : Bool} :
    Answers s (execImageCommitted signature hash gcm t) := by
  unfold Machine.execImageCommitted
  dsimp only
  refine .next ?_
  split
  · refine .ite h ?_
    split
    · exact h.setImage.setBit.setImage.raise.finishLate
    · exact h.setImage.setBit.finishLate
    · exact h.setImage.setBit.finishLate
    · exact h.setImage.setBit.finishLate
    · exact h.setImage.setBit.finishLate
  · exact h

theorem Keeps.runImageStatus (h : Keeps s t) {p : Packet} : Keeps s (t.runImageStatus p) := h.finish

theorem Keeps.execImageStatus (h : Keeps s t) {p : Packet} : Answers s (execImageStatus p t) :=
  .next (h.command fun k => k.runImageStatus)

theorem Keeps.runAuditRead (h : Keeps s t) {p : Packet} : Keeps s (t.runAuditRead p) := .ite h.finish h.finish

theorem Keeps.execAuditRead (h : Keeps s t) {p : Packet} : Answers s (execAuditRead p t) :=
  .next (h.command fun k => k.runAuditRead)

theorem Keeps.execAuditFlush (h : Keeps s t) : Answers s (execAuditFlush t) := .next (.ite h.setSec.raise h.setSec)

theorem Keeps.showOwners (h : Keeps s t) : Keeps s t.showOwners := h.put

theorem Keeps.showCreds (h : Keeps s t) : Keeps s t.showCreds := h.wr

theorem Keeps.faultCredential (h : Keeps s t) {i : Nat} : Keeps s (t.faultCredential i) :=
  h.foldl fun _ k => .ite k.endSession k

theorem Keeps.runCredential (h : Keeps s t) {p : Packet} : Keeps s (t.runCredential p) :=
  .ite (.ite h.finish (.ite h.finish h.setSec.showCreds.raise.finish.faultCredential)) (.ite (.ite (.ite h.finish
      (.ite h.finish h.setOwner.showOwners.raise.finish)) (.ite h.finish (.ite h.finish
      h.setOwner.showOwners.raise.finish))) h.finish)

theorem Keeps.execCredentialSet (h : Keeps s t) {p : Packet} : Answers s (execCredentialSet p t) :=
  .next (h.command fun k => k.runCredential)

theorem Keeps.runCert (h : Keeps s t) {p : Packet} : Keeps s (t.runCert p) := by
  unfold State.runCert
  dsimp only
  refine .ite h.finish (.ite h.finish ?_)
  split
  · exact h.finish
  · exact h.setSec.setBit.setBit.setBit.put.raise.finish

theorem Keeps.execCertModeSet (h : Keeps s t) {p : Packet} : Answers s (execCertModeSet p t) :=
  .next (h.command fun k => k.runCert)

theorem Keeps.tamperRecord (h : Keeps s t) {i level : Nat} : Keeps s (t.tamperRecord i level) :=
  have h1 := h.setSec.put.raise
  have h2 := Keeps.ite h1.setBit h1
  .ite h2 (.ite h2.needReset h2.setSys)

theorem Keeps.execTamper (h : Keeps s t) {i : Nat} {high : Bool} : Answers s (execTamper i high t) :=
  .next (.ite (.ite h.setBit.tamperRecord h.setBit) h)

theorem Keeps.runTamperClear (h : Keeps s t) {p : Packet} : Keeps s (t.runTamperClear p) :=
  .ite h.finish (have h1 := h.foldl fun _ k => .ite k.setBit k; .ite h1.finish.requestReset h1.finish)

theorem Keeps.execTamperClear (h : Keeps s t) {p : Packet} : Answers s (execTamperClear p t) :=
  .next (h.command fun k => k.runTamperClear)

/-! ### Operations of Machine/Transport -/

theorem Keeps.dropReplies (h : Keeps s t) {c : Nat} : Keeps s (t.dropReplies c) := h.setWaitingReplies.setRing.setFill

theorem Keeps.faultSessions (h : Keeps s t) {p : Nat → Bool} : Keeps s (t.faultSessions p) :=
  (h.foldl fun _ k => .ite k.endSession k).foldl fun _ k => k.dropReplies

theorem Keeps.writeWindow (h : Keeps s t) {c : Nat} {l : List (Nat × Word)} : Keeps s (t.writeWindow c l) :=
  h.foldl fun _ k => .ite k k.wr

theorem Keeps.execPcieLinkUp (h : Keeps s t) {gen width : Nat} : Answers s (execPcieLinkUp gen width t) :=
  .next (.ite h h.setBit.put.put)

theorem Keeps.advanceRq (h : Keeps s t) {c head : Nat} : Keeps s (t.advanceRq c head) := h.put.drainPcie

theorem Keeps.execPcieLinkReset (h : Keeps s t) {down : Bool} : Answers s (execPcieLinkReset down t) :=
  have h1 := h.faultSessions.filterRegs
  .next (.ite h1.put h1)

theorem Keeps.execBar2Write (h : Keeps s t) {a : Nat} {v : Word} : Answers s (execBar2Write a v t) :=
  .next (.ite h.countUp.raise (.ite h.wrBytes h))

theorem Keeps.execEthReassemblyTimeout (h : Keeps s t) {p key : Nat} : Answers s (execEthReassemblyTimeout p key t) :=
  .next (.ite h.setNet.countUp h)

theorem Keeps.execEthPortDownFault (h : Keeps s t) {p : Nat} : Answers s (execEthPortDownFault p t) :=
  .next (.ite h.faultSessions h)

theorem Keeps.setSpi (h : Keeps s t) {i : SpiSt} : Keeps s (t.setSpi i) := h.setNet

theorem Keeps.execSpiWrite (h : Keeps s t) {whole : Bool} : Answers s (execSpiWrite whole t) :=
  .next (.ite h.setSpi h)

theorem Keeps.execSpiRead (h : Keeps s t) {whole : Bool} : Answers s (execSpiRead whole t) := .next (.ite h.setSpi h)

theorem Keeps.execSpiInvalidType (h : Keeps s t) : Answers s (execSpiInvalidType t) := .next (.ite h.setSpi.countUp h)

theorem Keeps.spiEnd (h : Keeps s t) : Keeps s t.spiEnd := by
  unfold State.spiEnd
  dsimp only
  split
  · exact h.setSpi.countUp.raise
  · exact h.setSpi.sendReply
  · exact h.setSpi

theorem Keeps.execSpiFrameAborted (h : Keeps s t) : Answers s (execSpiFrameAborted t) :=
  .next (.ite h.setSpi.countUp.raise h)

theorem Keeps.applyHost (h : Keeps s t) {a : Nat} {v : Word} : Keeps s (t.applyHost a v) :=
  .ite h.wrRw.faultSessions h.wrRw

/-! ### Operations of Machine/Fix -/

theorem Keeps.fixAccept (h : Keeps s t) {op : Nat} {p : Packet} : Keeps s (t.fixAccept op p) := by
  unfold State.fixAccept
  dsimp only
  refine Keeps.startTables ?_
  split
  · exact .ite (h.fields.foldl fun _ k => k.addClaim).endDist (h.fields.foldl fun _ k => k.addClaim)
  · exact h.fields.foldl fun _ k => k.addClaim

theorem Keeps.runFix (h : Keeps s t) {p : Packet} : Keeps s (t.runFix p) := by
  unfold State.runFix
  split
  · exact h.finish
  · refine .ite h.finish ?_
    split
    · exact h.finish
    · exact h.pend.fixAccept

theorem Keeps.execCfgFix (h : Keeps s t) {p : Packet} : Answers s (execCfgFix p t) :=
  .next (h.command fun k => k.runFix)

theorem Keeps.applyItem (h : Keeps s t) {a : Nat} {v : Word} : Keeps s (t.applyItem a v) := by
  unfold State.applyItem
  split
  · exact h.applyConv
  · exact h.applyFilt
  · exact h.applyLane
  · exact h.applyLane
  · exact h.applyPwm
  · exact h.applyPwm
  · exact h.applyGate
  · exact h.applyCycle
  · exact h.applyMem
  · exact h.applyShut
  · exact h.applyHost
  · exact h.applyNet
  · exact h.applyFab
  · exact h.applySys
  · exact h.applyPerf
  · exact h.wrRw

theorem Keeps.applyNow (h : Keeps s t) : Keeps s t.applyNow :=
  (h.takeItems fun k _ _ => k.applyItem).showFilm.closeFixes

/-! ### Operations of Machine/Direct -/

theorem Keeps.redCommand (h : Keeps s t) {v : Word} : Keeps s (t.redCommand v) :=
  .ite h.fields (h.foldl fun _ k => .ite k.outOfStep k)

theorem Keeps.commandWrite (h : Keeps s t) {a : Nat} {v : Word} : Keeps s (t.commandWrite a v) := by
  unfold State.commandWrite
  refine .ite h.owTestStart (.ite h.redCommand (.ite h.clearTrip (.ite h.adjustTime (.ite h.setSeconds (.ite
      h.requestReset (.ite h.clearCounters ?_))))))
  split
  · exact h.canCommand
  · split
    · exact h.clearPort
    · exact h

theorem Keeps.clearBits (h : Keeps s t) {a : Nat} {v : Word} : Keeps s (t.clearBits a v) := by
  unfold State.clearBits
  split
  · exact h.clearPages
  · split
    · exact h.clearChannels
    · exact h.wr

set_option maxRecDepth 20000 in
theorem Keeps.writeReg (h : Keeps s t) {a : Nat} {v : Word} : Keeps s (t.writeReg a v) := by
  unfold State.writeReg
  split
  · exact h
  · split
    · exact h.commandWrite
    · exact h.clearBits
    · exact h

theorem Keeps.writeWord (h : Keeps s t) {ctx a : Nat} {v : Word} : Keeps s (t.writeWord ctx a v) := by
  unfold State.writeWord
  split
  · exact h.wrBytes
  · exact h.writeReg
  · exact h.writeHost
  · exact h

theorem Keeps.writeWords (h : Keeps s t) {ctx a : Nat} {vs : List Word} : Keeps s (t.writeWords ctx a vs) := by
  induction vs generalizing t a with
  | nil => exact h
  | cons v vs ih => exact ih h.writeWord

theorem Keeps.runMemWrite (h : Keeps s t) {p : Packet} {corrected : Nat} : Keeps s (t.runMemWrite p corrected) := by
  unfold State.runMemWrite
  dsimp only
  refine .ite h.finish ?_
  split
  · exact h.translationFault.discardFlight
  · exact h.finish
  · exact h.finish
  · exact h.finish
  · exact h.countEcc.writeWords.finish

theorem Keeps.memWrite (h : Keeps s t) {p : Packet} {corrected : Nat} : Keeps s (t.memWrite p corrected) :=
  h.command fun k => k.runMemWrite

theorem Keeps.execMemWrite (h : Keeps s t) {p : Packet} {corrected : Nat} : Answers s (execMemWrite p corrected t) :=
  .next h.memWrite

theorem Keeps.directRow (h : Keeps s t) {p : Packet} {f : Nat → Word → Bool} : Keeps s (t.directRow p f) :=
  .ite h.memWrite h

theorem Keeps.execConvOwTest (h : Keeps s t) {p : Packet} : Answers s (execConvOwTest p t) := .next h.directRow

theorem Keeps.execLaneChangeCmd (h : Keeps s t) {p : Packet} : Answers s (execLaneChangeCmd p t) := .next h.directRow

theorem Keeps.execLaneResyncCmd (h : Keeps s t) {p : Packet} : Answers s (execLaneResyncCmd p t) := .next h.directRow

theorem Keeps.execTripClear (h : Keeps s t) {p : Packet} : Answers s (execTripClear p t) := .next h.directRow

theorem Keeps.execBadpageClear (h : Keeps s t) {p : Packet} : Answers s (execBadpageClear p t) := .next h.directRow

theorem Keeps.execDmaFaultClear (h : Keeps s t) {p : Packet} : Answers s (execDmaFaultClear p t) := .next h.directRow

theorem Keeps.execTimeAdjStep (h : Keeps s t) {p : Packet} : Answers s (execTimeAdjStep p t) := .next h.directRow

theorem Keeps.execTimeAdjSlew (h : Keeps s t) {p : Packet} : Answers s (execTimeAdjSlew p t) := .next h.directRow

theorem Keeps.execTimeSetSeconds (h : Keeps s t) {p : Packet} : Answers s (execTimeSetSeconds p t) :=
  .next h.directRow

theorem Keeps.execCanRestart (h : Keeps s t) {p : Packet} : Answers s (execCanRestart p t) := .next h.directRow

theorem Keeps.execCanAbort (h : Keeps s t) {p : Packet} : Answers s (execCanAbort p t) := .next h.directRow

theorem Keeps.execPortClear (h : Keeps s t) {p : Packet} : Answers s (execPortClear p t) := .next h.directRow

theorem Keeps.execResetRequest (h : Keeps s t) {p : Packet} : Answers s (execResetRequest p t) := .next h.directRow

theorem Keeps.execPerfClear (h : Keeps s t) {p : Packet} : Answers s (execPerfClear p t) := .next h.directRow

theorem Keeps.execRegisterWrite (h : Keeps s t) {p : Packet} : Answers s (execRegisterWrite p t) := .next h.directRow

/-! ### Operations of Machine/ModeRows -/

theorem Keeps.execMeasInvalidLimit (h : Keeps s t) {l : Nat} : Answers s (execMeasInvalidLimit l t) :=
  .next (.ite h.setLaw.raiseLane.withholdSample.safelight h)

theorem Keeps.execHoldExpired (h : Keeps s t) {l : Nat} : Answers s (execHoldExpired l t) :=
  .next (.ite (have h1 := h.setLaw.raiseLane; .ite h1.withholdSample.safelight h1) h)

theorem Keeps.execGateEnableRequestFall (h : Keeps s t) : Answers s (execGateEnableRequestFall t) :=
  .next (.ite h.setStage.busUpdate h)

theorem Keeps.execRideThroughExit (h : Keeps s t) : Answers s (execRideThroughExit t) := .next (.ite h.goMode h)

theorem Keeps.execRideThroughExpired (h : Keeps s t) : Answers s (execRideThroughExpired t) :=
  .next (.ite h.endLate.raiseLane.withholdSample (.ite h.raiseLane.withholdSample.safelight h))

theorem Keeps.execPrechargeDone (h : Keeps s t) : Answers s (execPrechargeDone t) :=
  .next (.ite h.setModeBit.setWait.disown.showOwned.raiseLane h)

theorem Keeps.execPrechargeTimeout (h : Keeps s t) : Answers s (execPrechargeTimeout t) :=
  .next (.ite h.endLate.raiseLane (.ite h.setWait.raiseLane.safelight (.ite h.raiseLane.setTarget h)))

theorem Keeps.execDcLinkLost (h : Keeps s t) : Answers s (execDcLinkLost t) :=
  .next (.ite h.endLate.raiseLane (.ite (have h1 := h.setModeBit.raiseLane; .ite h1.safelight h1) h))

theorem Keeps.execBusDead (h : Keeps s t) : Answers s (execBusDead t) :=
  .next (.ite h.fields.setModeBit.raiseLane.tellDead h)

theorem Keeps.execBusLive (h : Keeps s t) : Answers s (execBusLive t) :=
  .next (.ite h.setModeBit.raiseLane.tellLive h)

theorem Keeps.execRouteTimeout (h : Keeps s t) : Answers s (execRouteTimeout t) :=
  .next (.ite h.raiseLane.setTarget h)

theorem Keeps.execSyncTimeout (h : Keeps s t) : Answers s (execSyncTimeout t) := .next (.ite h.raiseLane.goMode h)

theorem Keeps.execBlackStartRampComplete (h : Keeps s t) : Answers s (execBlackStartRampComplete t) :=
  .next (.ite h.goMode h)

theorem Keeps.stopOpen (h : Keeps s t) : Keeps s t.stopOpen := h.setStop.issueOpen

theorem Keeps.execUnloadComplete (h : Keeps s t) : Answers s (execUnloadComplete t) := .next (.ite h.stopOpen h)

theorem Keeps.execUnloadTimeout (h : Keeps s t) : Answers s (execUnloadTimeout t) :=
  .next (.ite (have h1 := h.setStop.raiseLane; .ite h1.stopOpen h1) h)

theorem Keeps.execBrkFbChange (h : Keeps s t) {closed : Bool} : Answers s (execBrkFbChange closed t) :=
  .next (.ite h.setBrk.setModeBit (.ite h h.setBrk.setModeBit))

theorem Keeps.execBreakerFail (h : Keeps s t) : Answers s (execBreakerFail t) :=
  .next (.ite h.endLate.raiseLane (.ite h.raiseLane.setBrk.issueOpen (.ite (have h1 := h.raiseLane.setModeBit; .ite
      h1.safelight h1) h)))

theorem Keeps.execSecondaryLost (h : Keeps s t) : Answers s (execSecondaryLost t) := .next (.ite h.fields.raiseLane h)

/-! ### Operations of Machine/Front -/

theorem Keeps.runLow (h : Keeps s t) {op : Nat} {p : Packet} {aid : Aid} : Keeps s (t.runLow op p aid) := by
  unfold State.runLow
  dsimp only
  split
  · exact h.finish
  · exact .ite h.runAuth2 h.runAuth1
  · exact h.runClose
  · exact h.runKeepalive
  · exact h.runInfo
  · exact h.runCfgRead
  · exact h.runCfgWrite
  · exact h.runFix
  · exact h.runDiscard
  · exact h.runTake
  · exact h.runRelease
  · exact h.runSetCoef
  · exact h.runHold
  · exact h.runLawRelease
  · exact h.runProfileMove
  · exact h.runModeSet
  · exact h.runLoad
  · exact h.runStart
  · exact h.runPrgStop
  · exact h.runForceSet
  · exact h.runForceClear
  · exact h

theorem Keeps.runMid (h : Keeps s t) {op : Nat} {p : Packet} {aid : Aid} : Keeps s (t.runMid op p aid) := by
  unfold State.runMid
  split
  · exact h.runOrder
  · exact h.runOrder
  · exact h.runOrder
  · exact h.runShutRelease
  · exact h.runShutStatus
  · split
    · exact h.runMemRead
    · exact h
  · split
    · exact h.runMemWrite
    · exact h
  · exact h.runMap
  · exact h.runUnmap
  · exact h.runDmaStart
  · exact h.runDmaAbort
  · exact h.runDmaStatus
  · exact h.runStatusRead
  · exact h.runSubscribe
  · exact h.runUnsubscribe
  · exact h.runCounterRead
  · exact h.runSheet
  · exact h

theorem Keeps.runHigh (h : Keeps s t) {op : Nat} {p : Packet} {aid : Aid} : Keeps s (t.runHigh op p aid) := by
  unfold State.runHigh
  split
  · exact h.runFabStatus
  · exact h.runNodeRead
  · exact h.runSurvey
  · exact h.runSwap
  · exact h.runImageBegin
  · exact h.runImageData
  · exact h.runCommit
  · exact h.runImageStatus
  · exact h.runAuditRead
  · exact h.runCredential
  · exact h.runCert
  · exact h.runTamperClear
  · exact h.runSafeStatus
  · exact h.runParamRead
  · exact h.runArm
  · exact h.runConfirm
  · exact h

theorem Keeps.runOp (h : Keeps s t) {op : Nat} {p : Packet} {aid : Aid} : Keeps s (t.runOp op p aid) :=
  .ite h.runLow (.ite h.runMid h.runHigh)

theorem Keeps.startHeld (h : Keeps s t) : Keeps s t.startHeld := h.foldl fun _ k => .ite k.fields.popUnit.runOp k

theorem Keeps.execFixApplied (h : Keeps s t) : Answers s (execFixApplied t) := .next (.ite h h.applyNow.startHeld)

theorem Keeps.execPcieDoorbell (h : Keeps s t) {c : Nat} {setup : List (Nat × Word)} {tail : Nat} :
    Answers s (execPcieDoorbell c setup tail t) :=
  .next (.ite (have h1 := h.writeWindow.wr; (Keeps.ite h1.put h1).drainPcie.startHeld) h)

theorem Keeps.execPcieRqHeadWrite (h : Keeps s t) {c head : Nat} : Answers s (execPcieRqHeadWrite c head t) :=
  .next (.ite h.advanceRq.startHeld h)

theorem Keeps.execSpiCsRise (h : Keeps s t) : Answers s (execSpiCsRise t) := .next h.spiEnd.startHeld

theorem Keeps.execEthFrameSent (h : Keeps s t) {p what dt : Nat} {tsReq last : Bool} :
    Answers s (execEthFrameSent p what dt tsReq last t) :=
  .next (.ite h.frameSent.startHeld h)

theorem Keeps.endPassed (h : Keeps s t) : Keeps s t.endPassed := h.foldl fun _ k => .ite k.endLease k

theorem Keeps.programPassed (h : Keeps s t) : Keeps s t.programPassed :=
  (h.foldl fun _ k => k.programWatchdog).hostLinkLost

theorem Keeps.leaseTick (h : Keeps s t) : Keeps s t.leaseTick := h.foldl fun _ k => .ite k.put k

theorem Keeps.retryTick (h : Keeps s t) : Keeps s t.retryTick := by
  refine h.foldl fun c k => ?_
  split
  · exact k.setGch
  · exact k

theorem Keeps.measure (h : Keeps s t) {vsys vin temp : Nat} : Keeps s (t.measure vsys vin temp) :=
  (Keeps.ite h.wr.fields h.wr).put.put

/-- The module tick that counts is the one thing MODULE_TICK does not keep. -/
theorem Keeps.tickWork (h : Keeps s t) {vsys vin temp : Nat} :
    Keeps { s with tick := s.tick + 1 } (t.tickWork vsys vin temp) := by
  unfold State.tickWork
  extract_lets s1 s2 s3 s4
  have h1 : Keeps s s1 := h.finishHold.endPassed.idlePassed.timeoutPassed.programPassed
  have h2 : Keeps { s with tick := s.tick + 1 } s2 := h1.nextTick
  have h3 : Keeps { s with tick := s.tick + 1 } s3 :=
    (h2.takeItems fun k _ _ => k.applyItem).loadEnabled.closeFixes
  exact h3.advanceTime.tcUpdate.leaseTick.retryTick.showSource.perfTick.showMarks.rtcTick.measure.countSource

/-- MODULE_TICK before start-up step 2 changes nothing; each later one counts. -/
theorem execModuleTick_next {vsys vin temp : Nat} (e : execModuleTick vsys vin temp s = .next t) :
    Keeps s t ∨ Keeps { s with tick := s.tick + 1 } t := by
  unfold Machine.execModuleTick at e
  split at e
  · cases e
    exact .inl (.refl s)
  · cases e
    exact .inr (Keeps.refl s).tickWork.startHeld

/-! ### Operations of Machine/Boot -/

theorem Keeps.bootSupplies (h : Keeps s t) {x : BootChecks} : Keeps s (State.bootSupplies x t).1 := by
  unfold State.bootSupplies
  dsimp only
  split
  · exact h.setSys.setBit
  · exact h

theorem Keeps.bootClocks (h : Keeps s t) {x : BootChecks} : Keeps s (State.bootClocks x t).1 := by
  unfold State.bootClocks
  split
  · exact h.startClocks
  · exact h

theorem Keeps.loseVault (h : Keeps s t) : Keeps s t.loseVault := by
  unfold State.loseVault
  exact h.setSec.fields.put.wr.wr.wr.put.setSys.raise.tamperRecord.raise

theorem Keeps.timeFromRtc (h : Keeps s t) : Keeps s t.timeFromRtc := h.setTime.put

theorem Keeps.barOwners (h : Keeps s t) : Keeps s t.barOwners := h.setSec

theorem Keeps.bootVault (h : Keeps s t) {x : BootChecks} : Keeps s (State.bootVault x t).1 :=
  have h1 := (Keeps.ite h.loseVault h).barOwners.setBit.timeFromRtc
  .ite h1.setSys.needReset h1

theorem Keeps.pickImage (h : Keeps s t) {x : BootChecks} {k : Nat} : Keeps s (State.pickImage x t k).1 := by
  unfold State.pickImage
  dsimp only
  split
  · exact h
  · split
    · dsimp only
      exact h.setImage.raise
    · exact h

theorem Keeps.useImage (h : Keeps s t) {k : Nat} : Keeps s (t.useImage k) := h.setImage

theorem Keeps.bootImage (h : Keeps s t) {x : BootChecks} : Keeps s (State.bootImage x t).1 := by
  unfold State.bootImage
  dsimp only
  split
  · exact h.setSys
  · split
    · exact h.pickImage.useImage.showCreds.showOwners
    · exact h.pickImage.showCreds.showOwners

theorem Keeps.showTable (h : Keeps s t) {i : List Byte} : Keeps s (t.showTable i) := h.foldl fun _ k => .ite k.wr k

theorem Keeps.restoreLockout (h : Keeps s t) : Keeps s t.restoreLockout := .ite h.put (.ite h.put h)

theorem Keeps.startSubs (h : Keeps s t) : Keeps s t.startSubs := h.foldl fun _ k => k.setRxState

theorem Keeps.releaseSafe (h : Keeps s t) {i : List Byte} {lost : Bool} : Keeps s (t.releaseSafe i lost) :=
  have h1 := h.showTable.startSubs.restoreLockout
  (Keeps.ite h1.latchLockout h1).setDiag.showLattice.showProc

theorem Keeps.startSafe (h : Keeps s t) {x : BootChecks} {lost : Bool} : Keeps s (State.startSafe x lost t).1 := by
  unfold State.startSafe
  dsimp only
  split
  · split
    · exact h.setBit.pickImage.useImage.setBit.wr.wr.restoreLockout.latchLockout
    · split
      · exact h.setBit.pickImage.useImage.setBit.wr.wr.latticeTested.releaseSafe
      · exact h.setBit.pickImage.useImage.setBit.wr.wr.latticeTested
  · exact h.setBit.pickImage.restoreLockout.latchLockout

theorem Keeps.bootSafe (h : Keeps s t) {x : BootChecks} {lost : Bool} : Keeps s (State.bootSafe x lost t).1 :=
  h.startSafe.showMirror

theorem Keeps.failBoot (h : Keeps s t) {l : Nat} : Keeps s (t.failBoot l) := h.setRed.setBit.countUp

theorem Keeps.bootRom (h : Keeps s t) {x : BootChecks} : Keeps s (State.bootRom x t).1 := by
  unfold State.bootRom
  split
  · exact h.setBit
  · dsimp only
    exact h.raiseTransient.setBit
  · dsimp only
    exact h.raiseLasting

theorem Keeps.bootSelfTest (h : Keeps s t) {x : BootChecks} : Keeps s (State.bootSelfTest x t).1 := by
  have h1 : Keeps s ((({ t with mem := [] } : State).setBit Reg.memStatus 0 true).put Reg.memStatus 2 6 63) :=
    h.clearMem.setBit.put
  unfold State.bootSelfTest
  split
  · exact h
  · exact (Keeps.ite (Keeps.ite h1.put h1.put.failBoot) (Keeps.ite h1.put h1.put.failBoot).failBoot).bootRom

theorem Keeps.setUpSystem (h : Keeps s t) : Keeps s t.setUpSystem :=
  (h.foldl fun _ k => k.setBit.setBit).foldl fun _ k => k.addClaim

theorem Keeps.refuseConfig (h : Keeps s t) {f : Status × List Byte} : Keeps s (t.refuseConfig f) :=
  h.fields.raise.audit

theorem Keeps.fixStored (h : Keeps s t) {pairs : List (Nat × Word)} : Keeps s (t.fixStored pairs) := by
  unfold State.fixStored
  dsimp only
  split
  · exact h.refuseConfig
  · split
    · exact h.fields.refuseConfig
    · exact h.fields.fixAccept.applyNow.useImage

theorem Keeps.bootConfig (h : Keeps s t) {x : BootChecks} : Keeps s (State.bootConfig x t).1 :=
  .ite h.setUpSystem.pickImage.fixStored h.setUpSystem.pickImage.refuseConfig

/-- Each of `fs` is a step of R525. -/
theorem Keeps.bootSteps (h : Keeps s t) {k : Nat} {fs : List (State → State × Bool)}
    (hf : ∀ f ∈ fs, ∀ {v}, Keeps s v → Keeps s (f v).1) : Keeps s (t.bootSteps k fs) := by
  induction fs generalizing t k with
  | nil => exact h
  | cons f fs ih =>
    have h1 : Keeps s (f (t.put Reg.sysBoot 0 4 k)).1 := hf f List.mem_cons_self h.put
    exact .ite (ih h1 fun g hg => hf g (List.mem_cons_of_mem _ hg)) (.ite h1 h1.setBit)

theorem Keeps.execStartUp (h : Keeps s t) {checks : BootChecks} : Answers s (execStartUp checks t) := by
  refine .next (.ite (h.bootSteps fun f hf => ?_) h)
  simp only [List.mem_cons, List.not_mem_nil, or_false] at hf
  obtain rfl | rfl | rfl | rfl | rfl | rfl | rfl | rfl := hf
  · exact fun k => k.bootSupplies
  · exact fun k => k.bootClocks
  · exact fun k => k.bootVault
  · exact fun k => k.bootImage
  · exact fun k => k.bootSafe
  · exact fun k => k.bootSelfTest
  · exact fun k => k.bootConfig
  · exact id

theorem Keeps.advanceRollback (h : Keeps s t) : Keeps s t.advanceRollback := h.foldl fun _ k => .ite k.put.raise k

theorem Keeps.auditTampers (h : Keeps s t) : Keeps s t.auditTampers := h.setSec.foldl fun _ k => k.audit

theorem Keeps.startLanes (h : Keeps s t) : Keeps s t.startLanes := .ite h.takeToken h.takeToken.setBit.outOfStep

theorem Keeps.bootDone (h : Keeps s t) {ms : Nat} : Keeps s (t.bootDone ms) :=
  h.put.put.setBit.raise.startLanes.setTarget.advanceRollback.auditTampers.fields

theorem Keeps.execStartupDone (h : Keeps s t) {ms : Nat} : Answers s (execStartupDone ms t) :=
  .next (.ite h.bootDone h)

/-! ### Every row -/

/-- Every row but MODULE_TICK, which counts, and RESET_ASSERT, which counts from 0 again. -/
theorem exec_answers (s : State) (c : Instr) (hm : ∀ vsys vin temp, c ≠ .moduleTick vsys vin temp)
    (hr : c ≠ .resetAssert) : Answers s (exec c s) := by
  have h := Keeps.refl s
  cases c with
  | moduleTick vsys vin temp => exact absurd rfl (hm vsys vin temp)
  | internal1usBoundary => exact h.execInternal1usBoundary
  | samplingTrigger => exact h.execSamplingTrigger
  | conversionComplete => exact h.execConversionComplete
  | openWire => exact h.execOpenWire
  | openWireClear => exact h.execOpenWireClear
  | convOwTest => exact h.execConvOwTest
  | owTestWindowEnd => exact h.execOwTestWindowEnd
  | spareCalibrationDone => exact h.execSpareCalibrationDone
  | spareComparisonDone => exact h.execSpareComparisonDone
  | bitstreamStale => exact h.execBitstreamStale
  | bitstreamResumed => exact h.execBitstreamResumed
  | bitstreamWindowEnd => exact h.execBitstreamWindowEnd
  | settlingEnd => exact h.execSettlingEnd
  | thresholdAssert => exact h.execThresholdAssert
  | groupSampleComplete => exact h.execGroupSampleComplete
  | groupSampleWritten => exact h.execGroupSampleWritten
  | sampleSchedule => exact h.execSampleSchedule
  | measInvalidLimit => exact h.execMeasInvalidLimit
  | holdExpired => exact h.execHoldExpired
  | gateEnableRequestFall => exact h.execGateEnableRequestFall
  | rideThroughExit => exact h.execRideThroughExit
  | rideThroughExpired => exact h.execRideThroughExpired
  | prechargeDone => exact h.execPrechargeDone
  | prechargeTimeout => exact h.execPrechargeTimeout
  | dcLinkLost => exact h.execDcLinkLost
  | busDead => exact h.execBusDead
  | busLive => exact h.execBusLive
  | routeTimeout => exact h.execRouteTimeout
  | syncTimeout => exact h.execSyncTimeout
  | blackStartRampComplete => exact h.execBlackStartRampComplete
  | unloadComplete => exact h.execUnloadComplete
  | unloadTimeout => exact h.execUnloadTimeout
  | brkFbChange => exact h.execBrkFbChange
  | breakerFail => exact h.execBreakerFail
  | secondaryLost => exact h.execSecondaryLost
  | lawSetCoef => exact h.execLawSetCoef
  | lawHold => exact h.execLawHold
  | lawRelease => exact h.execLawRelease
  | profileMove => exact h.execProfileMove
  | modeSet => exact h.execModeSet
  | activeLaneFailed => exact h.execActiveLaneFailed
  | laneLinkWatchdog => exact h.execLaneLinkWatchdog
  | laneRecoveryStart => exact h.execLaneRecoveryStart
  | laneRecovered => exact h.execLaneRecovered
  | resyncCopy => exact h.execResyncCopy
  | laneResyncDone => exact h.execLaneResyncDone
  | laneChangeCmd => exact h.execLaneChangeCmd
  | laneResyncCmd => exact h.execLaneResyncCmd
  | generatorEpoch => exact h.execGeneratorEpoch
  | timebaseZeroPoint => exact h.execTimebaseZeroPoint
  | updatePoint => exact h.execUpdatePoint
  | tripSourceAssert => exact h.execTripSourceAssert
  | blankingWindowClose => exact h.execBlankingWindowClose
  | tripClear => exact h.execTripClear
  | gateCommandChange => exact h.execGateCommandChange
  | interlockGapEnd => exact h.execInterlockGapEnd
  | gatePhaseEnd => exact h.execGatePhaseEnd
  | gateEnableChange => exact h.execGateEnableChange
  | forcedRefresh => exact h.execForcedRefresh
  | sc => exact h.execSc
  | supplyUv => exact h.execSupplyUv
  | overtemp => exact h.execOvertemp
  | retryWaitEnd => exact h.execRetryWaitEnd
  | safetyTick => exact h.execSafetyTick
  | inputDiscrepancy => exact h.execInputDiscrepancy
  | latticeDemand => exact h.execLatticeDemand
  | latticeTest => exact h.execLatticeTest
  | heartbeatLost => exact h.execHeartbeatLost
  | lockstepMismatch => exact h.execLockstepMismatch
  | processorRestartDone => exact h.execProcessorRestartDone
  | soutTestPulse => exact h.execSoutTestPulse
  | safeFrameReceived => exact h.execSafeFrameReceived
  | degradedWindowExpiry => exact h.execDegradedWindowExpiry
  | localReset => exact h.execLocalReset
  | resetDiscrepancy => exact h.execResetDiscrepancy
  | lockoutArm => exact h.execLockoutArm
  | lockoutConfirm => exact h.execLockoutConfirm
  | armExpired => exact h.execArmExpired
  | safeStatus => exact h.execSafeStatus
  | safeParamRead => exact h.execSafeParamRead
  | taskStartPoint => exact h.execTaskStartPoint
  | programWatchdog => exact h.execProgramWatchdog
  | dispatchGrant => exact h.execDispatchGrant
  | blockCallComplete => exact h.execBlockCallComplete
  | errorTaskRun => exact h.execErrorTaskRun
  | prgLoad => exact h.execPrgLoad
  | prgStart => exact h.execPrgStart
  | prgStop => exact h.execPrgStop
  | programStopped => exact h.execProgramStopped
  | forceSet => exact h.execForceSet
  | forceClear => exact h.execForceClear
  | keyChange => exact h.execKeyChange
  | hostLinkLost => exact h.execHostLinkLost
  | uncorrectableError => exact h.execUncorrectableError
  | retryResult => exact h.execRetryResult
  | scrubAccess => exact h.execScrubAccess
  | badpageClear => exact h.execBadpageClear
  | badpageClearDone => exact h.execBadpageClearDone
  | bankGrant => exact h.execBankGrant
  | filmWrite => exact h.execFilmWrite
  | faultRecordWrite => exact h.execFaultRecordWrite
  | memRead => exact h.execMemRead
  | memWrite => exact h.execMemWrite
  | memMap => exact h.execMemMap
  | memUnmap => exact h.execMemUnmap
  | dmaStart => exact h.execDmaStart
  | dmaAbort => exact h.execDmaAbort
  | dmaStatus => exact h.execDmaStatus
  | dmaBurst => exact h.execDmaBurst
  | dmaFaultClear => exact h.execDmaFaultClear
  | descriptorAllocation => exact h.execDescriptorAllocation
  | ringHeadAdvance => exact h.execRingHeadAdvance
  | shutterSample => exact h.execShutterSample
  | patternTrigger => exact h.execPatternTrigger
  | recordClosed => exact h.execRecordClosed
  | shutterArm => exact h.execShutterArm
  | shutterStop => exact h.execShutterStop
  | shutterTrigger => exact h.execShutterTrigger
  | shutterRelease => exact h.execShutterRelease
  | shutterStatus => exact h.execShutterStatus
  | invalidPacket => exact h.execInvalidPacket
  | duplicatePacket => exact h.execDuplicatePacket
  | sessionOpen => exact h.execSessionOpen
  | sessionAuthPhase1 => exact h.execSessionAuthPhase1
  | sessionAuthPhase2 => exact h.execSessionAuthPhase2
  | sessionClose => exact h.execSessionClose
  | sessionKeepalive => exact h.execSessionKeepalive
  | sessionInfo => exact h.execSessionInfo
  | sessionIdleClose => exact h.execSessionIdleClose
  | commandTimeout => exact h.execCommandTimeout
  | cfgRead => exact h.execCfgRead
  | cfgWrite => exact h.execCfgWrite
  | cfgFix => exact h.execCfgFix
  | fixApplied => exact h.execFixApplied
  | cfgDiscard => exact h.execCfgDiscard
  | leaseTake => exact h.execLeaseTake
  | leaseRelease => exact h.execLeaseRelease
  | leaseExpiry => exact h.execLeaseExpiry
  | pcieDoorbell => exact h.execPcieDoorbell
  | pcieRqHeadWrite => exact h.execPcieRqHeadWrite
  | pcieLinkReset => exact h.execPcieLinkReset
  | bar2Write => exact h.execBar2Write
  | ethReassemblyTimeout => exact h.execEthReassemblyTimeout
  | ethPortDownFault => exact h.execEthPortDownFault
  | spiWrite => exact h.execSpiWrite
  | spiRead => exact h.execSpiRead
  | spiInvalidType => exact h.execSpiInvalidType
  | spiCsRise => exact h.execSpiCsRise
  | spiFrameAborted => exact h.execSpiFrameAborted
  | ethFrameReceived => exact h.execEthFrameReceived
  | ethFrameSent => exact h.execEthFrameSent
  | ptpSync => exact h.execPtpSync
  | timeLocked => exact h.execTimeLocked
  | timeSourceLost => exact h.execTimeSourceLost
  | timeFree => exact h.execTimeFree
  | timeAdjStep => exact h.execTimeAdjStep
  | timeAdjSlew => exact h.execTimeAdjSlew
  | timeSetSeconds => exact h.execTimeSetSeconds
  | timeMatch => exact h.execTimeMatch
  | canFrameReceived => exact h.execCanFrameReceived
  | canFrameSent => exact h.execCanFrameSent
  | canBusOff => exact h.execCanBusOff
  | canBusOn => exact h.execCanBusOn
  | canRestart => exact h.execCanRestart
  | canAbort => exact h.execCanAbort
  | linkUp => exact h.execLinkUp
  | linkDown => exact h.execLinkDown
  | fabFrameReceived => exact h.execFabFrameReceived
  | fabFrameCheckFail => exact h.execFabFrameCheckFail
  | nakReceived => exact h.execNakReceived
  | frameIdleStop => exact h.execFrameIdleStop
  | helloSend => exact h.execHelloSend
  | becomeSurveyor => exact h.execBecomeSurveyor
  | reportSend => exact h.execReportSend
  | surveyDone => exact h.execSurveyDone
  | fabSurvey => exact h.execFabSurvey
  | fabStatus => exact h.execFabStatus
  | fabNodeRead => exact h.execFabNodeRead
  | fabNodeReadTimeout => exact h.execFabNodeReadTimeout
  | fabTtSwap => exact h.execFabTtSwap
  | ttSwapped => exact h.execTtSwapped
  | ttDirectApply => exact h.execTtDirectApply
  | ttDistributionTimeout => exact h.execTtDistributionTimeout
  | cycleStart => exact h.execCycleStart
  | slotTransmit => exact h.execSlotTransmit
  | cycleLost => exact h.execCycleLost
  | surveyorChanged => exact h.execSurveyorChanged
  | streamLost => exact h.execStreamLost
  | streamReturned => exact h.execStreamReturned
  | secondaryReportSend => exact h.execSecondaryReportSend
  | secondaryCompute => exact h.execSecondaryCompute
  | portRetry => exact h.execPortRetry
  | portClear => exact h.execPortClear
  | pllLock => exact h.execPllLock
  | pllUnlock => exact h.execPllUnlock
  | relockStart => exact h.execRelockStart
  | relockTimeout => exact h.execRelockTimeout
  | refclkLost => exact h.execRefclkLost
  | refclkPresent => exact h.execRefclkPresent
  | vsysFail => exact h.execVsysFail
  | holdupEnd => exact h.execHoldupEnd
  | powerGood => exact h.execPowerGood
  | vsysHigh => exact h.execVsysHigh
  | railOutOfWindow => exact h.execRailOutOfWindow
  | reverseBlocked => exact h.execReverseBlocked
  | resetEntry => exact h.execResetEntry
  | resetAssert => exact absurd rfl hr
  | resetRequest => exact h.execResetRequest
  | startUp => exact h.execStartUp
  | startupDone => exact h.execStartupDone
  | vbatMeasure => exact h.execVbatMeasure
  | imageBegin => exact h.execImageBegin
  | imageEraseDone => exact h.execImageEraseDone
  | imageData => exact h.execImageData
  | imageCommit => exact h.execImageCommit
  | imageStatus => exact h.execImageStatus
  | auditRead => exact h.execAuditRead
  | auditFlush => exact h.execAuditFlush
  | credentialSet => exact h.execCredentialSet
  | certModeSet => exact h.execCertModeSet
  | tamper => exact h.execTamper
  | tamperClear => exact h.execTamperClear
  | eventWrite => exact h.execEventWrite
  | eventSubscribe => exact h.execEventSubscribe
  | eventUnsubscribe => exact h.execEventUnsubscribe
  | statusRead => exact h.execStatusRead
  | counterRead => exact h.execCounterRead
  | perfClear => exact h.execPerfClear
  | counterOverflow => exact h.execCounterOverflow
  | contactSheet => exact h.execContactSheet
  | bandwidthWindowEnd => exact h.execBandwidthWindowEnd
  | transientRate => exact h.execTransientRate
  | registerWrite => exact h.execRegisterWrite
  | latticeDemandEnd => exact h.execLatticeDemandEnd
  | supplyConditionClear => exact h.execSupplyConditionClear
  | badOpcode => exact h.execBadOpcode
  | ethLinkDown => exact h.execEthLinkDown
  | ethLinkUp => exact h.execEthLinkUp
  | pcieLinkUp => exact h.execPcieLinkUp
  | idAssignment => exact h.execIdAssignment
  | rtcWrite => exact h.execRtcWrite
  | rbGateDrive => exact h.execRbGateDrive
  | vaultBrownOut => exact h.execVaultBrownOut
  | imageCommitted => exact h.execImageCommitted
  | soutOvercurrent => exact h.execSoutOvercurrent

/-- What a command can do to the waiting commands, the module tick and the canonical tables. -/
theorem exec_keeps {c : Instr} (e : exec c s = .next t) :
    Keeps s t ∨ (Keeps { s with tick := s.tick + 1 } t ∧ ∃ vsys vin temp, c = .moduleTick vsys vin temp) ∨
      (Keeps { s with tick := 0 } t ∧ c = .resetAssert) := by
  by_cases hm : ∃ vsys vin temp, c = .moduleTick vsys vin temp
  · obtain ⟨vsys, vin, temp, rfl⟩ := hm
    exact (execModuleTick_next e).imp_right fun k => .inl ⟨k, vsys, vin, temp, rfl⟩
  · by_cases hr : c = .resetAssert
    · subst hr
      exact (execResetAssert_next e).imp_right fun k => .inr ⟨k, rfl⟩
    · exact .inl (exec_answers s c (fun vsys vin temp h => hm ⟨vsys, vin, temp, h⟩) hr t e)

/-- Whether a state's tables are canonical does not depend on its tick or its waiting commands. -/
theorem exec_canonical {c : Instr} (e : exec c s = .next t) (hs : s.canonical) : t.canonical := by
  obtain k | ⟨k, -⟩ | ⟨k, -⟩ := exec_keeps e
  · exact k.canonical hs
  · exact k.canonical hs
  · exact k.canonical hs

theorem step_canonical (e : step s = .next t) (hs : s.canonical) : t.canonical := by
  unfold step at e
  split at e
  · cases e
    exact hs
  · exact exec_canonical e hs

end

/-- Settles O5: each operation of the model carries the canonical form along, so every row does, and with it a step. -/
theorem stepKeepsTablesCanonical : Obligations.StepKeepsTablesCanonical :=
  fun _ _ hs e => step_canonical e hs

/-- Settles O4: both tables of the state after reset are empty. -/
theorem canonicalAtReset : Obligations.CanonicalAtReset := ⟨rfl, rfl⟩

end Sys2Proof.Machine

/-! # What a reset keeps and returns (R10, R530) -/

namespace Sys2Proof.Machine

/-- A read of a table from which the keys that fail `p` have been left out. -/
theorem sparseGet_filter_key {α : Type} (d : Nat → α) (p : Nat → Bool) (l : List (Nat × α)) (k : Nat) :
    sparseGet d (l.filter fun e => p e.1) k = if p k = true then sparseGet d l k else d k := by
  induction l with
  | nil => simp [sparseGet]
  | cons e l ih =>
    obtain ⟨j, v⟩ := e
    by_cases hj : j = k
    · subst hj
      by_cases hp : p j = true
      · simp [sparseGet, hp]
      · rw [List.filter_cons_of_neg (by simpa using hp), ih, if_neg hp, if_neg hp]
    · by_cases hp : p j = true
      · rw [List.filter_cons_of_pos (by simpa using hp), sparseGet, if_neg hj, ih, sparseGet, if_neg hj]
      · rw [List.filter_cons_of_neg (by simpa using hp), ih, sparseGet, if_neg hj]

theorem State.rd_reset (a : Nat) : State.reset.rd a = resetValue a := rfl

@[simp] theorem State.rd_showVault (s : State) (a : Nat) : s.showVault.rd a = s.rd a := rfl
@[simp] theorem State.bit_showVault (s : State) (a i : Nat) : s.showVault.bit a i = s.bit a i := rfl

/-! The registers that RESET_ASSERT writes after the others have returned. -/

theorem isVault_sysResetCause : isVault Reg.sysResetCause = true := by decide
theorem isVault_hostStatus : isVault Reg.hostStatus = false := by decide
theorem isVault_safeStatus : isVault Reg.safeStatus = false := by decide

/-- Of the registers that a reset does not write itself, those of the vault domain keep their values, and the others
read their reset values. -/
theorem State.rd_afterReset (s : State) (c : Nat) {a : Nat} (hc : a ≠ Reg.sysResetCause) (hx : a ≠ Reg.secStatus)
    (hh : a ≠ Reg.hostStatus) (hs : a ≠ Reg.safeStatus) :
    (s.afterReset c).rd a = if isVault a = true then s.rd a else resetValue a := by
  unfold State.afterReset
  dsimp only
  rw [State.rd_showVault, State.rd_setBit_ne _ _ _ hs, State.rd_setBit_ne _ _ _ hs, State.rd_setBit_ne _ _ _ hh,
    State.rd_put_ne _ _ _ _ hx, State.rd_put_ne _ _ _ _ hx, State.rd_setBit_ne _ _ _ hx, State.rd_wr_ne _ _ hc]
  exact sparseGet_filter_key resetValue isVault s.regs a

/-- The last thing a reset does is to restore the two LOCKOUT bits of SAFE_STATUS. -/
theorem State.afterReset_eq (s : State) (c : Nat) :
    ∃ t : State, s.afterReset c = ((t.setBit Reg.safeStatus 4 (s.bit Reg.safeStatus 4)).setBit Reg.safeStatus 5
      (s.bit Reg.safeStatus 5)).showVault := ⟨_, rfl⟩

/-- SAFE_STATUS keeps its two LOCKOUT bits (R310). -/
theorem State.afterReset_lockout (s : State) (c : Nat) :
    (s.afterReset c).bit Reg.safeStatus 4 = s.bit Reg.safeStatus 4 ∧
      (s.afterReset c).bit Reg.safeStatus 5 = s.bit Reg.safeStatus 5 := by
  obtain ⟨t, ht⟩ := s.afterReset_eq c
  rw [ht, State.bit_showVault, State.bit_showVault]
  refine ⟨?_, State.bit_setBit_same _ _ _ (by decide)⟩
  rw [State.bit_setBit_apart _ _ _ (by decide) (by decide), State.bit_setBit_same _ _ _ (by decide)]

theorem State.afterReset_rings (s : State) (c : Nat) : (s.afterReset c).rings = [] := rfl
theorem State.afterReset_staging (s : State) (c : Nat) : (s.afterReset c).staging = [] := rfl
theorem State.afterReset_ledger (s : State) (c : Nat) : (s.afterReset c).ledger = [] := rfl
theorem State.afterReset_mem (s : State) (c : Nat) : (s.afterReset c).mem = [] := rfl

@[simp] theorem State.causes_showVault (s : State) : s.showVault.safe.causes = s.safe.causes := rfl

/-- Of SAFE's state a reset keeps the LOCKOUT causes alone; then the mirror shows the vault's values (R310, R318). -/
theorem State.afterReset_safe (s : State) (c : Nat) :
    ∃ t : State, s.afterReset c = t.showVault ∧
      t.safe = { SafeSt.reset with causes := s.safe.causes, latticeCauses := s.safe.latticeCauses } := ⟨_, rfl, rfl⟩

theorem State.afterReset_causes (s : State) (c : Nat) : (s.afterReset c).safe.causes = s.safe.causes := by
  obtain ⟨t, ht, hsafe⟩ := s.afterReset_safe c
  rw [ht, State.causes_showVault, hsafe]

set_option maxRecDepth 20000 in
/-- The words of the sessions are outside the vault domain and reset to 0. -/
theorem hostSess_reset : ∀ n < 128, isVault (Reg.hostSess n) = false ∧ resetValue (Reg.hostSess n) = 0 := by
  decide
set_option maxRecDepth 20000 in
/-- The words of the leases are outside the vault domain and reset to 0. -/
theorem hostLeaseA_reset : ∀ i < 256, isVault (Reg.hostLeaseA i) = false ∧ resetValue (Reg.hostLeaseA i) = 0 := by
  decide

theorem State.isOpen_afterReset (s : State) (c n : Nat) : (s.afterReset c).isOpen n = false := by
  by_cases hn : n < 128
  · obtain ⟨hv, h0⟩ := hostSess_reset n hn
    have hrd : (s.afterReset c).rd (Reg.hostSess n) = 0 := by
      rw [s.rd_afterReset c (by unfold Reg.hostSess Reg.sysResetCause; omega)
        (by unfold Reg.hostSess Reg.secStatus; omega) (by unfold Reg.hostSess Reg.hostStatus; omega)
        (by unfold Reg.hostSess Reg.safeStatus; omega), hv, h0]
      rfl
    simp [State.isOpen, State.fld, hrd, field]
  · simp [State.isOpen, hn]

theorem State.leaseKind_afterReset (s : State) (c : Nat) {i : Nat} (hi : i < 256) :
    (s.afterReset c).leaseKind i = 0 := by
  obtain ⟨hv, h0⟩ := hostLeaseA_reset i hi
  have hrd : (s.afterReset c).rd (Reg.hostLeaseA i) = 0 := by
    rw [s.rd_afterReset c (by unfold Reg.hostLeaseA Reg.sysResetCause; omega)
      (by unfold Reg.hostLeaseA Reg.secStatus; omega) (by unfold Reg.hostLeaseA Reg.hostStatus; omega)
      (by unfold Reg.hostLeaseA Reg.safeStatus; omega), hv, h0]
    rfl
  simp [State.leaseKind, State.fld, hrd, field]

/-- Start-up begins again (R525). -/
theorem State.sysBoot_afterReset (s : State) (c : Nat) : (s.afterReset c).fld Reg.sysBoot 0 5 = 0 := by
  rw [State.fld, s.rd_afterReset c (by decide) (by decide) (by decide) (by decide)]
  have hv : isVault Reg.sysBoot = false := by decide
  rw [hv, if_neg Bool.false_ne_true]
  decide

/-- A reset is asserted where its entry is under way, and that of a supply failure once the hold-up has ended. -/
theorem exec_resetAssert {s : State} {c : Nat} (hl : s.sys.low = some c) (he : c = 2 → s.sys.ended = true) :
    exec .resetAssert s = .next (s.afterReset c) := by
  show execResetAssert s = _
  unfold execResetAssert
  rw [hl]
  exact congrArg _ (if_neg fun h => h.2 (he h.1))

/-- Settles O48: register by register, and the parts of the state that a reset empties. -/
theorem resetReturnsEveryRegister : Obligations.ResetReturnsEveryRegister := by
  intro s c hl he
  refine ⟨s.afterReset c, exec_resetAssert hl he, ?_, s.afterReset_lockout c, ?_, s.isOpen_afterReset c,
    fun i hi => s.leaseKind_afterReset c hi, fun r => ?_, s.afterReset_staging c, s.afterReset_ledger c,
    s.afterReset_mem c, s.afterReset_causes c, s.sysBoot_afterReset c⟩
  · intro a hv hx hh hs
    have hc : a ≠ Reg.sysResetCause := fun h => by simp [h, isVault_sysResetCause] at hv
    rw [s.rd_afterReset c hc hx hh hs, hv, State.rd_reset]
    rfl
  · intro a hv hc hx
    have hh : a ≠ Reg.hostStatus := fun h => by simp [h, isVault_hostStatus] at hv
    have hs : a ≠ Reg.safeStatus := fun h => by simp [h, isVault_safeStatus] at hv
    rw [s.rd_afterReset c hc hx hh hs, if_pos hv]
  · rw [State.ring, s.afterReset_rings]
    rfl

end Sys2Proof.Machine

/-! # The rows of registers that act directly (R7, R432) -/

namespace Sys2Proof.Machine

/-- The access kind of a register, if one is assigned at `a`. -/
def accessAt (a : Nat) : Option Access := (regRow a).map RegRow.access

theorem accessAt_of_regRow {a : Nat} {r : RegRow} (h : regRow a = some r) : accessAt a = some r.access := by
  rw [accessAt, h]; rfl

set_option maxRecDepth 20000 in
/-- A write to a WO register is its command. -/
theorem State.writeReg_wo (s : State) {a : Nat} (v : Word) (h : accessAt a = some .wo) :
    s.writeReg a v = s.commandWrite a v := by
  unfold State.writeReg
  unfold accessAt at h
  generalize regRow a = o at h ⊢
  obtain ⟨r, rfl, hw⟩ := Option.map_eq_some_iff.mp h
  simp only [hw]

set_option maxRecDepth 20000 in
/-- A write to a W1C register clears bits. -/
theorem State.writeReg_w1c (s : State) {a : Nat} (v : Word) (h : accessAt a = some .w1c) :
    s.writeReg a v = s.clearBits a v := by
  unfold State.writeReg
  unfold accessAt at h
  generalize regRow a = o at h ⊢
  obtain ⟨r, rfl, hw⟩ := Option.map_eq_some_iff.mp h
  simp only [hw]

set_option maxRecDepth 20000 in
/-- A write to an RC register changes nothing. -/
theorem State.writeReg_rc (s : State) {a : Nat} (v : Word) (h : accessAt a = some .rc) : s.writeReg a v = s := by
  unfold State.writeReg
  unfold accessAt at h
  generalize regRow a = o at h ⊢
  obtain ⟨r, rfl, hw⟩ := Option.map_eq_some_iff.mp h
  simp only [hw]

/-- The registers of an array are numbered from 0. -/
theorem idxOf_add {b st n i : Nat} (hst : 0 < st) (hi : i < n) : idxOf b st n (b + st * i) = some i := by
  have hdiv : st * i / st = i := Nat.mul_div_cancel_left i hst
  have hmod : st * i % st = 0 := Nat.mul_mod_right st i
  simp [idxOf, hdiv, hmod, hi]

theorem isIdx_add {b st n i : Nat} (hst : 0 < st) (hi : i < n) : isIdx b st n (b + st * i) = true := by
  rw [isIdx, idxOf_add hst hi]; rfl

theorem isIdx_eq_false {b st n a : Nat} (h : isIdx b st n a = false) : idxOf b st n a = none := by
  simpa [isIdx] using h

/-- A row of one register, whose packet is taken and refused by no check, writes that register and answers OK. -/
theorem State.directRow_takes {s : State} {p : Packet} {a : Nat} {v : Word} {f : Nat → Word → Bool}
    (h : s.takes 0x0501 p true) (hw : (s.takenWrite p).writesReg p a v) (hf : f a v = true) :
    s.directRow p f = ((s.takenWrite p).writeReg a v).finish 0x0501 p .ok [] := by
  have hp : writesWord p f = true := by
    obtain ⟨hl, ha, hv, -⟩ := hw
    simp [writesWord, hl, ha, hv, hf]
  rw [State.directRow, if_pos hp, State.memWrite_reg h hw]

/-- A row of one WO register. -/
theorem State.directRow_wo {s : State} {p : Packet} {a : Nat} {v : Word} {f : Nat → Word → Bool}
    (h : s.takes 0x0501 p true) (hw : (s.takenWrite p).writesReg p a v) (hf : f a v = true)
    (ha : accessAt a = some .wo) :
    Host.Outcome.next (s.directRow p f)
      = (.next (((s.takenWrite p).commandWrite a v).finish 0x0501 p .ok []) : Host.Outcome State Fault Refusal) := by
  rw [State.directRow_takes h hw hf, State.writeReg_wo _ v ha]

/-- A row of one W1C register. -/
theorem State.directRow_w1c {s : State} {p : Packet} {a : Nat} {v : Word} {f : Nat → Word → Bool}
    (h : s.takes 0x0501 p true) (hw : (s.takenWrite p).writesReg p a v) (hf : f a v = true)
    (ha : accessAt a = some .w1c) :
    Host.Outcome.next (s.directRow p f)
      = (.next (((s.takenWrite p).clearBits a v).finish 0x0501 p .ok []) : Host.Outcome State Fault Refusal) := by
  rw [State.directRow_takes h hw hf, State.writeReg_w1c _ v ha]

/-! The access kinds of the registers that have rows of their own. -/

theorem accessAt_convOwTest : accessAt Reg.convOwTest = some .wo := by decide
theorem accessAt_laneRedCmd : ∀ l < 2, accessAt (Reg.laneRedCmd l) = some .wo := by decide
theorem accessAt_pwmTripClr : ∀ l < 2, accessAt (Reg.pwmTripClr l) = some .wo := by decide
theorem accessAt_netTcAdj : accessAt Reg.netTcAdj = some .wo := by decide
theorem accessAt_netTcSetsec : accessAt Reg.netTcSetsec = some .wo := by decide
theorem accessAt_netCanCmd : ∀ n < 4, accessAt (Reg.netCanCmd 0 + 0x200 * n) = some .wo := by decide
theorem accessAt_fabPortCmd : ∀ q < 4, accessAt (Reg.fabPortCmd 0 + 0x10 * q) = some .wo := by decide
theorem accessAt_sysResetCmd : accessAt Reg.sysResetCmd = some .wo := by decide
theorem accessAt_perfClear : accessAt Reg.perfClear = some .wo := by decide
theorem accessAt_memDmaFault : ∀ e < 4, accessAt (Reg.memDmaFault 0 + 4 * e) = some .w1c := by decide
set_option maxRecDepth 20000 in
theorem accessAt_memBadpage : ∀ w < 128, accessAt (Reg.memBadpage 0 + 4 * w) = some .w1c := by decide

theorem isLaneRedCmd {l : Nat} (h : l < 2) :
    Reg.laneRedCmd l = Reg.laneRedCmd 0 ∨ Reg.laneRedCmd l = Reg.laneRedCmd 1 := by
  obtain rfl | rfl : l = 0 ∨ l = 1 := by omega
  · exact .inl rfl
  · exact .inr rfl

theorem isPwmTripClr {l : Nat} (h : l < 2) :
    Reg.pwmTripClr l = Reg.pwmTripClr 0 ∨ Reg.pwmTripClr l = Reg.pwmTripClr 1 := by
  obtain rfl | rfl : l = 0 ∨ l = 1 := by omega
  · exact .inl rfl
  · exact .inr rfl

/-! What a write to each of them does. -/

theorem State.commandWrite_convOwTest (s : State) (v : Word) :
    s.commandWrite Reg.convOwTest v = s.owTestStart v := rfl

theorem State.commandWrite_laneRedCmd (s : State) (v : Word) {l : Nat} (h : l < 2) :
    s.commandWrite (Reg.laneRedCmd l) v = s.redCommand v := by
  obtain rfl | rfl : l = 0 ∨ l = 1 := by omega
  · rfl
  · rfl

theorem State.commandWrite_pwmTripClr (s : State) (v : Word) {l : Nat} (h : l < 2) :
    s.commandWrite (Reg.pwmTripClr l) v = s.clearTrip (field v 0 7) := by
  obtain rfl | rfl : l = 0 ∨ l = 1 := by omega
  · rfl
  · rfl

theorem State.commandWrite_netTcAdj (s : State) (v : Word) :
    s.commandWrite Reg.netTcAdj v = s.adjustTime v := rfl
theorem State.commandWrite_netTcSetsec (s : State) (v : Word) :
    s.commandWrite Reg.netTcSetsec v = s.setSeconds v := rfl
theorem State.commandWrite_sysResetCmd (s : State) (v : Word) :
    s.commandWrite Reg.sysResetCmd v = s.requestReset := rfl
theorem State.commandWrite_perfClear (s : State) (v : Word) :
    s.commandWrite Reg.perfClear v = s.clearCounters v := rfl

theorem State.commandWrite_netCanCmd (s : State) (v : Word) {n : Nat} (h : n < 4) :
    s.commandWrite (Reg.netCanCmd 0 + 0x200 * n) v = s.canCommand n v := by
  interval_cases n <;> rfl

theorem State.commandWrite_fabPortCmd (s : State) (v : Word) {q : Nat} (h : q < 4) :
    s.commandWrite (Reg.fabPortCmd 0 + 0x10 * q) v = s.clearPort q v := by
  interval_cases q <;> rfl

theorem State.clearBits_memBadpage (s : State) (v : Word) {w : Nat} (h : w < 128) :
    s.clearBits (Reg.memBadpage 0 + 4 * w) v = s.clearPages w v := by
  rw [State.clearBits, idxOf_add (by decide) h]

theorem State.clearBits_memDmaFault (s : State) (v : Word) {e : Nat} (h : e < 4) :
    s.clearBits (Reg.memDmaFault 0 + 4 * e) v = s.clearChannels e v := by
  have hb : idxOf (Reg.memBadpage 0) 4 128 (Reg.memDmaFault 0 + 4 * e) = none := by interval_cases e <;> rfl
  rw [State.clearBits, hb, idxOf_add (by decide) h]

/-- A W1C register without a row of its own only clears the bits written as 1 (R7). -/
theorem State.clearBits_plain (s : State) {a : Nat} (v : Word) (hb : isIdx (Reg.memBadpage 0) 4 128 a = false)
    (hd : isIdx (Reg.memDmaFault 0) 4 4 a = false) : s.clearBits a v = s.wr a (s.rd a &&& ~~~v) := by
  rw [State.clearBits, isIdx_eq_false hb, isIdx_eq_false hd]

/-- A register without a row of its own is none of those whose W1C write does more than clear bits. -/
theorem plain_of_not_ownRow {a : Nat} (h : ownRow a = false) :
    isIdx (Reg.memBadpage 0) 4 128 a = false ∧ isIdx (Reg.memDmaFault 0) 4 4 a = false := by
  simp only [ownRow, Bool.or_eq_false_iff] at h
  obtain ⟨⟨⟨⟨-, hb⟩, hd⟩, -⟩, -⟩ := h
  exact ⟨hb, hd⟩

/-! The rows. -/

/-- Settles O13: each row is the write of its register. -/
theorem directRegisterRowsComplete : Obligations.DirectRegisterRowsComplete := by
  refine ⟨fun s p v h hw => ?_, fun s p v l h hw hl hk => ?_, fun s p v l h hw hl hk => ?_,
    fun s p v l h hw hl => ?_, fun s p v w h hw hl => ?_, fun s p v e h hw hl => ?_, fun s p v q h hw hl => ?_⟩
  · exact (State.directRow_wo h hw (by simp) accessAt_convOwTest).trans (by rw [State.commandWrite_convOwTest])
  · exact (State.directRow_wo h hw (by simp [hk, isLaneRedCmd hl]) (accessAt_laneRedCmd l hl)).trans
      (by rw [State.commandWrite_laneRedCmd _ v hl])
  · exact (State.directRow_wo h hw (by simp [hk, isLaneRedCmd hl]) (accessAt_laneRedCmd l hl)).trans
      (by rw [State.commandWrite_laneRedCmd _ v hl])
  · exact (State.directRow_wo h hw (by simp [isPwmTripClr hl]) (accessAt_pwmTripClr l hl)).trans
      (by rw [State.commandWrite_pwmTripClr _ v hl])
  · exact (State.directRow_w1c h hw (isIdx_add (by decide) hl) (accessAt_memBadpage w hl)).trans
      (by rw [State.clearBits_memBadpage _ v hl])
  · exact (State.directRow_w1c h hw (isIdx_add (by decide) hl) (accessAt_memDmaFault e hl)).trans
      (by rw [State.clearBits_memDmaFault _ v hl])
  · exact (State.directRow_wo h hw (isIdx_add (by decide) hl) (accessAt_fabPortCmd q hl)).trans
      (by rw [State.commandWrite_fabPortCmd _ v hl])

/-- Settles O14: each row is the write of its register. -/
theorem clockAndBusRegisterRowsComplete : Obligations.ClockAndBusRegisterRowsComplete := by
  refine ⟨fun s p v h hw hk => ?_, fun s p v h hw hk => ?_, fun s p v h hw => ?_, fun s p v n h hw hn hk => ?_,
    fun s p v n h hw hn hk => ?_, fun s p v h hw => ?_, fun s p v h hw => ?_,
    fun s p a v r h hw hr ho => ⟨?_, ?_⟩⟩
  · exact (State.directRow_wo h hw (by simp [hk]) accessAt_netTcAdj).trans (by rw [State.commandWrite_netTcAdj])
  · exact (State.directRow_wo h hw (by simp [hk]) accessAt_netTcAdj).trans (by rw [State.commandWrite_netTcAdj])
  · exact (State.directRow_wo h hw (by simp) accessAt_netTcSetsec).trans (by rw [State.commandWrite_netTcSetsec])
  · exact (State.directRow_wo h hw (by simp [hk, isIdx_add _ hn]) (accessAt_netCanCmd n hn)).trans
      (by rw [State.commandWrite_netCanCmd _ v hn])
  · exact (State.directRow_wo h hw (by simp [hk, isIdx_add _ hn]) (accessAt_netCanCmd n hn)).trans
      (by rw [State.commandWrite_netCanCmd _ v hn])
  · exact (State.directRow_wo h hw (by simp) accessAt_sysResetCmd).trans (by rw [State.commandWrite_sysResetCmd])
  · exact (State.directRow_wo h hw (by simp) accessAt_perfClear).trans (by rw [State.commandWrite_perfClear])
  · intro hacc
    have ha : accessAt a = some .w1c := hacc ▸ accessAt_of_regRow hr
    obtain ⟨hb, hd⟩ := plain_of_not_ownRow ho
    exact (State.directRow_w1c h hw (by simp [ho, hr, hacc]) ha).trans (by rw [State.clearBits_plain _ v hb hd])
  · intro hacc
    have ha : accessAt a = some .rc := hacc ▸ accessAt_of_regRow hr
    exact congrArg Host.Outcome.next
      ((State.directRow_takes h hw (by simp [ho, hr, hacc])).trans (by rw [State.writeReg_rc _ v ha]))

end Sys2Proof.Machine

/-! # Registers at reset, and the words that BAR2 and MEM_WRITE store (R5, R10, R373, R419) -/

namespace Sys2Proof.Machine

/-- A register is assigned only where a block lies, below the ring windows. -/
theorem lt_of_regRow {a : Nat} {r : RegRow} (h : regRow a = some r) : a < 0x100000000 := by
  by_contra ha
  have hb : ∃ n, blockOf a = n + 17 := ⟨blockOf a - 17, by unfold blockOf; omega⟩
  obtain ⟨n, hn⟩ := hb
  rw [regRow, hn] at h
  exact absurd h (by simp [blockRows])

theorem resetValue_of_regRow {a : Nat} {r : RegRow} (h : regRow a = some r) : resetValue a = word r.reset := by
  unfold resetValue
  rw [if_pos (lt_of_regRow h), h]
  rfl

/-- Settles O3: a register that nothing has written reads its map's Reset column. -/
theorem registersReadTheirResetColumn : Obligations.RegistersReadTheirResetColumn :=
  ⟨fun a _ h => (State.rd_reset a).trans (resetValue_of_regRow h), rfl, rfl, rfl, rfl⟩

/-- A stored word reads back byte by byte, the least significant first (R5). -/
theorem State.rdByte_wrWord (s : State) (a : Nat) (v : Word) :
    ∀ i < 4, (s.wrBytes a (wordBytes v)).rdByte (a + i) = BitVec.ofNat 8 (v.toNat / 2 ^ (8 * i)) := by
  intro i hi
  unfold wordBytes State.wrBytes State.wrBytes State.wrBytes State.wrBytes State.wrBytes
  obtain rfl | rfl | rfl | rfl : i = 0 ∨ i = 1 ∨ i = 2 ∨ i = 3 := by omega
  · rw [State.rdByte_wrByte_ne _ _ (by omega), State.rdByte_wrByte_ne _ _ (by omega),
      State.rdByte_wrByte_ne _ _ (by omega)]
    simp
  · rw [State.rdByte_wrByte_ne _ _ (by omega), State.rdByte_wrByte_ne _ _ (by omega)]
    simp
  · rw [State.rdByte_wrByte_ne _ _ (by omega)]
    simp
  · exact State.rdByte_wrByte_same _ _ _

/-- A stored run of bytes touches nothing but the shared SRAM. -/
theorem State.wrBytes_eq (s : State) (a : Nat) (bs : List Byte) :
    s.wrBytes a bs = { s with mem := (s.wrBytes a bs).mem } := by
  induction bs generalizing s a with
  | nil => rfl
  | cons b bs ih => exact ih (s.wrByte a b) (a + 1)

theorem not_inBlocks_of_lt_memSize {a : Nat} (h : a < memSize) : inBlocks a = false := by
  unfold memSize at h
  simp only [inBlocks, decide_eq_false_iff_not]
  omega

/-! The three cases of a BAR2 write (R21, R419). -/

theorem execBar2Write_stores {s : State} {a : Nat} (v : Word) (hc : s.certMode = false) (ha : a < memSize)
    (h4 : a % 4 = 0) (hm : s.pageMarked a = false) :
    exec (.bar2Write a v) s = .next (s.wrBytes a (wordBytes v)) := by
  show execBar2Write a v s = _
  rw [execBar2Write, if_neg (by simp [hc, not_inBlocks_of_lt_memSize ha]), if_pos ⟨ha, h4, hm⟩]

theorem execBar2Write_marked {s : State} {a : Nat} (v : Word) (hc : s.certMode = false) (ha : a < memSize)
    (hm : s.pageMarked a = true) : exec (.bar2Write a v) s = .next s := by
  show execBar2Write a v s = _
  rw [execBar2Write, if_neg (by simp [hc, not_inBlocks_of_lt_memSize ha]), if_neg (by simp [hm])]

theorem execBar2Write_register (s : State) {a : Nat} (v : Word) (hb : inBlocks a = true) :
    exec (.bar2Write a v) s = .next ((s.countUp Reg.hostBar2Discard 0 16 1).raise 0x0D05 []) := by
  show execBar2Write a v s = _
  rw [execBar2Write, if_pos (.inr hb)]

/-- An event leaves the shared SRAM alone. -/
theorem State.rdByte_raise (s : State) (code : Nat) (d : List Word) (b : Nat) :
    (s.raise code d).rdByte b = s.rdByte b :=
  show (s.raise code d).unlogged.rdByte b = s.unlogged.rdByte b from congrArg (·.rdByte b) (s.raise_unlogged code d)

theorem quietReg_bar2Discard : quietReg 0x0D05 Reg.hostBar2Discard := ⟨by decide, by decide, by decide⟩

/-- Settles O51: the address is either stored to, marked, or a register. -/
theorem bar2WriteStoresItsWord : Obligations.Bar2WriteStoresItsWord := by
  refine ⟨fun s a v hc ha h4 hm => ?_, fun s a v hc ha hm => ?_, fun s a v hb => ?_⟩
  · refine ⟨_, execBar2Write_stores v hc ha h4 hm, s.rdByte_wrWord a v,
      fun b hb => s.rdByte_wrBytes_ne a _ hb, ?_, ?_⟩
    · rw [State.wrBytes_eq]
    · rw [State.wrBytes_eq]
  · exact ⟨s, execBar2Write_marked v hc ha hm, fun _ => rfl, rfl⟩
  · refine ⟨_, execBar2Write_register s v hb, fun b => State.rdByte_raise _ _ _ b, ?_⟩
    rw [State.fld_raise _ _ _ _ (by decide) quietReg_bar2Discard, State.countUp, State.fld_put_same _ _ _ (by decide)]
    have hle : satAdd (2 ^ 16 - 1) (s.fld Reg.hostBar2Discard 0 16) 1 < 2 ^ 16 := by unfold satAdd; omega
    exact Nat.mod_eq_of_lt hle

/-! ## MEM_WRITE through a mapping -/

/-- Where an address leads to shared SRAM depends on the mappings alone (R371). -/
theorem State.place_sram_of_maps {s t : State} (h : t.memx.maps = s.memx.maps) {c a d : Nat} {w : Bool}
    (hp : s.place c a = .sram d w) : t.place c a = .sram d w := by
  unfold State.place at hp ⊢
  rw [h]
  split at hp
  · next hc =>
    rw [if_pos hc]
    exact hp
  · next hc =>
    rw [if_neg hc]
    split at hp
    · exact hp
    · split at hp
      · cases hp
      · split at hp
        · cases hp
        · split at hp <;> cases hp

/-- A word of an unmarked page that may be written is not refused. -/
theorem State.wordRefused_sram {s : State} {p : Packet} {a d : Nat} (v : Word)
    (hp : s.place p.session a = .sram d true) (hm : s.pageMarked d = false) : s.wordRefused p a v = none := by
  simp [State.wordRefused, State.wordFault, hp, hm]

theorem bytesWords_one (bs : List Byte) : bytesWords 1 (bs.drop 4) = [word (leAt bs 4 4)] := rfl

theorem AnswerOnly.countEcc (s : State) (c a n k : Nat) : AnswerOnly s (s.countEcc c a n k) :=
  .ite (.countUp s _ _ _ (by decide)) (.refl s)

/-- A MEM_WRITE of one word of shared SRAM that no check refuses stores the word and answers OK. -/
theorem State.memWrite_sram {s : State} {p : Packet} {d k : Nat} (h : s.takes 0x0501 p true)
    (hl : p.payload.length = 8) (ha : leAt p.payload 0 4 % 4 = 0)
    (hp : (s.taken 0x0501 p (.host [] k)).place p.session (leAt p.payload 0 4) = .sram d true)
    (hm : (s.taken 0x0501 p (.host [] k)).pageMarked d = false) :
    s.memWrite p k
      = ((((s.taken 0x0501 p (.host [] k)).countEcc p.session (leAt p.payload 0 4) 1 k).wrBytes d
          (wordBytes (word (leAt p.payload 4 4)))).finish 0x0501 p .ok []) := by
  have hlen : (decide (8 ≤ p.payload.length) && decide (p.payload.length ≤ 4092)) = true := by simp [hl]
  unfold State.memWrite
  rw [hlen, State.command_takes h]
  generalize s.taken 0x0501 p (.host [] k) = u at hp hm ⊢
  have hq : (u.countEcc p.session (leAt p.payload 0 4) 1 k).place p.session (leAt p.payload 0 4) = .sram d true :=
    State.place_sram_of_maps (AnswerOnly.countEcc u _ _ _ _).maps hp
  show u.runMemWrite p k = _
  unfold State.runMemWrite
  rw [hl]
  dsimp only
  rw [bytesWords_one, if_neg (by omega)]
  simp only [State.firstRefused, State.wordRefused_sram _ hp hm, State.writeWords, State.writeWord, hq]

/-- Settles O52: between taking the packet and answering it, which leave SRAM alone, the word is stored at `d`. -/
theorem memWriteStoresThroughItsMapping : Obligations.MemWriteStoresThroughItsMapping := by
  rintro s u p d k v h rfl hl ha rfl hp hm
  have hbefore := (AnswerOnly.taken s 0x0501 p (.host [] k)).trans
    (AnswerOnly.countEcc _ p.session (leAt p.payload 0 4) 1 k)
  refine ⟨_, _, congrArg Host.Outcome.next (State.memWrite_sram h hl ha hp hm), rfl, ?_⟩
  generalize (s.taken 0x0501 p (.host [] k)).countEcc p.session (leAt p.payload 0 4) 1 k = e at hbefore
  have hafter := AnswerOnly.finish (e.wrBytes d (wordBytes (word (leAt p.payload 4 4)))) 0x0501 p .ok []
  refine ⟨fun i hi => ?_, fun b hb => ?_, ?_, ?_, fun a hlo hhi => ?_⟩
  · rw [hafter.rdByte, State.rdByte_wrWord _ _ _ i hi]
  · rw [hafter.rdByte, State.rdByte_wrBytes_ne _ _ _ hb, hbefore.rdByte]
  · rw [hafter.staging, State.wrBytes_eq, hbefore.staging]
  · rw [hafter.ledger, State.wrBytes_eq, hbefore.ledger]
  · have hout : ¬ outsideConverter a := by unfold outsideConverter; omega
    rw [hafter.2 a hout, State.wrBytes_eq]
    exact hbefore.2 a hout

end Sys2Proof.Machine

/-! # The module tick, the base sample and the 1 µs boundary (R14, R160, R184, R214, R434, R593) -/

namespace Sys2Proof.Machine

theorem exec_moduleTick {s : State} (vsys vin temp : Nat) (h : 2 ≤ s.fld Reg.sysBoot 0 4) :
    exec (.moduleTick vsys vin temp) s = .next (s.tickWork vsys vin temp).startHeld :=
  congrArg Host.Outcome.next (if_neg (Nat.not_lt.mpr h))

/-- While the schedule is stopped, the 1 µs boundary applies the coefficient words of every law (R160). -/
def State.applyAllWords (s : State) : State :=
  (List.range 4).foldl (fun s l => (s.applyWords l).showCoefCrc l) s

/-- While the schedule is stopped and a lane computes, the 1 µs boundary decides the mode, and a lane fault takes
effect there (R184, R214). -/
theorem exec_internal1usBoundary_stopped {s r u : State} (hr : r = s.finishHold) (hstop : r.schedRuns = false)
    (hu : u = r.applyAllWords) (hl : u.someLane = true) :
    exec .internal1usBoundary s
      = .next ((((u.openDecision.showLane.advance 1000).decideMode false).failStandby 0).failStandby 1) := by
  show execInternal1usBoundary s = _
  rw [hu] at hl ⊢
  unfold State.applyAllWords at hl ⊢
  unfold execInternal1usBoundary
  simp only [← hr, hstop, Bool.not_false, Bool.true_or, Bool.true_and, if_true, hl]

/-- The base sample that the schedule names begins, computes, decides the mode and ends (R14). -/
theorem exec_sampleSchedule_due {s r u : State} {now n : Nat} {vmo : Bool} (corrected : Nat) (diag : List LaneFault)
    (agree linkA linkB : Bool) (hs : s.sampleAt now = true)
    (hr : r = (s.reach now).countUp Reg.memEccCorr 0 16 corrected) (hn : n = (r.lrd Reg.laneSample + 1).toNat) (hu : u = r.startSample n)
    (hv : vmo = (u.xfOn && u.lawDue u.vmoLaw n)) :
    exec (.sampleSchedule now corrected diag agree linkA linkB) s
      = .next ((((u.computeSample n vmo).advance (u.computeSample n vmo).baseInterval).decideMode
          (vmo && (u.computeSample n vmo).lane.limitReached)).endSample now diag agree linkA linkB) := by
  show execSampleSchedule now corrected diag agree linkA linkB s = _
  subst hv hu hn hr
  rw [execSampleSchedule, if_pos hs]

/-- Settles O22: a tick from step 2 on, a sample that its schedule names, and a boundary without a schedule each take
the branch of their work. -/
theorem ticksAndSamplesComplete : Obligations.TicksAndSamplesComplete := by
  refine ⟨fun s vsys vin temp h => exec_moduleTick vsys vin temp h, ?sample, ?boundary⟩
  case sample =>
    intro s r u v now corrected n diag agree linkA linkB vmo hs hr hn hu hv hdone
    subst hdone
    exact exec_sampleSchedule_due corrected diag agree linkA linkB hs hr hn hu hv
  case boundary =>
    intro s r u v hr hstop hu hl hopen
    subst hopen
    exact exec_internal1usBoundary_stopped hr hstop hu hl

end Sys2Proof.Machine

/-! # PCI Express and SPI (R21, R419, R421, R422) -/

namespace Sys2Proof.Machine

/-- A BAR2 write in CERT_MODE, or of a register, is discarded and counted (R21). -/
theorem execBar2Write_discards {s : State} {a : Nat} (v : Word) (h : s.certMode = true ∨ inBlocks a = true) :
    exec (.bar2Write a v) s = .next ((s.countUp Reg.hostBar2Discard 0 16 1).raise 0x0D05 []) :=
  congrArg Host.Outcome.next (if_pos h)

theorem exec_pcieLinkUp (s : State) {gen width : Nat} (hg : 1 ≤ gen) (hg' : gen ≤ 3) (hw : 1 ≤ width)
    (hw' : width ≤ 2) :
    exec (.pcieLinkUp gen width) s
      = .next (((s.setBit Reg.hostStatus 0 true).put Reg.hostStatus 1 2 gen).put Reg.hostStatus 3 2 width) :=
  congrArg Host.Outcome.next (if_neg (by omega))

/-- Settles O37: each row takes the branch that its condition names. -/
theorem pcieAndSpiRowsComplete : Obligations.PcieAndSpiRowsComplete := by
  refine ⟨fun s gen width hg hg' hw hw' => exec_pcieLinkUp s hg hg' hw hw', ?doorbell,
    fun s c head hc hup => ?rqHead, ?linkReset, fun s a v hc ha h4 hm => execBar2Write_stores v hc ha h4 hm,
    fun s a v h => execBar2Write_discards v h, fun s whole hs hi => ?write, fun s whole hs hi => ?read,
    fun s hs hi => ?invalid, fun s => rfl, fun s hw => ?aborted⟩
  case doorbell =>
    rintro s u v c tail setup hc hup rfl rfl
    exact congrArg Host.Outcome.next (if_pos ⟨hc, hup⟩)
  case rqHead => exact congrArg Host.Outcome.next (if_pos ⟨hc, hup⟩)
  case linkReset =>
    rintro s u v down l rfl rfl rfl
    rfl
  case write => exact congrArg Host.Outcome.next (if_pos ⟨hs, hi⟩)
  case read => exact congrArg Host.Outcome.next (if_pos ⟨hs, hi⟩)
  case invalid => exact congrArg Host.Outcome.next (if_pos ⟨hs, hi⟩)
  case aborted => exact congrArg Host.Outcome.next (if_pos hw)

end Sys2Proof.Machine

/-! # Errors at accesses that no region can have (R31, R357) -/

namespace Sys2Proof.Machine

/-- An error is taken only at an access that its region can have. -/
theorem exec_uncorrectableError_of_not_canFail {s : State} {region addr ctx channel : Nat} {dma : Bool}
    (h : s.canFail region addr ctx dma channel = false) :
    exec (.uncorrectableError region addr ctx dma channel) s = .next s :=
  congrArg Host.Outcome.next (if_pos (by simp [h]))

/-- Refutes O35: its clause on errors of every region retries one of region 2, the memory of the lanes, at `channel` 2
too. There are two lanes, and the model takes no error of a third: the state after reset stays as it is. -/
theorem not_memoryRowsComplete : ¬ Obligations.MemoryRowsComplete := by
  intro h
  obtain ⟨herror, -⟩ := h
  have hclaim := herror State.reset _ 2 0 0 2 false _ _ (by decide) (by decide) rfl rfl rfl
  have hmodel : exec (.uncorrectableError 2 0 0 false 2) State.reset = .next State.reset :=
    exec_uncorrectableError_of_not_canFail rfl
  have hsame := Host.Outcome.next.inj (hmodel.symm.trans hclaim)
  have hretries := congrArg (fun s => s.memx.retries.length) hsame
  exact absurd hretries (by decide)

end Sys2Proof.Machine

/-! # Limits of the control laws and of ride-through (R58, R63, R64, R137, R165, R185) -/

namespace Sys2Proof.Machine

theorem exec_measInvalidLimit_due {s : State} {l : Nat} (hl : l < 4) (hdue : s.invalidDue l = true) :
    exec (.measInvalidLimit l) s
      = .next (((s.setLaw l { s.law l with limitDone := true }).raiseLane 4 []).withholdSample.safelight 3) :=
  congrArg Host.Outcome.next (if_pos ⟨hl, hdue⟩)

/-- A hold that has run out withholds the sample and enters SAFELIGHT only where hold_exp_act is set (R165). -/
theorem exec_holdExpired_due {s u : State} {l : Nat} (hl : l < 4) (hexp : (s.law l).expired = true)
    (hu : u = (s.setLaw l { s.law l with expired := false }).raiseLane 0 []) :
    exec (.holdExpired l) s
      = .next (if u.bit (Reg.laneLawCfg 0 l) 19 then u.withholdSample.safelight 4 else u) := by
  subst hu
  exact congrArg Host.Outcome.next (if_pos ⟨hl, hexp⟩)

theorem exec_gateEnableRequestFall_due {s : State} (hfall : s.modes.stage.gateFall = true)
    (hrel : s.pwm.relDue = []) :
    exec .gateEnableRequestFall s
      = .next (s.setStage { s.modes.stage with gateReq := false, gateFall := false }).busUpdate :=
  congrArg Host.Outcome.next (if_pos ⟨hfall, hrel⟩)

theorem exec_rideThroughExit_due {s : State} (hexit : s.exitDue = true) (hdecide : s.mayDecide 4 = true)
    (henter : s.mayEnter s.retMode = true) : exec .rideThroughExit s = .next (s.goMode s.retMode) :=
  congrArg Host.Outcome.next (if_pos (by simp [hexit, hdecide, henter]))

/-- When SAFELIGHT was entered with another cause, the row of cause 0x05 only raises its event and withholds the sample
(R191). -/
theorem exec_rideThroughExpired_late {s : State} (hlate : s.isLate 5 = true) :
    exec .rideThroughExpired s = .next ((s.endLate 5).raiseLane 0x2C []).withholdSample :=
  congrArg Host.Outcome.next (if_pos hlate)

theorem exec_rideThroughExpired_due {s : State} (hlate : s.isLate 5 = false) (hexpiry : s.expiryDue = true)
    (hexit : s.exitDue = false) (hdecide : s.mayDecide 2 = true) :
    exec .rideThroughExpired s = .next ((s.raiseLane 0x2C []).withholdSample.safelight 5) := by
  show execRideThroughExpired s = _
  rw [execRideThroughExpired, if_neg (by simp [hlate]), if_pos (by simp [hexpiry, hexit, hdecide])]

/-- The mark `lost`, which the row sets, keeps it from raising its event again (R58). -/
theorem exec_secondaryLost_due {s : State} (hon : s.bit Reg.fabSecCfg 0 = true)
    (hfirst : s.modes.second.lost = false) (hmissed : 3 ≤ s.modes.second.missed) :
    exec .secondaryLost s
      = .next (State.raiseLane
          { s with modes := { s.modes with second := { s.modes.second with lost := true } } } 0x2D []) :=
  congrArg Host.Outcome.next (if_pos ⟨hon, by simp [hfirst], hmissed⟩)

/-- Settles O26: each row is due under its conditions, and RIDE_THROUGH_EXPIRED is late or due. -/
theorem lawAndRideThroughRowsComplete : Obligations.LawAndRideThroughRowsComplete := by
  refine ⟨?invalidLimit, fun s u l hl hexp hu => exec_holdExpired_due hl hexp hu,
    fun s hfall hrel => exec_gateEnableRequestFall_due hfall hrel,
    fun s hexit hdecide henter => exec_rideThroughExit_due hexit hdecide henter,
    fun s hlate hexpiry hexit hdecide => exec_rideThroughExpired_due hlate hexpiry hexit hdecide,
    fun s hlate => exec_rideThroughExpired_late hlate, ?secondary⟩
  case invalidLimit =>
    rintro s u l hl hdue rfl
    exact exec_measInvalidLimit_due hl hdue
  case secondary =>
    rintro s u v hon rfl hfirst hmissed rfl
    exact exec_secondaryLost_due hon hfirst hmissed

end Sys2Proof.Machine

/-! # Analogue inputs and the spare slice (R78, R97 to R103) -/

namespace Sys2Proof.Machine

theorem exec_conversionComplete_running {s u : State} {c : Nat} {level code : Int} (hc : c < 64)
    (hrun : s.outputsRun = true) (hu : u = s.takeItems (fun a => a == Reg.convAinCfg c) State.applyConv)
    (hcode : code = clampInt (-32768) 32767 level) :
    exec (.conversionComplete c level) s
      = .next ((((u.clipJudge c (decide (code ≠ level))).owJudge c code).sarFeed c code
          (decide (code ≠ level))).stageResult c) := by
  subst hu hcode
  exact congrArg Host.Outcome.next (if_pos ⟨hc, hrun⟩)

/-- A mark of the open-wire bank is a register bit; the tests of the input go on beside it. -/
@[simp] theorem State.ain_setBankBit (s : State) (a i : Nat) (b : Bool) (c : Nat) :
    (s.setBankBit a i b).ain c = s.ain c := rfl

/-- OPEN_WIRE notes whether the mark is set within a requested test: it then stays at least until the test's current has
been removed (R103). -/
theorem exec_openWire_due {s u : State} {c : Nat} (hc : c < 64) (hmark : s.bankBit Reg.convOwStatus0 c = false)
    (hpos : 0 < (s.ain c).owCount) (hcount : s.fld (Reg.convAinCfg c) 16 8 ≤ (s.ain c).owCount)
    (hu : u = s.setBankBit Reg.convOwStatus0 c true) :
    exec (.openWire c) s
      = .next ((u.setAin c { u.ain c with owClear := 0, inTest := (s.ain c).test.isSome }).raise 0x0200 [word c]) := by
  show execOpenWire c s = _
  rw [execOpenWire, if_pos ⟨hc, Bool.eq_false_iff.mp hmark, hpos, hcount⟩, hu]
  simp only [State.ain_setBankBit]

theorem exec_openWireClear_due {s u : State} {c : Nat} (hc : c < 64) (hmark : s.bankBit Reg.convOwStatus0 c = true)
    (hcount : s.fld (Reg.convAinCfg c) 16 8 ≤ (s.ain c).owClear) (hpos : 0 < (s.ain c).owClear)
    (hu : u = s.setBankBit Reg.convOwStatus0 c false) :
    exec (.openWireClear c) s
      = .next ((u.setAin c { u.ain c with owCount := 0, owClear := 0 }).raise 0x0201 [word c]) := by
  subst hu
  exact congrArg Host.Outcome.next (if_pos ⟨hc, hmark, hcount, hpos⟩)

theorem exec_owTestWindowEnd_due {s : State} {c n : Nat} (htest : (s.ain c).test = some n)
    (hwindow : 20 * s.fld (Reg.convAinCfg c) 24 8 ≤ n) :
    exec (.owTestWindowEnd c) s = .next (s.setAin c { s.ain c with test := none, tail := 51, owCount := 0 }) := by
  show execOwTestWindowEnd c s = _
  simp only [execOwTestWindowEnd, htest, if_pos hwindow]

/-! ## The spare slice -/

theorem exec_spareCalibrationDone_passed {s : State} (hrun : s.calRuns = true)
    (hcal : s.conv.spare.comparing = false) :
    exec (.spareCalibrationDone true) s
      = .next (s.setSpare { s.conv.spare with comparing := true, checkFailed := false }) := by
  show execSpareCalibrationDone true s = _
  rw [execSpareCalibrationDone, if_pos ⟨hrun, Bool.eq_false_iff.mp hcal⟩, if_pos rfl]

/-- The first failed check only repeats the calibration (R100). -/
theorem exec_spareCalibrationDone_failed {s : State} (hrun : s.calRuns = true)
    (hcal : s.conv.spare.comparing = false) (hfirst : s.conv.spare.checkFailed = false) :
    exec (.spareCalibrationDone false) s = .next (s.setSpare { s.conv.spare with checkFailed := true }) := by
  show execSpareCalibrationDone false s = _
  rw [execSpareCalibrationDone, if_pos ⟨hrun, Bool.eq_false_iff.mp hcal⟩, if_neg Bool.false_ne_true,
    if_pos (Bool.eq_false_iff.mp hfirst)]

/-- The spare takes the input over, and the slice that it replaces becomes the spare (R97). -/
theorem exec_spareComparisonDone_passed {s : State} {sumDiff : Int} {v : Spare} (hrun : s.calRuns = true)
    (hv : v = s.conv.spare) (hcomparing : v.comparing = true) (hmean : sumDiff.natAbs ≤ 512) :
    exec (.spareComparisonDone sumDiff) s
      = .next ((((s.setSpare { v with
            attached := sparseSet id v.attached v.input (s.fld Reg.convStatus 0 7) }).put Reg.convStatus 0 7
          (sparseGet id v.attached v.input)).setBankBit Reg.convSuspect0 v.input false).nextInput) := by
  subst hv
  show execSpareComparisonDone sumDiff s = _
  rw [execSpareComparisonDone, if_pos ⟨hrun, hcomparing⟩, if_pos hmean]

/-- After the first failed comparison the spare calibrates again and repeats it on the same input (R99). -/
theorem exec_spareComparisonDone_failed {s : State} {sumDiff : Int} {v : Spare} (hrun : s.calRuns = true)
    (hv : v = s.conv.spare) (hcomparing : v.comparing = true) (hmean : 512 < sumDiff.natAbs)
    (hfirst : v.compareFailed = false) :
    exec (.spareComparisonDone sumDiff) s
      = .next ((s.raise 0x0204 [word v.input]).setSpare { v with comparing := false, compareFailed := true }) := by
  subst hv
  show execSpareComparisonDone sumDiff s = _
  rw [execSpareComparisonDone, if_pos ⟨hrun, hcomparing⟩, if_neg (Nat.not_le.mpr hmean),
    if_neg (Bool.eq_false_iff.mp hfirst)]

/-- Settles O23: each row takes the branch that its conditions name. -/
theorem conversionRowsComplete : Obligations.ConversionRowsComplete := by
  refine ⟨?conversion, fun s u c hc hmark hpos hcount hu => exec_openWire_due hc hmark hpos hcount hu,
    fun s u c hc hmark hcount hpos hu => exec_openWireClear_due hc hmark hcount hpos hu,
    fun s c n htest hwindow => exec_owTestWindowEnd_due htest hwindow,
    fun s hrun hcal => exec_spareCalibrationDone_passed hrun hcal,
    fun s hrun hcal hfirst => exec_spareCalibrationDone_failed hrun hcal hfirst, ?exchange,
    fun s sumDiff v hrun hv hcomparing hmean hfirst =>
      exec_spareComparisonDone_failed hrun hv hcomparing hmean hfirst⟩
  case conversion =>
    rintro s u c level code clip hc hrun hu hcode rfl
    exact exec_conversionComplete_running hc hrun hu hcode
  case exchange =>
    rintro s sumDiff v l hrun hv hcomparing hmean rfl
    exact exec_spareComparisonDone_passed hrun hv hcomparing hmean

end Sys2Proof.Machine

/-! # Bitstream inputs, settling and comparators (R106 to R108, R115, R120, R122) -/

namespace Sys2Proof.Machine

/-- A stale input is flushed, and its comparators each count an invalid output (R107, R123). -/
theorem exec_bitstreamStale_due {s u : State} {m : Nat} (hm : m < 16) (hon : s.bsEnabled m = true)
    (hfresh : s.bsStale m = false)
    (hu : u = (s.setBit Reg.convBsStatus m true).setBit Reg.convBsStatus (16 + m) false) :
    exec (.bitstreamStale m) s = .next (((u.flush (64 + m)).raise 0x0202 [word m]).invalidAll (64 + m)) := by
  subst hu
  exact congrArg Host.Outcome.next (if_pos ⟨hm, hon, Bool.eq_false_iff.mp hfresh⟩)

theorem exec_bitstreamResumed_due {s : State} {m : Nat} (hm : m < 16) (hrun : s.outputsRun = true)
    (hon : s.bsEnabled m = true) (hstale : s.bsStale m = true) :
    exec (.bitstreamResumed m) s
      = .next ((((s.setBit Reg.convBsStatus m false).setBit Reg.convBsStatus (16 + m) true).flush
          (64 + m)).raise 0x0203 [word m]) :=
  congrArg Host.Outcome.next (if_pos ⟨hm, hrun, hon, hstale⟩)

/-- The input shows that it settles until the preset in use has (R108, R120). -/
theorem exec_bitstreamWindowEnd_due {s u : State} {m p : Nat} {bits : List Bool} (hm : m < 16) (hp : p < 4)
    (hrun : s.outputsRun = true) (hon : s.bsEnabled m = true) (hfresh : s.bsStale m = false)
    (hlen : bits.length = sincDecim p) (hu : u = s.sincFeed m p bits) :
    exec (.bitstreamWindowEnd m p bits) s
      = .next (if u.bit Reg.convBsStatus (16 + m) && u.isSettled (64 + m) (u.preset (64 + m)) then
          u.setBit Reg.convBsStatus (16 + m) false else u) := by
  subst hu
  show execBitstreamWindowEnd m p bits s = _
  rw [execBitstreamWindowEnd, if_pos ⟨hm, hp, hrun, hon, Bool.eq_false_iff.mp hfresh, hlen⟩]
  simp only [Bool.and_eq_true]

/-- A preset of a SAR input settles by the conversions since its flush (R120). -/
theorem exec_settlingEnd_sar {s : State} {c p : Nat} (hp : p < 4) (hc : c < 64) (hnot : s.isSettled c p = false)
    (hfull : s.sarSettled c p = true) : exec (.settlingEnd c p) s = .next (s.settle c p) := by
  show execSettlingEnd c p s = _
  rw [execSettlingEnd, if_pos ⟨hp, Bool.eq_false_iff.mp hnot⟩, if_pos hc, if_pos hfull]

/-- A preset of a bitstream input settles with the third window since its flush (R120). -/
theorem exec_settlingEnd_bitstream {s : State} {c p : Nat} (hp : p < 4) (hlo : 64 ≤ c) (hhi : c < 80)
    (hnot : s.isSettled c p = false) (hwins : 3 ≤ (s.sinc (c - 64) p).wins) :
    exec (.settlingEnd c p) s
      = .next (if p = (s.settle c p).preset c then (s.settle c p).setBit Reg.convBsStatus (c - 48) false
          else s.settle c p) := by
  show execSettlingEnd c p s = _
  rw [execSettlingEnd, if_pos ⟨hp, Bool.eq_false_iff.mp hnot⟩, if_neg (Nat.not_lt.mpr hlo), if_pos ⟨hhi, hwins⟩]

theorem exec_thresholdAssert_due {s u : State} {k now : Nat} (hk : k < 64) (hdue : (s.cmp k).due = true)
    (hon : s.bit (Reg.filtThrCfg k) 0 = true)
    (hu : u = { s with pwm := { s.pwm with now := max now s.pwm.now } }) :
    exec (.thresholdAssert k now) s = .next ((u.setCmp k Cmp.idle).cmpAssert k) := by
  subst hu
  exact congrArg Host.Outcome.next (if_pos ⟨hk, hdue, hon⟩)

/-- Settles O24: each row takes the branch that its conditions name; a settling time ends by the kind of its input. -/
theorem bitstreamAndFilterRowsComplete : Obligations.BitstreamAndFilterRowsComplete := by
  refine ⟨fun s u m hm hon hfresh hu => exec_bitstreamStale_due hm hon hfresh hu,
    fun s m hm hrun hon hstale => exec_bitstreamResumed_due hm hrun hon hstale,
    fun s u m p bits hm hp hrun hon hfresh hlen hu => exec_bitstreamWindowEnd_due hm hp hrun hon hfresh hlen hu,
    fun s c p hp hc hnot hfull => exec_settlingEnd_sar hp hc hnot hfull,
    fun s c p hp hlo hhi hnot hwins => exec_settlingEnd_bitstream hp hlo hhi hnot hwins, ?asserts⟩
  case asserts =>
    rintro s u k now pw hk hdue hon rfl hu
    exact exec_thresholdAssert_due hk hdue hon hu

end Sys2Proof.Machine

/-! # Conversion groups (R81, R85, R93, R95, R96) -/

namespace Sys2Proof.Machine

/-- A trigger that the group has before or after its fixed changes brings them into effect; one that it then still has
closes the apertures (R81, R89). -/
theorem exec_samplingTrigger_due {s u : State} {g now : Nat} (dt : Nat) (hg : g < 16) (hnow : s.pwm.now ≤ now)
    (hdue : (s.triggerAt g now || (s.takeGroup g).triggerAt g now) = true) (hu : u = s.takeGroup g)
    (htrig : u.triggerAt g now = true) :
    exec (.samplingTrigger g now dt) s = .next (u.groupTrigger g dt) := by
  subst hu
  show execSamplingTrigger g now dt s = _
  simp only [execSamplingTrigger, if_pos (And.intro hg hnow), if_pos hdue, if_pos htrig]

/-- A recorded sample whose last result is in leaves conversion staging for the delivery queue of four (R95). -/
theorem exec_groupSampleComplete_last {s u : State} {g seq : Nat} {time : Word}
    (hsample : (s.group g).sample = some (time, seq)) (hlast : (s.group g).await = [])
    (hu : u = s.setGroup g { s.group g with sample := none }) :
    exec (.groupSampleComplete g) s
      = .next (if (s.group g).queue.length < 4 then
          u.setGroup g { u.group g with queue := (s.group g).queue ++ [(s.sampleBytes g time seq, seq)] }
        else u.dropSample g seq) := by
  subst hu
  show execGroupSampleComplete g s = _
  simp only [execGroupSampleComplete, hsample, hlast, List.isEmpty_nil, if_true]

/-- What the delivery of a sample puts in the ring: an overflow marker where samples were dropped, then the sample
(R93, R96). -/
def Group.deliveredBytes (v : Group) (g : Nat) (b : List Byte) : List Byte :=
  (if v.dropped = 0 then [] else markerBytes v.dropped g v.firstDropped) ++ b

/-- The oldest sample of the queue is written whole where the ring has room, and is dropped for either want of it
(R93, R95). -/
theorem exec_groupSampleWritten_oldest {s u : State} {g r seq : Nat} {b bytes : List Byte}
    {rest : List (List Byte × Nat)} (hqueue : (s.group g).queue = (b, seq) :: rest)
    (hr : r = 16 + s.fld (Reg.convGrpCfg g) 8 4) (hbytes : bytes = (s.group g).deliveredBytes g b)
    (hu : u = s.setGroup g { s.group g with queue := rest }) :
    exec (.groupSampleWritten g) s
      = .next (if u.room r (inlineDescs bytes.length) = .granted then
          (u.append r (inlineDescs bytes.length) bytes).setGroup g
            { s.group g with queue := rest, dropped := 0, firstDropped := 0, dropRun := false }
        else (u.dropUnit r (u.room r (inlineDescs bytes.length))).dropSample g seq) := by
  subst hu hbytes hr
  show execGroupSampleWritten g s = _
  unfold Group.deliveredBytes
  simp only [execGroupSampleWritten, hqueue]
  split
  case h_1 hroom => rw [if_pos hroom]
  case h_2 hroom => rw [if_neg hroom]

/-- Settles O25: a trigger, a sample that is complete and the oldest sample of the queue each take the branch of their
work. -/
theorem groupRowsComplete : Obligations.GroupRowsComplete :=
  ⟨fun _ _ _ _ dt hg hnow hdue hu htrig => exec_samplingTrigger_due dt hg hnow hdue hu htrig,
    fun _ _ _ _ _ hsample hlast hu => exec_groupSampleComplete_last hsample hlast hu,
    fun _ _ _ _ _ _ _ _ hqueue hr hbytes hu => exec_groupSampleWritten_oldest hqueue hr hbytes hu⟩

end Sys2Proof.Machine

/-! # The opcodes of laws, profiles and modes (R156 to R158, R162, R164, R181, R187) -/

namespace Sys2Proof.Machine

/-! ## A packet that is taken runs its opcode's checks and effect -/

/-- The payload that LAW_SET_COEF's count field announces holds the count field itself (R156). -/
theorem exec_lawSetCoef_takes {s : State} {p : Packet} (h : s.takes 0x0200 p true)
    (hl : p.payload.length = 4 + 8 * leAt p.payload 2 2) :
    exec (.lawSetCoef p) s = .next ((s.taken 0x0200 p).runSetCoef p) := by
  have hlen : (decide (4 ≤ p.payload.length) && decide (p.payload.length = 4 + 8 * leAt p.payload 2 2)) = true := by
    rw [decide_eq_true hl, decide_eq_true (hl ▸ Nat.le_add_right 4 _)]
    rfl
  show execLawSetCoef p s = _
  rw [execLawSetCoef, hlen, State.command_takes h]

theorem exec_lawHold_takes {s : State} {p : Packet} (h : s.takes 0x0201 p true) (hl : p.payload.length = 4) :
    exec (.lawHold p) s = .next ((s.taken 0x0201 p).runHold p) := by
  show execLawHold p s = _
  rw [execLawHold, decide_eq_true hl, State.command_takes h]

theorem exec_lawRelease_takes {s : State} {p : Packet} (h : s.takes 0x0202 p true) (hl : p.payload.length = 8) :
    exec (.lawRelease p) s = .next ((s.taken 0x0202 p).runLawRelease p) := by
  show execLawRelease p s = _
  rw [execLawRelease, decide_eq_true hl, State.command_takes h]

theorem exec_profileMove_takes {s : State} {p : Packet} (h : s.takes 0x0203 p true) (hl : p.payload.length = 8) :
    exec (.profileMove p) s = .next ((s.taken 0x0203 p).runProfileMove p) := by
  show execProfileMove p s = _
  rw [execProfileMove, decide_eq_true hl, State.command_takes h]

theorem exec_modeSet_takes {s : State} {p : Packet} (h : s.takes 0x0204 p true) (hl : p.payload.length = 4) :
    exec (.modeSet p) s = .next ((s.taken 0x0204 p).runModeSet p) := by
  show execModeSet p s = _
  rw [execModeSet, decide_eq_true hl, State.command_takes h]

/-! ## The coefficient queue and its fill registers (R158) -/

theorem State.lput_lane (s : State) (f : Nat → Nat) (lo n v : Nat) : (s.lput f lo n v).lane = s.lane := by
  unfold State.lput State.eachLane
  split <;> split <;> rfl

/-- Showing the fill of the queue leaves the queue itself. -/
theorem State.showQueue_lane (s : State) : s.showQueue.lane = s.lane :=
  (foldl_keeps State.lane _ (fun t _ => t.lput_lane _ _ _ _) _ _).trans (s.lput_lane _ _ _ _)

/-- The words of a LAW_SET_COEF payload for law `l` join the queue, and its fill is shown (R157, R158). -/
def State.queueCoefs (s : State) (l : Nat) (es : List (Nat × Word)) : State :=
  State.showQueue { s with lane := { s.lane with
    queue := s.lane.queue ++ es.map (fun e => { law := l, index := e.1, value := e.2 }) } }

theorem State.queueCoefs_queue (s : State) (l : Nat) (es : List (Nat × Word)) :
    (s.queueCoefs l es).lane.queue
      = s.lane.queue ++ es.map (fun e => { law := l, index := e.1, value := e.2 }) :=
  congrArg LaneSt.queue (State.showQueue_lane _)

/-! ## Opcodes that no check refuses -/

theorem State.runSetCoef_accepted {u : State} {p : Packet} (hlease : u.leaseCheck 2 (leAt p.payload 0 1) p = none)
    (hlaw : leAt p.payload 0 1 ≤ 3) (hne : coefEntries p.payload ≠ []) (hmax : (coefEntries p.payload).length ≤ 256)
    (hok : (coefEntries p.payload).all coefOk = true)
    (hroom : u.lane.queue.length + (coefEntries p.payload).length ≤ 256) :
    u.runSetCoef p
      = (u.queueCoefs (leAt p.payload 0 1) (coefEntries p.payload)).finish 0x0200 p .ok
          (wordBytes ((u.queueCoefs (leAt p.payload 0 1) (coefEntries p.payload)).coefSample (leAt p.payload 0 1))) := by
  have hrange : ¬ (3 < leAt p.payload 0 1 ∨ coefEntries p.payload = [] ∨ 256 < (coefEntries p.payload).length
      ∨ ¬ (coefEntries p.payload).all coefOk = true) := by
    rintro (h | h | h | h)
    · exact h.not_ge hlaw
    · exact hne h
    · exact h.not_ge hmax
    · exact h hok
  unfold State.runSetCoef
  simp only [hlease]
  rw [if_neg hrange, if_neg hroom.not_gt]
  rfl

theorem State.runHold_accepted {u : State} {p : Packet} (hlease : u.leaseCheck 2 (leAt p.payload 0 1) p = none)
    (hlaw : leAt p.payload 0 1 ≤ 3) (hmin : 1 ≤ leAt p.payload 1 1) (hmax : leAt p.payload 1 1 ≤ 64)
    (hon : u.lawOn (leAt p.payload 0 1) = true) (hheld : u.lawHeld (leAt p.payload 0 1) = false)
    (hdue : (u.law (leAt p.payload 0 1)).holdDue = none) (hvmo : leAt p.payload 0 1 = u.vmoLaw → u.limiting = false) :
    u.runHold p = (u.setLaw (leAt p.payload 0 1)
        { u.law (leAt p.payload 0 1) with holdDue := some (leAt p.payload 1 1) }).finish 0x0201 p .ok
          (wordBytes (u.lrd (fun L => Reg.laneLawSample L (leAt p.payload 0 1)) + 1)) := by
  have hrange : ¬ (3 < leAt p.payload 0 1 ∨ leAt p.payload 1 1 = 0 ∨ 64 < leAt p.payload 1 1) := by omega
  have hpermit : ¬ (¬ u.lawOn (leAt p.payload 0 1) = true ∨ u.lawHeld (leAt p.payload 0 1) = true
      ∨ (u.law (leAt p.payload 0 1)).holdDue ≠ none ∨ (leAt p.payload 0 1 = u.vmoLaw ∧ u.limiting = true)) := by
    rintro (h | h | h | ⟨hl, h⟩)
    · exact h hon
    · exact Bool.false_ne_true (hheld.symm.trans h)
    · exact h hdue
    · exact Bool.false_ne_true ((hvmo hl).symm.trans h)
  unfold State.runHold
  simp only [hlease]
  rw [if_neg hrange, if_neg hpermit]

theorem State.runLawRelease_accepted {u : State} {p : Packet} (hlease : u.leaseCheck 2 (leAt p.payload 0 1) p = none)
    (hlaw : leAt p.payload 0 1 ≤ 3) (hheld : u.lawHeld (leAt p.payload 0 1) = true)
    (hpending : u.pendingWords (leAt p.payload 0 1) = 0)
    (hcrc : leAt p.payload 1 1 % 2 = 1 →
      word (leAt p.payload 4 4) = u.lrd (fun L => Reg.laneLawCoefCrc L (leAt p.payload 0 1))) :
    u.runLawRelease p = (u.setHeld (leAt p.payload 0 1) false 0).finish 0x0202 p .ok [] := by
  unfold State.runLawRelease
  simp only [hlease]
  rw [if_neg hlaw.not_gt, if_neg (not_not_intro hheld), if_neg (not_not_intro hpending),
    if_neg (fun ⟨hcheck, hdiffer⟩ => hdiffer (hcrc hcheck))]

theorem State.runProfileMove_accepted {u : State} {p : Packet} (hlease : u.leaseCheck 3 0 p = none)
    (hcheck : u.profileCheck .host (leAt p.payload 0 1) (word (leAt p.payload 4 4)) = none) :
    u.runProfileMove p = (u.setProfile (leAt p.payload 0 1) (word (leAt p.payload 4 4))).finish 0x0203 p .ok
      (wordBytes (u.lrd Reg.laneSample + 1)) := by
  unfold State.runProfileMove
  simp only [hlease, hcheck]

theorem State.runModeSet_accepted {u : State} {p : Packet} (hlease : u.leaseCheck 3 0 p = none)
    (hcheck : u.modeCheck .host (leAt p.payload 0 1) = none) :
    u.runModeSet p = (u.acceptTarget (leAt p.payload 0 1)).finish 0x0204 p .ok [] := by
  unfold State.runModeSet
  simp only [hlease, hcheck]

/-- Settles O10: each packet that is taken runs its opcode, whose checks all pass. -/
theorem controlOpcodesComplete : Obligations.ControlOpcodesComplete := by
  refine ⟨?setCoef, ?hold, ?release, ?move, ?modeSet⟩
  case setCoef =>
    rintro s u p h rfl hl hlease hlaw hne hmax hok hroom
    exact ⟨_, (exec_lawSetCoef_takes h hl).trans
      (congrArg Host.Outcome.next (State.runSetCoef_accepted hlease hlaw hne hmax hok hroom)),
      State.queueCoefs_queue _ _ _⟩
  case hold =>
    rintro s u p h rfl hl hlease hlaw hmin hmax hon hheld hdue hvmo
    rw [exec_lawHold_takes h hl, State.runHold_accepted hlease hlaw hmin hmax hon hheld hdue hvmo]
  case release =>
    rintro s u p h rfl hl hlease hlaw hheld hpending hcrc
    rw [exec_lawRelease_takes h hl, State.runLawRelease_accepted hlease hlaw hheld hpending hcrc]
  case move =>
    rintro s u p h rfl hl hlease hcheck
    rw [exec_profileMove_takes h hl, State.runProfileMove_accepted hlease hcheck]
  case modeSet =>
    rintro s u p h rfl hl hlease hcheck
    rw [exec_modeSet_takes h hl, State.runModeSet_accepted hlease hcheck]

end Sys2Proof.Machine

/-! # Pre-charge, DC link and bus (R189, R193, R194, R196, R202) -/

namespace Sys2Proof.Machine

/-- The bits of LANE_MODE are register bits of each lane; the waits and marks of the mode machine stand beside them. -/
@[simp] theorem State.setModeBit_modes (s : State) (i : Nat) (b : Bool) : (s.setModeBit i b).modes = s.modes := by
  unfold State.setModeBit State.lsetBit State.eachLane
  split <;> split <;> rfl

/-! ## The charge of the DC link -/

/-- A link that is charged ends the wait for it and gives the pre-charge output back (R193). -/
theorem exec_prechargeDone_due {s u : State} {w : WaitSt} (hmode : s.mode = .precharge) (hopen : s.pcDone = false)
    (hband : s.pcConfirm < s.modes.wait.band) (hu : u = s.setModeBit 15 true)
    (hw : w = { u.modes.wait with charging := none }) :
    exec .prechargeDone s
      = .next ((((u.setWait w).disown (u.setWait w).pcOut).showOwned).raiseLane 0x21 []) := by
  subst hw hu
  rw [State.setModeBit_modes]
  exact congrArg Host.Outcome.next (if_pos ⟨hmode, Bool.eq_false_iff.mp hopen, hband⟩)

/-- When SAFELIGHT was entered with another cause, the row of cause 0x07 only raises its event (R191). -/
theorem exec_prechargeTimeout_late {s : State} (hlate : s.isLate 7 = true) :
    exec .prechargeTimeout s = .next ((s.endLate 7).raiseLane 0x22 []) :=
  congrArg Host.Outcome.next (if_pos hlate)

theorem exec_prechargeTimeout_charging {s : State} (hlate : s.isLate 7 = false) (htime : s.chargeTimeout = true)
    (hband : s.modes.wait.band ≤ s.pcConfirm) (hdecide : s.mayDecide 2 = true) :
    exec .prechargeTimeout s
      = .next (((s.setWait { s.modes.wait with charging := none }).raiseLane 0x22 []).safelight 7) := by
  show execPrechargeTimeout s = _
  rw [execPrechargeTimeout, if_neg (Bool.eq_false_iff.mp hlate), if_pos ⟨htime, hband, hdecide⟩]

/-- A route that has waited longer than pc_timeout in STANDBY is cancelled (R189). -/
theorem exec_prechargeTimeout_standby {s : State} (hlate : s.isLate 7 = false) (htime : s.chargeTimeout = false)
    (hmode : s.mode = .standby) (hroute : s.pcTimeout < s.modes.wait.route) (hdecide : s.mayDecide 6 = true) :
    exec .prechargeTimeout s = .next ((s.raiseLane 0x22 []).setTarget .standby) := by
  show execPrechargeTimeout s = _
  rw [execPrechargeTimeout, if_neg (Bool.eq_false_iff.mp hlate),
    if_neg (fun hdue => Bool.eq_false_iff.mp htime hdue.1), if_pos ⟨hmode, hroute, hdecide⟩]

/-- When SAFELIGHT was entered with another cause, the row of cause 0x0D only raises its event (R191). -/
theorem exec_dcLinkLost_late {s : State} (hlate : s.isLate 0xD = true) :
    exec .dcLinkLost s = .next ((s.endLate 0xD).raiseLane 0x2F []) :=
  congrArg Host.Outcome.next (if_pos hlate)

/-- The loss of the link is a cause only in the modes whose AC stage switches (R194). -/
theorem exec_dcLinkLost_due {s u : State} (hlate : s.isLate 0xD = false) (hlost : s.linkLost = true)
    (hu : u = (s.setModeBit 15 false).raiseLane 0x2F []) :
    exec .dcLinkLost s = .next (if u.mode.acOn then u.safelight 0x0D else u) := by
  subst hu
  show execDcLinkLost s = _
  rw [execDcLinkLost, if_neg (Bool.eq_false_iff.mp hlate), if_pos hlost]

/-! ## The bus, the route and the synchronisation -/

/-- Whether the module acts as one without a fabric is settled with the dead bus (R196, R197). -/
theorem exec_busDead_due {s : State} (hdead : s.deadDue = true) :
    exec .busDead s
      = .next ((State.setModeBit { s with modes := { s.modes with alone := !s.hasFabric } } 13 true).raiseLane
          0x23 []).tellDead :=
  congrArg Host.Outcome.next (if_pos hdead)

theorem exec_busLive_due {s : State} (hlive : s.liveDue = true) :
    exec .busLive s = .next ((s.setModeBit 14 true).raiseLane 0x24 []).tellLive :=
  congrArg Host.Outcome.next (if_pos hlive)

theorem exec_routeTimeout_due {s : State} (hmode : s.mode = .precharge) (hroute : s.routeTimeout < s.modes.wait.route)
    (hdead : s.deadDue = false) (hlive : s.liveDue = false) :
    exec .routeTimeout s = .next ((s.raiseLane 0x2A []).setTarget .precharge) :=
  congrArg Host.Outcome.next
    (if_pos ⟨hmode, hroute, Bool.eq_false_iff.mp hdead, Bool.eq_false_iff.mp hlive⟩)

theorem exec_syncTimeout_due {s : State} (hexp : s.syncExpired = true) (hclose : s.canClose = false)
    (hdecide : s.mayDecide 5 = true) (henter : s.mayEnter .precharge = true) :
    exec .syncTimeout s = .next ((s.raiseLane 0x29 []).goMode .precharge) :=
  congrArg Host.Outcome.next (if_pos (by simp [hexp, hclose, hdecide, henter]))

/-- Settles O27: each row is due under its conditions; PRECHARGE_TIMEOUT and DC_LINK_LOST are late or due, and the former
is due by its mode. -/
theorem linkAndBusRowsComplete : Obligations.LinkAndBusRowsComplete := by
  refine ⟨fun s u w hmode hopen hband hu hw => exec_prechargeDone_due hmode hopen hband hu hw,
    fun s hlate htime hband hdecide => exec_prechargeTimeout_charging hlate htime hband hdecide,
    fun s hlate htime hmode hroute hdecide => exec_prechargeTimeout_standby hlate htime hmode hroute hdecide,
    fun s hlate => exec_prechargeTimeout_late hlate,
    fun s u hlate hlost hu => exec_dcLinkLost_due hlate hlost hu,
    fun s hlate => exec_dcLinkLost_late hlate, ?dead, fun s hlive => exec_busLive_due hlive,
    fun s hmode hroute hdead hlive => exec_routeTimeout_due hmode hroute hdead hlive,
    fun s hexp hclose hdecide henter => exec_syncTimeout_due hexp hclose hdecide henter⟩
  case dead =>
    rintro s u m hdead rfl rfl
    exact exec_busDead_due hdead

end Sys2Proof.Machine

/-! # Black start, unloading and the breaker (R190, R191, R198 to R200, R203) -/

namespace Sys2Proof.Machine

theorem exec_blackStartRampComplete_due {s : State} (hramp : s.rampDone = true) (hdecide : s.mayDecide 5 = true)
    (henter : s.mayEnter .gridForming = true) :
    exec .blackStartRampComplete s = .next (s.goMode .gridForming) :=
  congrArg Host.Outcome.next (if_pos (by simp [hramp, hdecide, henter]))

/-! ## The controlled stop -/

theorem exec_unloadComplete_due {s : State} (hdone : s.unloadDone = true) :
    exec .unloadComplete s = .next s.stopOpen :=
  congrArg Host.Outcome.next (if_pos hdone)

/-- The mark `expired`, which the row sets, keeps it from raising its event again (R203). -/
theorem exec_unloadTimeout_due {s u : State} (hrun : s.unloading = true) (hopen : s.modes.stop.opened = false)
    (hfirst : s.modes.stop.expired = false) (htime : s.unloadTimeout ≤ s.modes.stop.time)
    (hdone : s.unloadDone = false)
    (hu : u = (s.setStop { s.modes.stop with expired := true }).raiseLane 0x2B []) :
    exec .unloadTimeout s = .next (if u.mode = .gridForming then u.stopOpen else u) := by
  subst hu
  exact congrArg Host.Outcome.next
    (if_pos ⟨hrun, Bool.eq_false_iff.mp hopen, Bool.eq_false_iff.mp hfirst, htime, Bool.eq_false_iff.mp hdone⟩)

/-! ## The feedback of the breaker -/

/-- The first stable level after reset is taken without counting as a change (R198). -/
theorem exec_brkFbChange_first {s : State} (closed : Bool) (hfirst : s.modes.brk.fbKnown = false) :
    exec (.brkFbChange closed) s
      = .next ((s.setBrk { s.modes.brk with fbKnown := true, event := some (closed, false) }).setModeBit 18 closed) :=
  congrArg Host.Outcome.next (if_pos (Bool.eq_false_iff.mp hfirst))

theorem exec_brkFbChange_changed {s : State} {closed : Bool} (hknown : s.modes.brk.fbKnown = true)
    (hchange : closed ≠ s.brkFb) :
    exec (.brkFbChange closed) s
      = .next ((s.setBrk { s.modes.brk with event := some (closed, true) }).setModeBit 18 closed) := by
  show execBrkFbChange closed s = _
  rw [execBrkFbChange, if_neg (not_not_intro hknown), if_neg hchange]

/-- When SAFELIGHT was entered with another cause, the row of cause 0x08 only raises its event (R191). -/
theorem exec_breakerFail_late {s : State} (hlate : s.isLate 8 = true) :
    exec .breakerFail s = .next ((s.endLate 8).raiseLane 0x26 []) :=
  congrArg Host.Outcome.next (if_pos hlate)

/-- A close that is not confirmed opens the breaker, and PRECHARGE follows once it shows open (R200, R202). -/
theorem exec_breakerFail_close {s : State} (hlate : s.isLate 8 = false) (hclose : s.closeFailed = true) :
    exec .breakerFail s = .next (((s.raiseLane 0x26 []).setBrk { s.modes.brk with back := true }).issueOpen) := by
  show execBreakerFail s = _
  rw [execBreakerFail, if_neg (Bool.eq_false_iff.mp hlate), if_pos hclose]

/-- An opening that is not confirmed is a cause only in the modes whose AC stage switches (R191, R203). -/
theorem exec_breakerFail_open {s u : State} (hlate : s.isLate 8 = false) (hclose : s.closeFailed = false)
    (hopen : s.openFailed = true) (hu : u = (s.raiseLane 0x26 []).setModeBit 17 false) :
    exec .breakerFail s = .next (if u.mode.acOn then u.safelight 8 else u) := by
  subst hu
  show execBreakerFail s = _
  rw [execBreakerFail, if_neg (Bool.eq_false_iff.mp hlate), if_neg (Bool.eq_false_iff.mp hclose), if_pos hopen]

/-- Settles O28: each row is due under its conditions; BRK_FB_CHANGE takes a first level or a change, and BREAKER_FAIL is
late or tells a close from an opening. -/
theorem breakerRowsComplete : Obligations.BreakerRowsComplete := by
  refine ⟨fun s hramp hdecide henter => exec_blackStartRampComplete_due hramp hdecide henter,
    fun s hdone => exec_unloadComplete_due hdone,
    fun s u hrun hopen hfirst htime hdone hu => exec_unloadTimeout_due hrun hopen hfirst htime hdone hu,
    fun s closed hfirst => exec_brkFbChange_first closed hfirst,
    fun s closed hknown hchange => exec_brkFbChange_changed hknown hchange, ?close,
    fun s u hlate hclose hopen hu => exec_breakerFail_open hlate hclose hopen hu,
    fun s hlate => exec_breakerFail_late hlate⟩
  case close =>
    rintro s b hlate hclose rfl
    exact exec_breakerFail_close hlate hclose

end Sys2Proof.Machine

/-! # Lane redundancy (R211, R216, R223 to R225) -/

namespace Sys2Proof.Machine

/-! ## The loss of a lane -/

/-- The row looks for the token at lane 0 first: for lane 1 it matters that its peer has none (R216). -/
theorem exec_activeLaneFailed_due {s : State} {now l : Nat} (hl : l < 2) (hpast : s.pwm.now ≤ now)
    (hpoint : s.schedPoint now = true ∨ s.schedRuns = false) (hactive : s.isActive l = true)
    (hpeer : s.isActive (1 - l) = false) (hfaulty : (s.redOf l).faulty = true) :
    exec (.activeLaneFailed now) s = .next (s.laneChange l now true) := by
  have htime : s.pwm.now ≤ now ∧ (s.schedPoint now || !s.schedRuns) = true := ⟨hpast, by simpa using hpoint⟩
  show execActiveLaneFailed now s = _
  rw [execActiveLaneFailed, if_neg (not_not_intro htime)]
  obtain rfl | rfl : l = 0 ∨ l = 1 := by omega
  · rw [if_pos (Bool.and_eq_true_iff.mpr ⟨hactive, hfaulty⟩)]
  · have hfirst : ¬ (s.isActive 0 && (s.redOf 0).faulty) = true := by simp [show s.isActive 0 = false from hpeer]
    rw [if_neg hfirst, if_pos (Bool.and_eq_true_iff.mpr ⟨hactive, hfaulty⟩)]

/-- The lane that misses the heartbeats records the fault against its peer (R211). -/
theorem exec_laneLinkWatchdog_due {s : State} {l : Nat} (hl : l < 2) (hcomputes : s.computes l = true)
    (hpeer : s.computes (1 - l) = true) (hclean : (s.redOf (1 - l)).faulty = false) :
    exec (.laneLinkWatchdog l) s
      = .next (s.selfFault { lane := 1 - l, code := 5, unit := 0, phase := 0, lasting := false }) :=
  congrArg Host.Outcome.next (if_pos ⟨hl, hcomputes, hpeer, Bool.eq_false_iff.mp hclean⟩)

/-! ## The recovery of a failed lane -/

/-- The end of the wait of a failed lane, where R225 lets it start its self-test and where it does not: what it asks
is asked of the state before the wait is cleared. -/
theorem exec_laneRecoveryStart_waiting {s u : State} {l : Nat} (hl : l < 2) (hfailed : s.isFailed l = true)
    (hwait : (s.redOf l).waiting = true) (hu : u = s.finishHold) :
    exec (.laneRecoveryStart l) s
      = .next (if ¬ u.mayRecover l = true then u.setRed l { u.redOf l with waiting := false }
          else ((u.setRed l { u.redOf l with waiting := false }).setBit (Reg.laneRedStatus l) 8 false).setBit
            (Reg.laneRedStatus l) 9 true) := by
  subst hu
  exact congrArg Host.Outcome.next (if_pos ⟨hl, hfailed, hwait⟩)

theorem exec_laneRecovered_recovering {s u : State} {l : Nat} (pass : Bool) (hl : l < 2)
    (hrec : s.isRecovering l = true) (hu : u = s.setBit (Reg.laneRedStatus l) 9 false) :
    exec (.laneRecovered l pass) s
      = .next (if pass then ((u.setBit (Reg.laneRedStatus l) 1 true).outOfStep l).raiseRed l 6 []
          else u.setBit (Reg.laneRedStatus l) 8 true) := by
  subst hu
  exact congrArg Host.Outcome.next (if_pos ⟨hl, hrec⟩)

/-! ## The resynchronisation of a standby -/

/-- The dynamic state of the peer of lane `l`, copied to lane `l` (R223). -/
def State.copyDynamic (s : State) (l : Nat) : State :=
  dynamicRegs.foldl (fun s f => s.wr (f l) (s.rd (f (1 - l)))) s

/-- The coefficient CRCs of the peer of lane `l`, copied to lane `l` (R223). -/
def State.copyCoefCrcs (s : State) (l : Nat) : State :=
  (List.range 4).foldl (fun s k => s.wr (Reg.laneLawCoefCrc l k) (s.rd (Reg.laneLawCoefCrc (1 - l) k))) s

/-- The copy of the dynamic state: where coefficient CRCs differ the coefficients are still to follow (R223). -/
theorem exec_resyncCopy_dynamic {s r v : State} {l : Nat} (hl : l < 2) (hr : r = s.finishHold)
    (hstandby : r.isStandby l = true) (hpeer : r.isActive (1 - l) = true)
    (hdue : r.bit (Reg.laneRedStatus l) 10 = true)
    (hv : v = ((r.copyDynamic l).setBit (Reg.laneRedStatus l) 10 false).setStepCount l 0) :
    exec (.resyncCopy l) s
      = .next (if v.coefsDiffer then
            (v.setBit (Reg.laneRedStatus l) 11 true).setRed l { v.redOf l with coefLeft := 126 }
          else v.setRed l { v.redOf l with syncing := true }) := by
  subst hv hr
  exact congrArg Host.Outcome.next ((if_pos ⟨hl, hstandby, hpeer⟩).trans (if_pos hdue))

/-- The last part of the copy: no sample of the coefficients is left, and the CRCs are alike (R223). -/
theorem exec_resyncCopy_coefs {s r v : State} {l : Nat} (hl : l < 2) (hr : r = s.finishHold)
    (hstandby : r.isStandby l = true) (hpeer : r.isActive (1 - l) = true)
    (hdone : r.bit (Reg.laneRedStatus l) 10 = false) (hcopy : r.bit (Reg.laneRedStatus l) 11 = true)
    (hleft : (r.redOf l).coefLeft = 0)
    (hv : v = ((r.copyCoefCrcs l).setBit (Reg.laneRedStatus l) 11 false).setStepCount l 0) :
    exec (.resyncCopy l) s = .next (v.setRed l { v.redOf l with syncing := true }) := by
  subst hv hr
  exact congrArg Host.Outcome.next ((if_pos ⟨hl, hstandby, hpeer⟩).trans
    ((if_neg (Bool.eq_false_iff.mp hdone)).trans (if_pos ⟨hcopy, hleft⟩)))

theorem exec_laneResyncDone_due {s : State} {l : Nat} (hl : l < 2) (hstandby : s.isStandby l = true)
    (hsync : (s.redOf l).syncing = true) (hsteps : 16 ≤ s.stepCount l) :
    exec (.laneResyncDone l) s
      = .next ((s.setRed l { s.redOf l with syncing := false }).raiseRed l 4 []) :=
  congrArg Host.Outcome.next (if_pos ⟨hl, hstandby, hsync, hsteps⟩)

/-- Settles O29: each row is due under its conditions; the end of a failed lane's wait is split by R225, and a copy by the
part of it that is due. -/
theorem laneRowsComplete : Obligations.LaneRowsComplete := by
  refine ⟨fun s now l hl hpast hpoint hactive hpeer hfaulty =>
      exec_activeLaneFailed_due hl hpast hpoint hactive hpeer hfaulty,
    fun s l hl hcomputes hpeer hclean => exec_laneLinkWatchdog_due hl hcomputes hpeer hclean, ?mayRecover, ?stays,
    fun s u l pass hl hrec hu => exec_laneRecovered_recovering pass hl hrec hu, ?dynamic, ?coefs,
    fun s l hl hstandby hsync hsteps => exec_laneResyncDone_due hl hstandby hsync hsteps⟩
  case mayRecover =>
    intro s u l hl hfailed hwait hu hmay
    rw [exec_laneRecoveryStart_waiting hl hfailed hwait hu, if_neg (not_not_intro hmay)]
  case stays =>
    intro s u l hl hfailed hwait hu hmay
    rw [exec_laneRecoveryStart_waiting hl hfailed hwait hu, if_pos (Bool.eq_false_iff.mp hmay)]
  case dynamic =>
    rintro s r u v l hl hr hstandby hpeer hdue rfl hv
    exact exec_resyncCopy_dynamic hl hr hstandby hpeer hdue hv
  case coefs =>
    rintro s r u v l hl hr hstandby hpeer hdone hcopy hleft rfl hv
    exact exec_resyncCopy_coefs hl hr hstandby hpeer hdone hcopy hleft hv

end Sys2Proof.Machine

/-! # PWM generators and trips (R232, R233, R238, R239, R242, R243, R249, R252, R268) -/

namespace Sys2Proof.Machine

/-! ## Timebases -/

/-- The one epoch that is due starts every enabled timebase (R232). -/
theorem exec_generatorEpoch_due {s : State} (hdue : s.pwm.epochDue = true) :
    exec .generatorEpoch s = .next s.startEpoch :=
  congrArg Host.Outcome.next (if_pos hdue)

theorem exec_timebaseZeroPoint_due {s : State} {t now : Nat} (hruns : s.tbRuns t = true) (hpast : s.pwm.now ≤ now)
    (hzero : (s.tbAt t now).2 = 0) :
    exec (.timebaseZeroPoint t now) s = .next (s.zeroPoint t now) :=
  congrArg Host.Outcome.next (if_pos ⟨hruns, hpast, hzero⟩)

/-- The changes of the timebase that take effect at the end of a period come before those of its update point, and may
move it: the row judges the update point again. A commanded lane change is made before the compares load, which a
faulty lane then does not take part in (R233, R238, R249). -/
theorem exec_updatePoint_due {s u v : State} {t now : Nat} (hpast : s.pwm.now ≤ now) (hpoint : s.isUpdate t now = true)
    (hu : u = if ((s.reach now).tbAt t now).2 = 0 then (s.reach now).changeTb t now else s.reach now)
    (hstill : u.isUpdate t now = true)
    (hv : v = if u.schedPoint now && u.modes.changeDue then u.commandedChange now else u) :
    exec (.updatePoint t now) s
      = .next (v.updatePoint t now ([0, 1].filter (fun l => !(u.schedPoint now && (v.redOf l).faulty)))) := by
  subst hv hu
  exact congrArg Host.Outcome.next ((if_pos ⟨hpast, hpoint⟩).trans (if_pos hstill))

/-! ## Trips and blanking windows -/

/-- A level that has been held for the filter time of its source, and that changes whether the source is asserted
(R242). -/
theorem exec_tripSourceAssert_changed {s : State} {i held now : Nat} {high : Bool} (hi : i < 16)
    (hpast : s.pwm.now ≤ now) (hheld : 4 * s.fld (Reg.pwmTripCfg 0 i) 17 8 ≤ held)
    (hchange : s.padAsserts i high ≠ s.tripAsserted i) :
    exec (.tripSourceAssert i high held now) s
      = .next (((s.reach now).setSource i (s.padAsserts i high)).judgeTrip i now) :=
  congrArg Host.Outcome.next (if_pos ⟨hi, hpast, hheld, hchange⟩)

/-- Every trip that window channel `w` blanks is judged at cycle `now`, in the order of their numbers (R243, R244). -/
def State.judgeBlanked (s : State) (w now : Nat) : State :=
  (List.range 80).foldl (fun s i =>
    if s.bit (Reg.pwmTripCfg 0 i) 9 ∧ s.fld (Reg.pwmTripCfg 0 i) 10 6 = w then s.judgeTrip i now else s) s

theorem exec_blankingWindowClose_closed {s : State} {w now : Nat} (hw : w < 48) (hpast : s.pwm.now ≤ now)
    (hclosed : s.windowOpen w now = false) :
    exec (.blankingWindowClose w now) s = .next ((s.reach now).judgeBlanked w now) :=
  congrArg Host.Outcome.next (if_pos ⟨hw, hpast, Bool.eq_false_iff.mp hclosed⟩)

/-! ## The selector -/

theorem exec_gateCommandChange_reached {s : State} {now : Nat} (hpast : s.pwm.now ≤ now) :
    exec (.gateCommandChange now) s = .next ((s.reach now).pwmCycle now) :=
  congrArg Host.Outcome.next (if_pos hpast)

/-- Settles O30: each row is due under its conditions; an update point is judged before and after the changes that take
effect at the end of a period. -/
theorem pwmRowsComplete : Obligations.PwmRowsComplete := by
  refine ⟨fun s hdue => exec_generatorEpoch_due hdue,
    fun s t now hruns hpast hzero => exec_timebaseZeroPoint_due hruns hpast hzero, ?update,
    fun s i held now high hi hpast hheld hchange => exec_tripSourceAssert_changed hi hpast hheld hchange, ?window,
    fun s now hpast => exec_gateCommandChange_reached hpast⟩
  case update =>
    rintro s r u v t now hpast hpoint rfl hu hstill hv
    exact exec_updatePoint_due hpast hpoint hu hstill hv
  case window =>
    rintro s u w now hw hpast hclosed rfl
    exact exec_blankingWindowClose_closed hw hpast hclosed

end Sys2Proof.Machine

/-! # Gate channels (R254, R258, R262, R267, R270, R271, R273, R274, R276) -/

namespace Sys2Proof.Machine

/-! ## Gaps, phases and refreshes -/

/-- The gap of the group has passed for a member that no longer drives its switch (R262). -/
theorem exec_interlockGapEnd_due {s : State} {g c : Nat} (hg : g < 16) (hc : c < 48) (hocc : s.occupied g c = true)
    (hended : (s.chanState c).ended = true) :
    exec (.interlockGapEnd g c) s = .next ((s.setOccupied g c false).endOverride (c / 2)).gateSettle :=
  congrArg Host.Outcome.next (if_pos ⟨hg, hc, hocc, hended⟩)

/-- The phase ends in the state that the generators have reached by then (R258). -/
theorem exec_gatePhaseEnd_due {s : State} {c elapsed now : Nat} {volts : Int} (hc : c < 48) (hpast : s.pwm.now ≤ now)
    (hends : s.phaseEnds c elapsed volts = true) :
    exec (.gatePhaseEnd c elapsed now volts) s
      = .next (((s.reach now).endPhase c).endOverride (c / 2)).gateSettle :=
  congrArg Host.Outcome.next (if_pos ⟨hc, hpast, hends⟩)

theorem exec_forcedRefresh_due {s : State} {p : Nat} (hp : p < 24) (hmay : s.mayRefresh p = true)
    (hzero : s.atLowerZero p = true)
    (hdue : (s.refresh p).first = true ∨ s.fld (Reg.gatePairCfg p) 12 6 + 1 ≤ (s.refresh p).count) :
    exec (.forcedRefresh p) s
      = .next ((((s.setRefresh p { s.refresh p with count := 0, first := false, stage := 1, accepted := none }).setBit
          (Reg.gateChStatus (2 * p)) 14 true).countUp Reg.gateRefresh 0 16 1).gateSettle) :=
  congrArg Host.Outcome.next (if_pos ⟨hp, hmay, hzero, hdue⟩)

/-! ## Short circuits and temperatures -/

theorem exec_sc_above {s : State} {c sns since : Nat} (hc : c < 48) (hon : s.bit (Reg.gateChCfg c) 16 = true)
    (hstate : s.chanState c = .turnOn ∨ s.chanState c = .on) (hblank : 20 * s.fld (Reg.gateChProt c) 8 8 ≤ since)
    (habove : s.scAbove c sns = true) :
    exec (.sc c sns since) s = .next (s.chanFault c 3).afterFault :=
  congrArg Host.Outcome.next (if_pos ⟨hc, hon, hstate, hblank, habove⟩)

/-- At 135 °C or below the condition is released, whatever it was (R273). -/
theorem exec_overtemp_cool {s u : State} {c : Nat} {temp : Int} (hc : c < 48) (hu : u = s.monTemp c temp)
    (hcool : temp ≤ 135) :
    exec (.overtemp c temp) s = .next (u.setBit (Reg.gateChStatus c) 8 false) := by
  subst hu
  exact congrArg Host.Outcome.next ((if_pos hc).trans (if_pos hcool))

/-- The condition is a fault when it begins, in every state except DISABLED (R274). -/
theorem exec_overtemp_hot {s u : State} {c : Nat} {temp : Int} (hc : c < 48) (hu : u = s.monTemp c temp)
    (hhot : 150 ≤ temp) (hstate : u.chanState c ≠ .disabled) (hfirst : u.bit (Reg.gateChStatus c) 8 = false) :
    exec (.overtemp c temp) s = .next (u.chanFault c 4).afterFault := by
  subst hu
  have hwarm : ¬ temp ≤ 135 := by omega
  exact congrArg Host.Outcome.next ((if_pos hc).trans ((if_neg hwarm).trans
    ((if_pos ⟨hhot, Bool.eq_false_iff.mp hfirst⟩).trans (if_neg hstate))))

/-! ## Supply conditions -/

/-- Whether channel `c` is commanded or drives its switch, so that a supply condition is a fault (R274). -/
def State.isDriven (s : State) (c : Nat) : Bool :=
  (decide (s.eff c = .on) || decide (s.eff c = .off)) || s.chanState c == .turnOn || s.chanState c == .on
    || s.chanState c == .turnOff || s.chanState c == .softOff

theorem State.isDriven_iff {s : State} {c : Nat} :
    s.isDriven c = true ↔ s.eff c = .on ∨ s.eff c = .off ∨ s.chanState c = .turnOn ∨ s.chanState c = .on
      ∨ s.chanState c = .turnOff ∨ s.chanState c = .softOff := by
  simp [State.isDriven, or_assoc]

theorem State.not_isDriven_of_off {s : State} {c : Nat} (hon : s.eff c ≠ .on) (hoff : s.eff c ≠ .off)
    (hstate : s.chanState c = .off) : ¬ s.isDriven c = true := by
  simp [State.isDriven_iff, hon, hoff, hstate]

/-- A supply condition that begins is a fault of a driven channel, and holds one in OFF in UNPOWERED (R273, R274). -/
theorem exec_supplyUv_begins {s u : State} {c kind : Nat} {level : Int} (hc : c < 48) (hkind : kind < 3)
    (hu : u = s.monSupply c kind level) (htest : u.supplyTest c kind = true)
    (hfails : u.supplyFails c kind level = true) (hfirst : u.bit (Reg.gateChStatus c) (4 + kind) = false) :
    exec (.supplyUv c kind level) s
      = .next (if u.isDriven c then (u.chanFault c kind).afterFault
          else if u.chanState c = .off then (u.setBit (Reg.gateChStatus c) (4 + kind) true).enter c .unpowered
          else u.setBit (Reg.gateChStatus c) (4 + kind) true) := by
  subst hu
  exact congrArg Host.Outcome.next
    ((if_pos ⟨hc, hkind⟩).trans (if_pos ⟨htest, hfails, Bool.eq_false_iff.mp hfirst⟩))

/-- The mark of a condition is cleared by its hysteresis, or because its test no longer runs (R273). -/
theorem exec_supplyConditionClear_due {s r u : State} {c kind : Nat} {level : Int} (hc : c < 48) (hkind : kind < 3)
    (hr : r = s.monSupply c kind level) (hmark : r.bit (Reg.gateChStatus c) (4 + kind) = true)
    (hclear : r.supplyGood c kind level = true ∨ r.supplyTest c kind = false)
    (hu : u = r.setBit (Reg.gateChStatus c) (4 + kind) false) :
    exec (.supplyConditionClear c kind level) s
      = .next (if u.chanState c = .unpowered ∧ (u.supplyLow c).isNone then (u.enter c .off).gateSettle else u) := by
  subst hu hr
  exact congrArg Host.Outcome.next
    ((if_pos ⟨hc, hkind⟩).trans (if_pos ⟨hmark, hclear.imp_right Bool.eq_false_iff.mp⟩))

/-! ## The retry tick -/

/-- The wait of a channel in FAULT ends: for SC its mark first takes the comparison at the tick (R276). -/
theorem exec_retryWaitEnd_due {s u : State} {c sns kind : Nat} (hc : c < 48) (hwait : (s.gch c).wait = some 0)
    (hfault : s.chanState c = .fault) (hkind : kind = s.fld (Reg.gateChStatus c) 9 3)
    (hu : u = if kind = 3 then s.setBit (Reg.gateChStatus c) 7 (s.scAbove c sns) else s) :
    exec (.retryWaitEnd c sns) s
      = .next (if u.bit (Reg.gateChStatus c) (4 + kind) then u.failAgain c else u.recover c).afterFault := by
  subst hu hkind
  exact congrArg Host.Outcome.next (if_pos ⟨hc, hwait, hfault⟩)

/-- Settles O31: each row is due under its conditions; a supply condition that begins is told by whether its channel is
driven. -/
theorem gateRowsComplete : Obligations.GateRowsComplete := by
  refine ⟨fun s g c hg hc hocc hended => exec_interlockGapEnd_due hg hc hocc hended,
    fun s c elapsed now volts hc hpast hends => exec_gatePhaseEnd_due hc hpast hends,
    fun s => rfl,
    fun s p hp hmay hzero hdue => exec_forcedRefresh_due hp hmay hzero hdue,
    fun s c sns since hc hon hstate hblank habove => exec_sc_above hc hon hstate hblank habove, ?driven, ?unpowered,
    fun s u c temp hc hu hhot hstate hfirst => exec_overtemp_hot hc hu hhot hstate hfirst,
    fun s u c temp hc hu hcool => exec_overtemp_cool hc hu hcool,
    fun s r u c kind level hc hkind hr hmark hclear hu =>
      exec_supplyConditionClear_due hc hkind hr hmark hclear hu,
    fun s u c sns kind hc hwait hfault hkind hu => exec_retryWaitEnd_due hc hwait hfault hkind hu⟩
  case driven =>
    intro s u c kind level hc hkind hu htest hfails hfirst hdriven
    rw [exec_supplyUv_begins hc hkind hu htest hfails hfirst, if_pos (State.isDriven_iff.mpr hdriven)]
  case unpowered =>
    intro s u c kind level hc hkind hu htest hfails hfirst hon hoff hstate
    rw [exec_supplyUv_begins hc hkind hu htest hfails hfirst, if_neg (State.not_isDriven_of_off hon hoff hstate),
      if_pos hstate]

end Sys2Proof.Machine

/-! # Causes added to a standing LOCKOUT (R292, R302, R309, R314) -/

namespace Sys2Proof.Machine

/-! ## Safety events and the registers of SAFE -/

theorem State.raise_safe (s : State) (code : Nat) (d : List Word) : (s.raise code d).safe = s.safe :=
  show (s.raise code d).unlogged.safe = s.unlogged.safe from congrArg State.safe (s.raise_unlogged code d)

theorem State.raise_mem (s : State) (code : Nat) (d : List Word) : (s.raise code d).mem = s.mem :=
  show (s.raise code d).unlogged.mem = s.unlogged.mem from congrArg State.mem (s.raise_unlogged code d)

theorem State.rdByte_of_mem {s t : State} (h : t.mem = s.mem) (a : Nat) : t.rdByte a = s.rdByte a := by
  rw [State.rdByte, h, State.rdByte]

theorem State.fld_of_rd {s t : State} {a : Nat} (h : t.rd a = s.rd a) (lo n : Nat) : t.fld a lo n = s.fld a lo n := by
  rw [State.fld, h, State.fld]

theorem State.bit_of_rd {s t : State} {a : Nat} (h : t.rd a = s.rd a) (i : Nat) : t.bit a i = s.bit a i := by
  rw [State.bit, State.fld_of_rd h, State.bit]

/-- The events of SAFE have no register bits (R556), so raising one leaves the block alone. -/
theorem quietReg_of_inSafe {code a : Nat} (hcode : code / 256 = 9) (hi : code % 256 < 0xF0) (ha : inSafe a = true) :
    quietReg code a := by
  have hnone : eventBits code = [] := by
    unfold eventBits
    dsimp only
    rw [if_neg hi.ne, if_neg (by omega), if_pos (.inl hcode)]
  obtain ⟨hlo, hhi⟩ := of_decide_eq_true ha
  refine ⟨by omega, by unfold Reg.memFrDrop; omega, ?_⟩
  rw [hnone]
  exact List.forall_mem_nil _

theorem State.rd_raise_inSafe (s : State) {code a : Nat} (d : List Word) (hcode : code / 256 = 9)
    (hi : code % 256 < 0xF0) (ha : inSafe a = true) : (s.raise code d).rd a = s.rd a :=
  s.rd_raise d (by omega) (quietReg_of_inSafe hcode hi ha)

/-! ## A pending arm is discarded -/

/-- A pending arm, where there is one, is discarded (R314). -/
def State.disarm (s : State) : State := if s.safe.arm.isSome then s.dropArm else s

theorem State.disarm_causes (s : State) : s.disarm.safe.causes = s.safe.causes := by
  unfold State.disarm
  split
  · rw [State.dropArm, State.put_safe, State.put_safe]
  · rfl

theorem State.disarm_mem (s : State) : s.disarm.mem = s.mem := by
  unfold State.disarm
  split
  · rw [State.dropArm, State.put_mem, State.put_mem]
  · rfl

theorem State.rd_disarm_ne (s : State) {a : Nat} (h : a ≠ Reg.safeStatus) : s.disarm.rd a = s.rd a := by
  unfold State.disarm
  split
  · rw [State.dropArm, State.rd_put_ne _ _ _ _ h, State.rd_put_ne _ _ _ _ h]
    rfl
  · rfl

/-! ## What a further cause changes -/

/-- `t` is `s` with a further cause in the set of its standing LOCKOUT (R309). -/
structure CauseAdded (s t : State) (code index : Nat) : Prop where
  causes : t.safe.causes = s.safe.causes ++ [(code, index)]
  shown : t.bit Reg.safeCause (15 + code) = true
  first : t.fld Reg.safeCause 0 16 = s.fld Reg.safeCause 0 16
  rd : ∀ a, inSafe a = true → a ≠ Reg.safeStatus → a ≠ Reg.safeCause → t.rd a = s.rd a
  mem : t.mem = s.mem

/-- The branch of a standing latch and a cause that is not recorded yet. -/
theorem State.latchLockout_standing {s : State} {code index : Nat} (hlatched : s.procLatched = true)
    (hnew : (code, index) ∉ s.safe.causes) :
    s.latchLockout code index
      = ((State.disarm { s with safe := { s.safe with causes := s.safe.causes ++ [(code, index)] } }).setBit
          Reg.safeCause (15 + code) true).raise 0x0901 [] := by
  rw [State.latchLockout, if_neg (not_not_intro hlatched), if_neg (by simpa using hnew)]
  rfl

theorem State.latchLockout_causeAdded {s : State} {code index : Nat} (hmin : 1 ≤ code) (hmax : code < 17)
    (hlatched : s.procLatched = true) (hnew : (code, index) ∉ s.safe.causes) :
    CauseAdded s (s.latchLockout code index) code index := by
  rw [State.latchLockout_standing hlatched hnew]
  have hraised {v : State} {a : Nat} (ha : inSafe a = true) : (v.raise 0x0901 []).rd a = v.rd a :=
    v.rd_raise_inSafe [] rfl (by decide) ha
  have hcause : inSafe Reg.safeCause = true := by decide
  refine ⟨?_, ?_, ?_, fun a ha hstatus hne => ?_, ?_⟩
  · rw [State.raise_safe, State.setBit_safe, State.disarm_causes]
  · rw [State.bit_of_rd (hraised hcause), State.bit_setBit_same _ _ _ (by omega)]
  · rw [State.fld_of_rd (hraised hcause), State.setBit, State.fld_put_apart _ _ _ (by omega) (by omega),
      State.fld_of_rd (State.rd_disarm_ne _ (by decide))]
    rfl
  · rw [hraised ha, State.rd_setBit_ne _ _ _ hne, State.rd_disarm_ne _ hstatus]
    rfl
  · rw [State.raise_mem, State.setBit_mem, State.disarm_mem]

/-! ## The outputs and the lattice test -/

/-- Both switches of output `n` open, and its fault bit shows (R302). -/
def State.openFaulted (s : State) (n : Nat) : State :=
  ((s.setBit Reg.safeOutState n false).setBit Reg.safeOutState (24 + n) true).raise 0x0906 []

theorem State.faultOutput_eq (s : State) (n : Nat) : s.faultOutput n = (s.openFaulted n).latchLockout 3 n := rfl

theorem State.rd_openFaulted_ne (s : State) (n : Nat) {a : Nat} (ha : inSafe a = true) (h : a ≠ Reg.safeOutState) :
    (s.openFaulted n).rd a = s.rd a := by
  rw [State.openFaulted, State.rd_raise_inSafe _ _ rfl (by decide) ha, State.rd_setBit_ne _ _ _ h,
    State.rd_setBit_ne _ _ _ h]

theorem State.openFaulted_safe (s : State) (n : Nat) : (s.openFaulted n).safe = s.safe := by
  rw [State.openFaulted, State.raise_safe, State.setBit_safe, State.setBit_safe]

theorem State.openFaulted_mem (s : State) (n : Nat) : (s.openFaulted n).mem = s.mem := by
  rw [State.openFaulted, State.raise_mem, State.setBit_mem, State.setBit_mem]

/-- An output that faults is off, and its fault bit is set. -/
theorem State.bit_openFaulted (s : State) {n : Nat} (hn : n < 8) :
    (s.openFaulted n).bit Reg.safeOutState n = false ∧ (s.openFaulted n).bit Reg.safeOutState (24 + n) = true := by
  have hraised : (s.openFaulted n).rd Reg.safeOutState = _ := State.rd_raise_inSafe _ _ rfl (by decide) (by decide)
  rw [State.bit_of_rd hraised, State.bit_of_rd hraised, State.bit_setBit_apart _ _ _ (by omega) (by omega),
    State.bit_setBit_same _ _ _ (by omega), State.bit_setBit_same _ _ _ (by omega)]
  exact ⟨rfl, rfl⟩

/-- An overcurrent of an output whose fault bit does not stand yet faults it (R302). -/
theorem exec_soutOvercurrent_faults {s : State} {n : Nat} (hn : n < 8) (hok : s.procOk = true)
    (hfirst : s.bit Reg.safeOutState (24 + n) = false) : exec (.soutOvercurrent n) s = .next (s.faultOutput n) :=
  congrArg Host.Outcome.next (if_pos ⟨hn, hok, Bool.eq_false_iff.mp hfirst⟩)

/-- A lattice test is due with the bus low for 10 ms and the last test more than 24 h old (R292). -/
theorem exec_latticeTest_due {s : State} (ok : Bool) (hok : s.procOk = true) (hlow : 10 ≤ s.safe.diag.busLow)
    (hage : testAge < s.safe.diag.testTick) :
    exec (.latticeTest ok) s
      = .next (if ok then s.latticeTested ok else (s.latticeTested ok).latchLockout 7 0) :=
  congrArg Host.Outcome.next (if_pos ⟨hok, hlow, hage⟩)

theorem exec_latticeTest_fails {s : State} (hok : s.procOk = true) (hlow : 10 ≤ s.safe.diag.busLow)
    (hage : testAge < s.safe.diag.testTick) :
    exec (.latticeTest false) s = .next ((s.latticeTested false).latchLockout 7 0) := by
  rw [exec_latticeTest_due false hok hlow hage, if_neg Bool.false_ne_true]

theorem State.rd_latticeTested_ne (s : State) (ok : Bool) {a : Nat} (h : a ≠ Reg.safeStatus) :
    (s.latticeTested ok).rd a = s.rd a := State.rd_setBit_ne _ _ _ h

theorem State.latticeTested_causes (s : State) (ok : Bool) : (s.latticeTested ok).safe.causes = s.safe.causes := by
  rw [State.latticeTested, State.setBit_safe]
  rfl

theorem State.latticeTested_mem (s : State) (ok : Bool) : (s.latticeTested ok).mem = s.mem := by
  rw [State.latticeTested, State.setBit_mem]
  rfl

/-- A test result leaves the processor's latch alone. -/
theorem State.procLatched_latticeTested (s : State) (ok : Bool) : (s.latticeTested ok).procLatched = s.procLatched :=
  State.bit_setBit_apart _ _ _ (by decide) (by decide)

/-- Under a standing latch an output that faults adds cause 0x03. -/
theorem State.faultOutput_causeAdded {s : State} {n : Nat} (hlatched : s.procLatched = true)
    (hnew : (3, n) ∉ s.safe.causes) : CauseAdded (s.openFaulted n) (s.faultOutput n) 3 n := by
  rw [State.faultOutput_eq]
  refine State.latchLockout_causeAdded (by decide) (by decide) ?_ ?_
  · rwa [State.procLatched, State.bit_of_rd (s.rd_openFaulted_ne n (by decide) (by decide))]
  · rwa [State.openFaulted_safe]

/-- Under a standing latch a failed lattice test adds cause 0x07. -/
theorem State.latticeTested_causeAdded {s : State} (hlatched : s.procLatched = true) (hnew : (7, 0) ∉ s.safe.causes) :
    CauseAdded (s.latticeTested false) ((s.latticeTested false).latchLockout 7 0) 7 0 := by
  refine State.latchLockout_causeAdded (by decide) (by decide) ?_ ?_
  · rwa [State.procLatched_latticeTested]
  · rwa [State.latticeTested_causes]

/-- Settles O50: under a standing latch either row first shows its own fault, and then adds its cause. -/
theorem causeAddedToStandingLockout : Obligations.CauseAddedToStandingLockout := by
  refine fun s hlatched hok => ⟨fun n hn hfirst hnew => ?overcurrent, fun hlow hage hnew => ?lattice⟩
  case overcurrent =>
    have hadded := State.faultOutput_causeAdded hlatched hnew
    have hout := hadded.rd Reg.safeOutState (by decide) (by decide) (by decide)
    obtain ⟨hoff, hfault⟩ := s.bit_openFaulted hn
    refine ⟨_, exec_soutOvercurrent_faults hn hok hfirst, ?_, hadded.shown, ?_, ?_, ?_, ?_, fun a => ?_⟩
    · rw [hadded.causes, State.openFaulted_safe]
    · rw [hadded.first, State.fld_of_rd (s.rd_openFaulted_ne n (by decide) (by decide))]
    · rw [State.bit_of_rd hout, hoff]
    · rw [State.bit_of_rd hout, hfault]
    · rw [hadded.rd _ (by decide) (by decide) (by decide), s.rd_openFaulted_ne n (by decide) (by decide)]
    · rw [State.rdByte_of_mem hadded.mem, State.rdByte_of_mem (s.openFaulted_mem n)]
  case lattice =>
    have hadded := State.latticeTested_causeAdded hlatched hnew
    refine ⟨_, exec_latticeTest_fails hok hlow hage, ?_, hadded.shown, ?_, ?_, fun a => ?_⟩
    · rw [hadded.causes, State.latticeTested_causes]
    · rw [hadded.first, State.fld_of_rd (s.rd_latticeTested_ne false (by decide))]
    · rw [hadded.rd _ (by decide) (by decide) (by decide), s.rd_latticeTested_ne false (by decide)]
    · rw [State.rdByte_of_mem hadded.mem, State.rdByte_of_mem (s.latticeTested_mem false)]

end Sys2Proof.Machine

/-! # Opcodes that only read (R316, R404, R439, R507, R544, R553, R562, R567) -/

namespace Sys2Proof.Machine

/-! ## A command whose effect is its answer -/

/-- Where an opcode's effect only answers, so does its packet, refused at steps 7 to 10 of R415, started or waiting. -/
theorem AnswerOnly.accept (s : State) (op : Nat) (p : Packet) (lenOk : Bool) {run : State → State} (aid : Aid)
    (hrun : ∀ u, AnswerOnly u (run u)) : AnswerOnly s (s.accept op p lenOk run aid) := by
  have hconsumed := AnswerOnly.consume s p
  unfold State.accept
  dsimp only
  split
  · refine hconsumed.trans (AnswerOnly.trans ?_ (AnswerOnly.answer _ _ _ _ _))
    exact .ite (.audit _ _ _ _ _ _) (.refl _)
  · refine hconsumed.trans ?_
    generalize s.consume p = u
    have hstarted (l : List InFlight) (k : Nat) :
        AnswerOnly u (State.put { u with inflight := l } (Reg.hostSess p.session) 8 5 k) :=
      (AnswerOnly.fields u u.rings u.sessions l u.replies u.net u.sent u.sec u.cyc).trans
        (AnswerOnly.put _ 8 5 k (outside_hostSess p.session))
    exact .ite ((hstarted _ _).trans (hrun _)) ((hstarted _ _).trans (.append _ _ _ _))

/-- A packet past steps 4 to 6 of R415 is accepted, whatever its length. -/
theorem State.command_of_take {s : State} {op : Nat} {p : Packet} (hserves : s.serves p.chan = true)
    (hroom : s.commandFull p.chan = false) (htake : s.judge op p = .take) (lenOk : Bool) (run : State → State)
    (aid : Aid) : s.command op p lenOk run aid = s.accept op p lenOk run aid := by
  rw [State.command, if_neg (by simp [hserves]), if_neg (by simp [hroom]), htake]

/-! ## The nine opcodes -/

theorem AnswerOnly.runShutStatus (s : State) (p : Packet) : AnswerOnly s (s.runShutStatus p) :=
  .ite (.finish _ _ _ _ _) (.finish _ _ _ _ _)

theorem AnswerOnly.runCounterRead (s : State) (p : Packet) : AnswerOnly s (s.runCounterRead p) :=
  .ite (.finish _ _ _ _ _) (.finish _ _ _ _ _)

theorem AnswerOnly.runAuditRead (s : State) (p : Packet) : AnswerOnly s (s.runAuditRead p) :=
  .ite (.finish _ _ _ _ _) (.finish _ _ _ _ _)

/-- The command `c` with packet `p` is opcode `op`, whose effect is its answer alone. -/
def OnlyReads (op : Nat) (p : Packet) (c : Instr) : Prop :=
  ∀ s : State, ∃ (lenOk : Bool) (run : State → State), (∀ u, AnswerOnly u (run u)) ∧
    exec c s = .next (s.command op p lenOk run)

theorem onlyReads_of_mem {op : Nat} {p : Packet} {c : Instr}
    (h : (op, c) ∈ [(0x0004, .sessionInfo p), (0x0404, .shutterStatus p), (0x0600, .statusRead p),
      (0x0603, .counterRead p), (0x0700, .fabStatus p), (0x0803, .imageStatus p), (0x0804, .auditRead p),
      (0x0900, .safeStatus p), (0x0901, .safeParamRead p)]) : OnlyReads op p c := by
  intro s
  simp only [List.mem_cons, Prod.mk.injEq, List.not_mem_nil, or_false] at h
  obtain ⟨rfl, rfl⟩ | ⟨rfl, rfl⟩ | ⟨rfl, rfl⟩ | ⟨rfl, rfl⟩ | ⟨rfl, rfl⟩ | ⟨rfl, rfl⟩ | ⟨rfl, rfl⟩ | ⟨rfl, rfl⟩
    | ⟨rfl, rfl⟩ := h
  · exact ⟨_, (·.runInfo p), fun u => .finish u _ _ _ _, rfl⟩
  · exact ⟨_, (·.runShutStatus p), fun u => .runShutStatus u p, rfl⟩
  · exact ⟨_, (·.runStatusRead p), fun u => .finish u _ _ _ _, rfl⟩
  · exact ⟨_, (·.runCounterRead p), fun u => .runCounterRead u p, rfl⟩
  · exact ⟨_, (·.runFabStatus p), fun u => .finish u _ _ _ _, rfl⟩
  · exact ⟨_, (·.runImageStatus p), fun u => .finish u _ _ _ _, rfl⟩
  · exact ⟨_, (·.runAuditRead p), fun u => .runAuditRead u p, rfl⟩
  · exact ⟨_, (·.runSafeStatus p), fun u => .finish u _ _ _ _, rfl⟩
  · exact ⟨_, (·.runParamRead p), fun u => .finish u _ _ _ _, rfl⟩

theorem OnlyReads.answerOnly {s t : State} {op : Nat} {p : Packet} {c : Instr} (hreads : OnlyReads op p c)
    (htakes : s.takes op p true) (hexec : exec c s = .next t) : AnswerOnly s t := by
  obtain ⟨hserves, hroom, htake, -, -⟩ := htakes
  obtain ⟨lenOk, run, hrun, hcommand⟩ := hreads s
  obtain rfl : s.command op p lenOk run = t := Host.Outcome.next.inj (hcommand.symm.trans hexec)
  rw [State.command_of_take hserves hroom htake]
  exact AnswerOnly.accept s op p lenOk .none hrun

/-- Settles O54: each of the opcodes changes what answering changes, and no more. -/
theorem readingOpcodesChangeNothingElse : Obligations.ReadingOpcodesChangeNothingElse := by
  intro s t p op c hmem htakes hexec
  have h := (onlyReads_of_mem hmem).answerOnly htakes hexec
  refine ⟨h.rdByte, h.staging, h.fixes, h.ledger, h.lane, h.modes, h.pwm, h.gate, h.safe, fun a hlo hhi => ?_⟩
  exact h.2 a (by unfold outsideConverter; omega)

end Sys2Proof.Machine

/-! # The opcodes of safety (R313, R314, R316) -/

namespace Sys2Proof.Machine

theorem exec_safeStatus_takes {s : State} {p : Packet} (h : s.takes 0x0900 p true) (hl : p.payload = []) :
    exec (.safeStatus p) s = .next ((s.taken 0x0900 p).runSafeStatus p) := by
  show execSafeStatus p s = _
  rw [execSafeStatus, decide_eq_true hl, State.command_takes h]

theorem exec_safeParamRead_takes {s : State} {p : Packet} (h : s.takes 0x0901 p true) (hl : p.payload = []) :
    exec (.safeParamRead p) s = .next ((s.taken 0x0901 p).runParamRead p) := by
  show execSafeParamRead p s = _
  rw [execSafeParamRead, decide_eq_true hl, State.command_takes h]

theorem exec_lockoutArm_takes {s : State} {p : Packet} (testOk : Bool) (h : s.takes 0x0902 p true)
    (hl : p.payload.length = 4) :
    exec (.lockoutArm p testOk) s = .next ((s.taken 0x0902 p (.flag testOk)).runArm p testOk) := by
  show execLockoutArm p testOk s = _
  rw [execLockoutArm, decide_eq_true hl, State.command_takes h]

theorem exec_lockoutConfirm_takes {s : State} {p : Packet} (h : s.takes 0x0903 p true) (hl : p.payload.length = 8) :
    exec (.lockoutConfirm p) s = .next ((s.taken 0x0903 p).runConfirm p) := by
  show execLockoutConfirm p s = _
  rw [execLockoutConfirm, decide_eq_true hl, State.command_takes h]

/-! ## A remote arm -/

/-- The packet's session is armed with challenge `c` until safety tick `e`, and SAFE_STATUS shows it (R313). -/
def State.armWith (s : State) (p : Packet) (c : Word) (e : Nat) : State :=
  (State.setBit { s with safe := { s.safe with
    arm := some { session := p.session, challenge := c, expiry := e, expired := false } } } Reg.safeStatus 7 true).put
    Reg.safeStatus 16 7 p.session

theorem State.armWith_arm (s : State) (p : Packet) (c : Word) (e : Nat) :
    (s.armWith p c e).safe.arm = some { session := p.session, challenge := c, expiry := e, expired := false } := rfl

theorem State.bit_armWith (s : State) (p : Packet) (c : Word) (e : Nat) :
    (s.armWith p c e).bit Reg.safeStatus 7 = true := by
  rw [State.armWith, State.bit, State.fld_put_apart _ _ _ (by decide) (by decide)]
  exact State.bit_setBit_same _ _ _ (by decide)

theorem State.fld_armWith (s : State) (p : Packet) (c : Word) (e : Nat) :
    (s.armWith p c e).fld Reg.safeStatus 16 7 = p.session % 128 :=
  State.fld_put_same _ _ _ (by decide)

/-- The checks of R313 pass one after the other, and the arm takes a fresh challenge. -/
theorem State.runArm_accepted {u : State} {p : Packet} {testOk : Bool} {e : Nat} (hremote : u.remoteReset = true)
    (hlatched : u.bit Reg.safeStatus 4 = true) (hcount : word (leAt p.payload 0 4) = u.rd Reg.safeLockoutCount)
    (harm : u.safe.arm = none) (hstanding : u.standing testOk = [])
    (he : e = ((u.rd Reg.safeTick).toNat + 1 + u.fld Reg.safeLockoutCfg 9 4 * 1000) % 2 ^ 32) :
    u.runArm p testOk
      = (u.freshWord.2.armWith p u.freshWord.1 e).finish 0x0902 p .ok (wordBytes u.freshWord.1 ++ n32 e) := by
  have hpermit : ¬ (¬ u.remoteReset = true ∨ ¬ u.bit Reg.safeStatus 4 = true) := by simp [hremote, hlatched]
  unfold State.runArm
  simp only [harm]
  rw [if_neg hpermit, if_neg (not_not_intro hcount), if_neg Bool.false_ne_true, if_neg (not_not_intro hstanding), he]
  rfl

/-- Settles O21: each packet that is taken runs its opcode; the arm passes its checks, and a CONFIRM joins those that
wait for the tick. -/
theorem safetyOpcodesComplete : Obligations.SafetyOpcodesComplete := by
  refine ⟨?status, ?params, ?arm, ?confirm⟩
  case status =>
    rintro s u p h rfl hl
    exact exec_safeStatus_takes h hl
  case params =>
    rintro s u p h rfl hl
    exact exec_safeParamRead_takes h hl
  case arm =>
    rintro s u p testOk e h rfl hl hremote hlatched hcount harm hstanding he
    exact ⟨_, _, (exec_lockoutArm_takes testOk h hl).trans
      (congrArg Host.Outcome.next (State.runArm_accepted hremote hlatched hcount harm hstanding he)),
      State.armWith_arm _ _ _ _, State.bit_armWith _ _ _ _, State.fld_armWith _ _ _ _⟩
  case confirm =>
    rintro s u v p l h rfl hl rfl rfl
    exact exec_lockoutConfirm_takes h hl

end Sys2Proof.Machine

/-! # The safety tick, its inputs and its outputs (R291, R295, R296, R301, R302, R312) -/

namespace Sys2Proof.Machine

/-! ## The tick, discrepancies and test pulses -/

theorem exec_safetyTick_well {s : State} (raw : Word) (rstA rstB testOk : Bool) (closedA closedB voltage : Nat)
    (persist : List Nat) (hok : s.procOk = true) :
    exec (.safetyTick raw rstA rstB closedA closedB voltage testOk persist) s
      = .next (s.safetyWork raw rstA rstB
          { closedA := closedA, closedB := closedB, voltage := voltage, testOk := testOk, persist := persist }) :=
  congrArg Host.Outcome.next (if_pos hok)

theorem exec_inputDiscrepancy_due {s : State} {i : Nat} (hi : i < 16) (hok : s.procOk = true)
    (hdue : s.discDue i = true) : exec (.inputDiscrepancy i) s = .next (s.faultInput i).goOnTick :=
  congrArg Host.Outcome.next (if_pos ⟨hi, hok, hdue⟩)

/-- A pulse of the switch whose turn it is; the other switch has the next one (R301). -/
theorem exec_soutTestPulse_due {s u : State} {n : Nat} {b : Bool} (opened closed : Nat) (hn : n < 8)
    (hok : s.procOk = true) (hdue : s.pulseDue n = true) (hb : b = (s.outTest n).nextB)
    (hu : u = s.setOutTest n { age := 0, nextB := !b }) :
    exec (.soutTestPulse n b opened closed) s
      = .next (if opened ≤ 100 * s.fld (Reg.safeOutCfg n) 7 4 ∧ closed ≤ 100 * s.fld (Reg.safeOutCfg n) 7 4 + 100 then u
          else u.faultOutput n) := by
  subst hu
  exact congrArg Host.Outcome.next (if_pos ⟨hn, hok, hdue, hb⟩)

/-! ## The local reset -/

/-- The release is evaluated, and after a refusal both channels must be low again (R312). -/
theorem exec_localReset_due {s u : State} (testOk : Bool) (persist : List Nat) (hdue : s.localDue = true)
    (hu : u = (s.tryRelease testOk persist).1) :
    exec (.localReset testOk persist) s
      = .next (if (s.tryRelease testOk persist).2 then u
          else u.setRst { u.safe.rst with hold := 0, lowA := false, lowB := false }).showMirror := by
  subst hu
  exact congrArg Host.Outcome.next (if_pos hdue)

/-- A channel that has been high alone for more than 500 ms is ignored, and told of once (R312). -/
theorem exec_resetDiscrepancy_due {s : State} (hok : s.procOk = true)
    (halone : 500 < s.safe.rst.aloneA ∨ 500 < s.safe.rst.aloneB) (hfirst : s.safe.rst.ignored = false) :
    exec .resetDiscrepancy s
      = .next ((s.setRst { s.safe.rst with ignored := true, hold := 0 }).raise 0x0904 []) :=
  congrArg Host.Outcome.next (if_pos ⟨hok, halone, Bool.eq_false_iff.mp hfirst⟩)

/-- Settles O32: each row is due under its conditions; a local reset is released or refused. -/
theorem safetyTickRowsComplete : Obligations.SafetyTickRowsComplete := by
  refine ⟨?tick, fun s i hi hok hdue => exec_inputDiscrepancy_due hi hok hdue,
    fun s u n opened closed b hn hok hdue hb hu => exec_soutTestPulse_due opened closed hn hok hdue hb hu,
    fun s n hn hok hfirst => exec_soutOvercurrent_faults hn hok hfirst, ?released, ?refused,
    fun s hok halone hfirst => exec_resetDiscrepancy_due hok halone hfirst⟩
  case tick =>
    rintro s raw rstA rstB testOk closedA closedB voltage persist r hok rfl
    exact exec_safetyTick_well raw rstA rstB testOk closedA closedB voltage persist hok
  case released =>
    intro s testOk persist hdue hok
    rw [exec_localReset_due testOk persist hdue rfl, if_pos hok]
  case refused =>
    rintro s u testOk persist r hdue hu hok rfl
    rw [exec_localReset_due testOk persist hdue hu, if_neg (Bool.eq_false_iff.mp hok)]

end Sys2Proof.Machine

/-! # The lattice, the processor and safe streams (R287, R288, R292, R293, R304, R306, R313) -/

namespace Sys2Proof.Machine

/-! ## The lattice -/

theorem exec_latticeDemand_begins {s : State} {i : Nat} (hi : i < 16) (hmarked : s.latticeMarked i = true)
    (hfirst : s.safe.diag.demand / 2 ^ i % 2 = 0) :
    exec (.latticeDemand i) s
      = .next (s.setDiag { s.safe.diag with demand := s.safe.diag.demand + 2 ^ i }).showLattice :=
  congrArg Host.Outcome.next (if_pos ⟨hi, hmarked, hfirst⟩)

theorem exec_latticeDemandEnd_ends {s : State} {i : Nat} (hi : i < 16)
    (hdemand : s.safe.diag.demand / 2 ^ i % 2 = 1) :
    exec (.latticeDemandEnd i) s
      = .next (s.setDiag { s.safe.diag with demand := s.safe.diag.demand - 2 ^ i }).showLattice :=
  congrArg Host.Outcome.next (if_pos ⟨hi, hdemand⟩)

/-! ## The processor -/

/-- The lattice latches, both cores restart, and of the mirror only proc_ok changes (R288, R293). -/
theorem exec_lockstepMismatch_well {s u v : State} (hok : s.procOk = true)
    (hu : u = (s.countUp Reg.safeDiag 0 4 1).setBit Reg.safeStatus 8 false)
    (hv : v = ((u.setDiag { u.safe.diag with restarting := true, restarted := false }).latticeLatches 5 0).showProc) :
    exec .lockstepMismatch s
      = .next { v with safe := { v.safe with
          rest := none
          mirror := sparseSet resetValue v.safe.mirror Reg.safeStatus
            (v.mirrorWord Reg.safeStatus &&& ~~~(word (2 ^ 8))) } } := by
  subst hv hu
  exact congrArg Host.Outcome.next (if_pos hok)

theorem exec_processorRestartDone_restarting {s : State} (h : s.safe.diag.restarting = true) :
    exec .processorRestartDone s
      = .next ((s.setDiag { s.safe.diag with restarting := false, restarted := true }).setBit Reg.safeStatus 8
          true).showProc :=
  congrArg Host.Outcome.next (if_pos h)

/-! ## Safe streams and the arm -/

theorem exec_degradedWindowExpiry_due {s : State} {r : Nat} (hr : r < 16) (hok : s.procOk = true)
    (hdue : s.windowDue r = true) : exec (.degradedWindowExpiry r) s = .next (s.loseSub r).goOnTick :=
  congrArg Host.Outcome.next (if_pos ⟨hr, hok, hdue⟩)

/-- An arm expires once its tick has come, and SAFE_STATUS no longer shows it (R313). -/
theorem exec_armExpired_due {s : State} {a : Arm} (harm : s.safe.arm = some a) (hfirst : a.expired = false)
    (hpast : s.tickPast a.expiry = true ∨ (s.rd Reg.safeTick).toNat = a.expiry) :
    exec .armExpired s
      = .next (((State.setBit { s with safe := { s.safe with arm := some { a with expired := true } } } Reg.safeStatus 7
          false).put Reg.safeStatus 16 7 0).showMirror) := by
  show execArmExpired s = _
  simp only [execArmExpired, harm]
  rw [if_pos ⟨Bool.eq_false_iff.mp hfirst, hpast⟩]

/-- Settles O33: each row is due under its conditions. -/
theorem latticeAndSafeStreamRowsComplete : Obligations.LatticeAndSafeStreamRowsComplete := by
  refine ⟨fun s i hi hmarked hfirst => exec_latticeDemand_begins hi hmarked hfirst,
    fun s i hi hdemand => exec_latticeDemandEnd_ends hi hdemand,
    fun s ok hok hlow hage => exec_latticeTest_due ok hok hlow hage, fun s => rfl, ?mismatch, ?restarted,
    fun s plane node stream seq data crc inSlot => rfl,
    fun s r hr hok hdue => exec_degradedWindowExpiry_due hr hok hdue, ?expired⟩
  case mismatch =>
    rintro s u v m w hok hu hv rfl rfl
    exact exec_lockstepMismatch_well hok hu hv
  case restarted =>
    rintro s d hrestarting rfl
    exact exec_processorRestartDone_restarting hrestarting
  case expired =>
    rintro s u a w harm hfirst hpast rfl rfl
    exact exec_armExpired_due harm hfirst hpast

end Sys2Proof.Machine

/-! # A force on an item whose force does not act (R352, R354) -/

namespace Sys2Proof.Machine

theorem exec_forceSet_takes {s : State} {p : Packet} (h : s.takes 0x0303 p true) (hl : p.payload.length = 8) :
    exec (.forceSet p) s = .next ((s.taken 0x0303 p).runForceSet p) := by
  show execForceSet p s = _
  rw [execForceSet, decide_eq_true hl, State.command_takes h]

/-- A force on an item already forced replaces its value (R352), whether or not the program is RUNNING. -/
theorem State.runForceSet_held {u : State} {p : Packet} {f : Force}
    (hf : f = { kind := leAt p.payload 0 1, index := leAt p.payload 2 2, value := word (leAt p.payload 4 4) })
    (hlease : u.leaseCheck 5 0 p = none) (hcheck : u.forceCheck f.kind f.index f.value = none)
    (hheld : u.cyc.forces.any (fun g => g.kind == f.kind && g.index == f.index) = true) :
    u.runForceSet p
      = (State.showForces { u with cyc := { u.cyc with
          forces := u.cyc.forces.map (fun g => if g.kind = f.kind ∧ g.index = f.index then f else g) } } p 1).finish
          0x0303 p .ok [] := by
  subst hf
  unfold State.runForceSet
  simp only [hlease, hcheck]
  rw [if_neg (fun hroom => hroom.1 hheld), if_pos hheld]

/-- FORCE_SET of DIO input 31 to 1, from session 3 on SPI. -/
def forceInputHigh : Packet :=
  { chan := 7, srcIp := 0, srcPort := 0, session := 3, seq := 1, tag := 0, lease := 0, auth := .right, crc := 0,
    payload := n8 1 ++ n8 0 ++ n16 31 ++ n32 1 }

/-- Start-up is complete, session 3 with role ENGINEER holds the lease of the force table, no program is loaded, and DIO
input 31 has been forced to 0. -/
def forcedAndIdle : State :=
  let s := (State.reset.put Reg.sysBoot 0 4 9).put Reg.hostCfg 24 4 15
  let s := s.wr (Reg.hostSess 3) (word (2 + 7 * 2 ^ 2 + 2 * 2 ^ 5 + 1 * 2 ^ 13))
  let s := (s.wr (Reg.hostLeaseA 0) (word (5 + 3 * 2 ^ 24))).wr (Reg.hostLeaseB 0) (word (1 + 1000 * 2 ^ 16))
  { s with cyc := { CycleSt.reset with forces := [{ kind := 1, index := 31, value := 0 }] } }

set_option maxRecDepth 20000 in
theorem forcedAndIdle_takes : forcedAndIdle.takes 0x0303 forceInputHigh true :=
  ⟨by decide, by decide, by decide, by decide, by decide⟩

set_option maxRecDepth 20000 in
/-- Refutes O11: its clause on FORCE_SET asks `forceOn` whether the item is forced already, and that names only a force
that acts, of a program that is RUNNING (R354). Where a force is held and rests, the clause appends a second force on its
item, and the model replaces its value (R352). -/
theorem not_programOpcodesComplete : ¬ Obligations.ProgramOpcodesComplete := by
  intro h
  obtain ⟨-, -, -, hset, -⟩ := h
  have hlease : (forcedAndIdle.taken 0x0303 forceInputHigh).leaseCheck 5 0 forceInputHigh = none := by decide
  have hclaim := hset forcedAndIdle _ forceInputHigh { kind := 1, index := 31, value := 1 } _ forcedAndIdle_takes rfl
    (by decide) hlease (by decide) (fun _ => by decide) (by decide) rfl
  have hmodel := (exec_forceSet_takes forcedAndIdle_takes (by decide)).trans (congrArg Host.Outcome.next
    (State.runForceSet_held (f := { kind := 1, index := 31, value := 1 }) (by decide) hlease (by decide) (by decide)))
  have hsame := Host.Outcome.next.inj (hmodel.symm.trans hclaim)
  have hforces := congrArg (fun s => s.cyc.forces.length) hsame
  exact absurd hforces (by decide)

end Sys2Proof.Machine

/-! # The timetable, fabric cycles, streams and the secondary layer (R346, R489, R493 to R495, R498 to R500, R502, R504) -/

namespace Sys2Proof.Machine

/-! ## The timetable -/

theorem exec_ttSwapped_due {s : State} {cycle : Nat} (hswap : s.fab.tt.swap = some cycle) (hset : cycle ≠ 0)
    (hdue : cycle = (s.rd Reg.fabCycle).toNat + 1) : exec .ttSwapped s = .next (s.swapTables cycle) := by
  show execTtSwapped s = _
  simp only [execTtSwapped, hswap]
  rw [if_pos ⟨hset, hdue⟩]

theorem exec_ttDirectApply_due {s : State} {v : TtDirect} (hdirect : s.fab.tt.direct = some v) (hset : v.boundary ≠ 0)
    (hfirst : v.late = false) (hdue : v.boundary = (s.rd Reg.fabCycle).toNat + 1) :
    exec .ttDirectApply s = .next (s.applyDirect v) := by
  show execTtDirectApply s = _
  simp only [execTtDirectApply, hdirect]
  rw [if_pos ⟨hset, Bool.eq_false_iff.mp hfirst, hdue.symm⟩]

/-- Entries whose slots were in progress at the boundary follow one cycle later (R495). -/
theorem exec_ttDirectApply_late {s : State} {v : TtDirect} (hdirect : s.fab.tt.direct = some v) (hlate : v.late = true)
    (hdue : v.boundary = (s.rd Reg.fabCycle).toNat) :
    exec .ttDirectApply s = .next (s.writeActive v.entries).endDirect := by
  show execTtDirectApply s = _
  simp only [execTtDirectApply, hdirect]
  rw [if_neg (fun hfirst => hfirst.2.1 hlate), if_pos ⟨hlate, congrArg (· + 1) hdue.symm⟩]

theorem exec_ttDistributionTimeout_due {s : State} {d : TtDist} (hdist : s.fab.tt.dist = some d)
    (hdue : d.start + 200 ≤ s.tick) : exec .ttDistributionTimeout s = .next s.endDist := by
  show execTtDistributionTimeout s = _
  simp only [execTtDistributionTimeout, hdist]
  rw [if_pos hdue]

/-! ## Cycles -/

/-- The surveyor leads each cycle (R498). -/
theorem exec_cycleStart_surveyor {s : State} (dt incNs incFrac : Nat) (hclock : s.fabClock = true)
    (hlead : s.isSurveyor = true) : exec (.cycleStart dt incNs incFrac) s = .next (s.leadCycle dt) :=
  congrArg Host.Outcome.next ((if_neg (not_not_intro hclock)).trans (if_pos hlead))

/-- Another node that has routes keeps the cycle (R499). -/
theorem exec_cycleStart_follower {s : State} (dt incNs incFrac : Nat) (hclock : s.fabClock = true)
    (hlead : s.isSurveyor = false) (hroutes : s.hasRoutes = true) :
    exec (.cycleStart dt incNs incFrac) s = .next (s.keepCycle dt incNs incFrac) :=
  congrArg Host.Outcome.next
    ((if_neg (not_not_intro hclock)).trans ((if_neg (Bool.eq_false_iff.mp hlead)).trans (if_pos hroutes)))

theorem exec_cycleLost_due {s u : State} (hlead : s.isSurveyor = false) (hmissed : 8 ≤ s.fab.cyc.missed)
    (hfirst : s.fab.cyc.lost = false)
    (hu : u = ((s.setFabCyc { s.fab.cyc with lost := true }).setBit Reg.fabStatus 3 false).raise 0x0F09 []) :
    exec .cycleLost s = .next (if u.timeSource = 3 then u.loseTime else u).showFab := by
  subst hu
  exact congrArg Host.Outcome.next (if_pos ⟨Bool.eq_false_iff.mp hlead, hmissed, Bool.eq_false_iff.mp hfirst⟩)

/-! ## Slots and streams -/

/-- A safe publication needs the SAFE transmitter enabled (R303). -/
theorem exec_slotTransmit_own {s : State} {n i : Nat} (hown : s.ownSlot n = true)
    (hpub : s.pubOf (slotAt s.fab.active n).stream = some i)
    (hsafe : s.fld (Reg.fabPubCfg i) 1 2 = 1 → s.bit Reg.safeTxCfg 0 = true) :
    exec (.slotTransmit n) s = .next (s.publish i (slotAt s.fab.active n)) := by
  show execSlotTransmit n s = _
  simp only [execSlotTransmit, hpub]
  rw [if_pos hown, if_neg (fun ⟨hkind, hoff⟩ => hoff (hsafe hkind))]

theorem exec_streamLost_due {s u : State} {j : Nat} (hj : j < 256) (hon : s.subOn j = true) (hkind : s.subKind j ≠ 1)
    (hfirst : s.bit (Reg.fabSubStat j) 1 = false) (hmissed : s.fld (Reg.fabSubCfg j) 19 8 ≤ (s.subAt j).missed)
    (hu : u = ((s.setBit (Reg.fabSubStat j) 0 false).setBit (Reg.fabSubStat j) 1 true).raise 0x0F0A []) :
    exec (.streamLost j) s = .next (if u.subKind j = 0 then u.loseStation j else u) := by
  subst hu
  exact congrArg Host.Outcome.next (if_pos ⟨hj, hon, hkind, Bool.eq_false_iff.mp hfirst, hmissed⟩)

theorem exec_streamReturned_due {s u : State} {j : Nat} (hj : j < 256) (hon : s.subOn j = true)
    (hlost : s.bit (Reg.fabSubStat j) 1 = true) (hrun : 2 ≤ (s.subAt j).run)
    (hu : u = ((s.setBit (Reg.fabSubStat j) 0 true).setBit (Reg.fabSubStat j) 1 false).raise 0x0F0B []) :
    exec (.streamReturned j) s = .next (if u.subKind j = 0 then u.returnStation j else u) := by
  subst hu
  exact congrArg Host.Outcome.next (if_pos ⟨hj, hon, hlost, hrun⟩)

/-! ## The secondary layer -/

theorem exec_secondaryReportSend_due {s : State} (hon : s.bit Reg.fabSecCfg 0 = true)
    (hdue : s.modes.second.since + s.secondaryPeriod ≤ s.tick) :
    exec .secondaryReportSend s = .next s.secondaryReport :=
  congrArg Host.Outcome.next (if_pos ⟨hon, hdue⟩)

/-- The surveyor computes each section from the reports of the period that ends, and a new period begins (R504). -/
theorem exec_secondaryCompute_due {s u : State} (hlead : s.isSurveyor = true)
    (hdue : s.fab.second.since + s.secondaryPeriod ≤ s.tick)
    (hu : u = s.setFab { s.fab with second := { s.fab.second with reports := [], since := s.tick } }) :
    exec .secondaryCompute s = .next ((List.range 256).foldl (fun u z =>
      u.secondarySection z (s.fab.second.reports.filter (fun r => r.sect == z))) u) := by
  subst hu
  exact congrArg Host.Outcome.next (if_pos ⟨hlead, hdue⟩)

/-- Settles O42: each row is due under its conditions; a direct write reaches its boundary or follows one cycle later, and
a cycle is led or kept. -/
theorem timetableRowsComplete : Obligations.TimetableRowsComplete := by
  refine ⟨fun s cycle hswap hset hdue => exec_ttSwapped_due hswap hset hdue,
    fun s v hdirect hset hfirst hdue => exec_ttDirectApply_due hdirect hset hfirst hdue,
    fun s v hdirect hlate hdue => exec_ttDirectApply_late hdirect hlate hdue,
    fun s d hdist hdue => exec_ttDistributionTimeout_due hdist hdue,
    fun s dt incNs incFrac hclock hlead => exec_cycleStart_surveyor dt incNs incFrac hclock hlead,
    fun s dt incNs incFrac hclock hlead hroutes => exec_cycleStart_follower dt incNs incFrac hclock hlead hroutes,
    fun s u hlead hmissed hfirst hu => exec_cycleLost_due hlead hmissed hfirst hu,
    fun s n i hown hpub hsafe => exec_slotTransmit_own hown hpub hsafe,
    fun s u j hj hon hkind hfirst hmissed hu => exec_streamLost_due hj hon hkind hfirst hmissed hu,
    fun s u j hj hon hlost hrun hu => exec_streamReturned_due hj hon hlost hrun hu,
    fun s hon hdue => exec_secondaryReportSend_due hon hdue, ?compute⟩
  case compute =>
    rintro s u w hlead hdue rfl hu
    exact exec_secondaryCompute_due hlead hdue hu

end Sys2Proof.Machine

/-! # Steps, the waiting commands and the module tick (R530, R593) -/

namespace Sys2Proof.Machine

/-- Settles O1: the front command leaves the queue before it runs. -/
theorem stepRunsTheFrontCommand : Obligations.StepRunsTheFrontCommand := fun _ _ _ => rfl

theorem step_of_empty {s : State} (h : s.pending = []) : step s = .next s := by
  unfold step
  rw [h]

/-- Settles O2: a step looks for a waiting command first. -/
theorem emptyQueueIdles : Obligations.EmptyQueueIdles := fun _ => step_of_empty

/-- Settles O6: whether or not it moves the tick, a command keeps the commands behind it. -/
theorem commandsLeaveTheQueue : Obligations.CommandsLeaveTheQueue := by
  intro c s t e
  obtain k | ⟨k, -⟩ | ⟨k, -⟩ := exec_keeps e
  · exact k.pending
  · exact k.pending
  · exact k.pending

/-- Settles O57: a command keeps the tick of `s`, of `s` one tick later, or of `s` at tick 0. -/
theorem onlyModuleTicksMoveTheTick : Obligations.OnlyModuleTicksMoveTheTick := by
  intro c s t e
  obtain k | ⟨k, hc⟩ | ⟨k, hc⟩ := exec_keeps e
  · exact .inl k.tick
  · exact .inr (.inl ⟨k.tick, hc⟩)
  · exact .inr (.inr ⟨k.tick, hc⟩)

end Sys2Proof.Machine

/-! # A packet that is taken runs its opcode -/

namespace Sys2Proof.Machine

/-- Where no check of R415 refuses the packet, its length among them, the opcode runs in the taken state. -/
theorem State.next_command_takes {s : State} {op : Nat} {p : Packet} {lenOk : Bool} (h : s.takes op p true)
    (hlen : lenOk = true) (run : State → State) (aid : Aid) :
    (.next (s.command op p lenOk run aid) : Host.Outcome State Fault Refusal) = .next (run (s.taken op p aid)) := by
  rw [hlen, State.command_takes h]

end Sys2Proof.Machine

/-! # Mappings of a context (R371, R374 to R376) -/

namespace Sys2Proof.Machine

theorem overlaps_of_mem {va n b m a : Nat} (hlo : va ≤ a) (hhi : a < va + n) (hb : b ≤ a) (hm : a < b + m) :
    overlaps va n b m = true := by
  simp only [overlaps, Bool.and_eq_true, decide_eq_true_eq]
  omega

/-- A mapping of context `ctx` that MEM_UNMAP of `n` bytes from `va` meets. -/
def unmapHits (ctx va n : Nat) (m : Mapping) : Bool := m.ctx == ctx && overlaps va n m.vaddr m.size

/-- The mappings without those that MEM_UNMAP meets. -/
def State.withoutMaps (s : State) (ctx va n : Nat) : State :=
  { s with memx := { s.memx with maps := s.memx.maps.filter (fun m => !unmapHits ctx va n m) } }

/-- Exactly one or more whole mappings of the context are removed (R375). -/
theorem State.runUnmap_whole {u : State} {p : Packet} {va n : Nat} {ms : List Mapping} (hva : va = leAt p.payload 0 4)
    (hn : n = leAt p.payload 4 4) (hms : ms = u.memx.maps.filter (unmapHits p.session va n)) (hne : ms ≠ [])
    (hin : ∀ m ∈ ms, va ≤ m.vaddr ∧ m.vaddr + m.size ≤ va + n) (hsum : ms.foldl (fun a m => a + m.size) 0 = n) :
    u.runUnmap p = (u.withoutMaps p.session va n).finish 0x0503 p .ok [] := by
  subst hva hn hms
  have hall : (u.memx.maps.filter (unmapHits p.session (leAt p.payload 0 4) (leAt p.payload 4 4))).all
      (fun m => decide (leAt p.payload 0 4 ≤ m.vaddr) && decide (m.vaddr + m.size ≤ leAt p.payload 0 4 + leAt p.payload 4 4))
      = true := by
    simpa only [List.all_eq_true, Bool.and_eq_true, decide_eq_true_eq] using hin
  refine if_neg ?_
  rintro (h | h | h)
  · exact hne h
  · exact h hall
  · exact h hsum

/-- Any other range is refused (R375). -/
theorem State.runUnmap_other {u : State} {p : Packet} {va n : Nat} {ms : List Mapping} (hva : va = leAt p.payload 0 4)
    (hn : n = leAt p.payload 4 4) (hms : ms = u.memx.maps.filter (unmapHits p.session va n))
    (h : ms = [] ∨ (∃ m ∈ ms, m.vaddr < va ∨ va + n < m.vaddr + m.size) ∨ ms.foldl (fun a m => a + m.size) 0 ≠ n) :
    u.runUnmap p = u.finish 0x0503 p .outOfRange [] := by
  subst hva hn hms
  refine if_pos ?_
  obtain h | ⟨m, hm, hout⟩ | h := h
  · exact .inl h
  · refine .inr (.inl fun hall => ?_)
    have := List.all_eq_true.mp hall m hm
    simp only [Bool.and_eq_true, decide_eq_true_eq] at this
    omega
  · exact .inr (.inr h)

theorem exec_memUnmap_takes {s : State} {p : Packet} (h : s.takes 0x0503 p true) (hl : p.payload.length = 8) :
    exec (.memUnmap p) s = .next ((s.taken 0x0503 p).runUnmap p) :=
  State.next_command_takes h (decide_eq_true hl) _ _

/-- An address of shared SRAM that no mapping of the session covers is unmapped (R375). -/
theorem State.place_unmapped {s : State} {ctx a : Nat} (hctx : ctx < 128) (ha : a < memSize)
    (hmaps : ∀ m ∈ s.memx.maps, m.ctx = ctx → m.vaddr ≤ a → m.vaddr + m.size ≤ a) : s.place ctx a = .unmapped := by
  have hnone : s.memx.maps.find?
      (fun m => m.ctx == ctx && decide (m.vaddr ≤ a) && decide (a < m.vaddr + m.size)) = none := by
    simp only [List.find?_eq_none, Bool.and_eq_true, beq_iff_eq, decide_eq_true_eq]
    rintro m hm ⟨⟨hc, hlo⟩, hhi⟩
    exact absurd (hmaps m hm hc hlo) (by omega)
  have hb := not_inBlocks_of_lt_memSize ha
  have hsram : a < 0x80000000 := by unfold memSize at ha; omega
  unfold State.place
  rw [if_neg (by unfold systemCtx; omega), hnone]
  dsimp only
  rw [if_neg (by simp [hb]), if_neg (by omega), if_pos (.inl ha)]

theorem State.wordFault_unmapped {s : State} {ctx a : Nat} (write : Bool) (h : s.place ctx a = .unmapped) :
    s.wordFault ctx a write = some (.translation 0) := by
  rw [State.wordFault, h]

/-- Settles O53: the mappings that are left meet no address of the range. -/
theorem unmappedRangeFaults : Obligations.UnmappedRangeFaults := by
  rintro s u p va n ms h rfl hl hsess hva hn hms
  have hkept : (s.taken 0x0503 p).memx.maps = s.memx.maps := (AnswerOnly.taken _ _ _ _).maps
  refine ⟨fun hne hin hsum => ?_, fun hbad => ?_⟩
  · have hexec := (exec_memUnmap_takes h hl).trans
      (congrArg Host.Outcome.next (State.runUnmap_whole hva hn hms hne hin hsum))
    have hmaps : (((s.taken 0x0503 p).withoutMaps p.session va n).finish 0x0503 p .ok []).memx.maps
        = (s.taken 0x0503 p).memx.maps.filter (fun m => !unmapHits p.session va n m) :=
      (AnswerOnly.finish _ _ _ _ _).maps
    refine ⟨_, _, hexec, rfl, fun a b hlo hhi ha => ?_, fun m => ?_⟩
    · refine State.wordFault_unmapped b (State.place_unmapped hsess ha fun m hm hc hle => ?_)
      by_contra hcover
      rw [hmaps, List.mem_filter] at hm
      have hover := overlaps_of_mem hlo hhi hle (Nat.lt_of_not_le hcover)
      simp [unmapHits, hc, hover] at hm
    · rw [hmaps, hms, ← hkept]
      change _ ∈ List.filter (fun m => !unmapHits p.session va n m) _ ↔ _ ∧ _ ∉ List.filter (unmapHits p.session va n) _
      rw [List.mem_filter, List.mem_filter]
      cases unmapHits p.session va n m <;> simp
  · exact ⟨_, (exec_memUnmap_takes h hl).trans
      (congrArg Host.Outcome.next (State.runUnmap_other hva hn hms hbad)), rfl,
      (AnswerOnly.finish _ _ _ _ _).maps.trans hkept⟩

end Sys2Proof.Machine

/-! # The opcodes of memory and DMA (R373 to R375, R378, R382) -/

namespace Sys2Proof.Machine

theorem exec_memRead_takes {s : State} {p : Packet} (host : List Byte) (k : Nat) (h : s.takes 0x0500 p true)
    (hl : p.payload.length = 8) :
    exec (.memRead p host k) s = .next ((s.taken 0x0500 p (.host host k)).runMemRead p host k) :=
  State.next_command_takes h (decide_eq_true hl) _ _

theorem exec_memWrite_takes {s : State} {p : Packet} (k : Nat) (h : s.takes 0x0501 p true)
    (hmin : 8 ≤ p.payload.length) (hmax : p.payload.length ≤ 4092) :
    exec (.memWrite p k) s = .next ((s.taken 0x0501 p (.host [] k)).runMemWrite p k) :=
  State.next_command_takes h (by simp [hmin, hmax]) _ _

theorem exec_memMap_takes {s : State} {p : Packet} (h : s.takes 0x0502 p true) (hl : p.payload.length = 16) :
    exec (.memMap p) s = .next ((s.taken 0x0502 p).runMap p) :=
  State.next_command_takes h (decide_eq_true hl) _ _

theorem exec_dmaStart_takes {s : State} {p : Packet} (h : s.takes 0x0504 p true)
    (hl : p.payload.length = 4 + 16 * leAt p.payload 2 2) :
    exec (.dmaStart p) s = .next ((s.taken 0x0504 p).runDmaStart p) :=
  State.next_command_takes h (by simp [hl]) _ _

theorem exec_dmaAbort_takes {s : State} {p : Packet} (h : s.takes 0x0505 p true) (hl : p.payload.length = 4) :
    exec (.dmaAbort p) s = .next ((s.taken 0x0505 p).runDmaAbort p) :=
  State.next_command_takes h (decide_eq_true hl) _ _

theorem exec_dmaStatus_takes {s : State} {p : Packet} (h : s.takes 0x0506 p true) (hl : p.payload.length = 4) :
    exec (.dmaStatus p) s = .next ((s.taken 0x0506 p).runDmaStatus p) :=
  State.next_command_takes h (decide_eq_true hl) _ _

/-- The words of a range in which no access fails are answered (R373). -/
theorem State.runMemRead_accepted {u : State} {p : Packet} (host : List Byte) (k : Nat)
    (ha : leAt p.payload 0 4 % 4 = 0) (hn : leAt p.payload 4 4 % 4 = 0) (hmin : 4 ≤ leAt p.payload 4 4)
    (hmax : leAt p.payload 4 4 ≤ 4088)
    (hok : u.rangeFault p.session (leAt p.payload 0 4) (leAt p.payload 4 4 / 4) false = none) :
    ∃ v : State, u.runMemRead p host k = v.finish 0x0500 p .ok
          ((u.countEcc p.session (leAt p.payload 0 4) (leAt p.payload 4 4 / 4) k).readWords p.session
            (leAt p.payload 0 4) (leAt p.payload 4 4 / 4) host).1 ∧
        v = ((u.countEcc p.session (leAt p.payload 0 4) (leAt p.payload 4 4 / 4) k).readWords p.session
            (leAt p.payload 0 4) (leAt p.payload 4 4 / 4) host).2 := by
  refine ⟨_, ?_, rfl⟩
  unfold State.runMemRead
  simp only [hok]
  rw [if_neg (by omega)]

/-- Words that no check refuses are written in ascending address (R373, R432). -/
theorem State.runMemWrite_accepted {u : State} {p : Packet} (k : Nat) (ha : leAt p.payload 0 4 % 4 = 0)
    (hn : (p.payload.length - 4) % 4 = 0)
    (hok : u.firstRefused p (leAt p.payload 0 4) (bytesWords ((p.payload.length - 4) / 4) (p.payload.drop 4)) = none) :
    u.runMemWrite p k = ((u.countEcc p.session (leAt p.payload 0 4) ((p.payload.length - 4) / 4) k).writeWords p.session
        (leAt p.payload 0 4) (bytesWords ((p.payload.length - 4) / 4) (p.payload.drop 4))).finish 0x0501 p .ok [] := by
  unfold State.runMemWrite
  simp only [hok]
  rw [if_neg (by omega)]

/-- A new range of whole pages, apart from every range that the context has, is mapped (R374). -/
theorem State.runMap_accepted {u : State} {p : Packet} {va da n page : Nat} {m : Mapping}
    (hva : va = leAt p.payload 0 4) (hda : da = leAt p.payload 4 4) (hn : n = leAt p.payload 8 4)
    (hpage : page = if leAt p.payload 12 4 / 2 % 2 = 1 then 0x200000 else 0x1000) (hpos : 0 < n)
    (hvap : va % page = 0) (hdap : da % page = 0) (hnp : n % page = 0) (hend : va + n ≤ 2 ^ 32)
    (hsram : da + n ≤ memSize)
    (hapart : (u.memx.maps.filter (fun m => m.ctx == p.session)).any (fun m => overlaps va n m.vaddr m.size) = false)
    (hblocks : overlaps va n 0x10000000 0x110000 = false)
    (hhost : overlaps va n 0x80000000 (u.hostWindow p.session) = false)
    (hroom : (u.memx.maps.filter (fun m => m.ctx == p.session)).length < 1024)
    (hm : m = { ctx := p.session, vaddr := va, daddr := da, size := n, write := leAt p.payload 12 4 % 2 == 1 }) :
    u.runMap p = State.finish { u with memx := { u.memx with maps := u.memx.maps ++ [m] } } 0x0502 p .ok [] := by
  subst hva hda hn hpage hm
  unfold State.runMap
  dsimp only
  rw [if_neg, if_neg hsram.not_gt, if_neg hroom.not_ge]
  rintro (h | h | h | h | h | h | h | h)
  · exact h hvap
  · exact h hdap
  · exact h hnp
  · exact hpos.ne' h
  · exact h.not_ge hend
  · exact Bool.false_ne_true (hapart.symm.trans h)
  · exact Bool.false_ne_true (hblocks.symm.trans h)
  · exact Bool.false_ne_true (hhost.symm.trans h)

/-- An allowed chain on an idle, unmarked channel of the session is queued (R378). -/
theorem State.runDmaStart_accepted {u : State} {p : Packet} {k : Nat} (hown : u.ownChannel p = some k)
    (hmark : u.bit (Reg.memDmaFault (k / 32)) (k % 32) = false) (hidle : u.dmaState k = 0)
    (hne : dmaXfers p.payload ≠ []) (hmax : (dmaXfers p.payload).length ≤ 255)
    (hok : (dmaXfers p.payload).all DmaXfer.ok = true) :
    u.runDmaStart p = (((u.setDmaCh k
      { xfers := dmaXfers p.payload, moved := 0, index := 0, packet := some p }).setDmaState k 1).showDma k).finish
        0x0504 p .ok [] := by
  have hrange : ¬ (dmaXfers p.payload = [] ∨ 255 < (dmaXfers p.payload).length
      ∨ ¬ (dmaXfers p.payload).all DmaXfer.ok = true) := by
    rintro (h | h | h)
    · exact hne h
    · exact h.not_ge hmax
    · exact h hok
  unfold State.runDmaStart
  simp only [hown]
  rw [if_neg (by simp [hmark]), if_neg (not_not_intro hidle), if_neg hrange]

theorem State.runDmaAbort_idle {u : State} {p : Packet} {k : Nat} (hown : u.ownChannel p = some k)
    (hidle : u.dmaState k = 0) : u.runDmaAbort p = u.finish 0x0505 p .ok [] := by
  unfold State.runDmaAbort
  simp only [hown]
  rw [if_neg (by omega)]

theorem State.runDmaAbort_running {u : State} {p : Packet} {k : Nat} (hown : u.ownChannel p = some k)
    (hrun : u.dmaState k = 1 ∨ u.dmaState k = 2) : u.runDmaAbort p = (u.discardChain k 0).finish 0x0505 p .ok [] := by
  unfold State.runDmaAbort
  simp only [hown]
  rw [if_pos hrun]

/-- The status of a channel that exists is answered, and reading its completions clears them (R373). -/
theorem State.runDmaStatus_accepted {u : State} {p : Packet} {k : Nat} (he : leAt p.payload 0 1 < 4)
    (hn : leAt p.payload 1 1 < 32) (hk : k = 32 * leAt p.payload 0 1 + leAt p.payload 1 1) :
    u.runDmaStatus p
      = (u.clearRc (dmaDone k)).finish 0x0506 p .ok (wordsBytes [u.rd (dmaStat k), u.rd (dmaDone k)]) := by
  subst hk
  exact if_neg (by omega)

/-- Settles O12: each packet that is taken runs its opcode, whose checks all pass. -/
theorem memoryOpcodesComplete : Obligations.MemoryOpcodesComplete := by
  refine ⟨?read, ?write, ?map, ?unmap, ?start, ?abort, ?status⟩
  case read =>
    rintro s u p host k h rfl hl ha hn hmin hmax hok
    rw [exec_memRead_takes host k h hl]
    obtain ⟨v, hrun, hv⟩ := State.runMemRead_accepted host k ha hn hmin hmax hok
    exact ⟨v, congrArg Host.Outcome.next hrun, hv⟩
  case write =>
    rintro s u p k h rfl hmin hmax ha hn hok
    rw [exec_memWrite_takes k h hmin hmax, State.runMemWrite_accepted k ha hn hok]
  case map =>
    rintro s u p va da n page m h rfl hl hva hda hn hpage hpos hvap hdap hnp hend hsram hapart hblocks hhost hroom hm
    rw [exec_memMap_takes h hl, State.runMap_accepted hva hda hn hpage hpos hvap hdap hnp hend hsram hapart hblocks
      hhost hroom hm]
  case unmap =>
    rintro s u p va n ms rest h rfl hl hva hn hms hne hin hsum rfl
    exact (exec_memUnmap_takes h hl).trans (congrArg Host.Outcome.next (State.runUnmap_whole hva hn hms hne hin hsum))
  case start =>
    rintro s u p k h rfl hl hown hmark hidle hne hmax hok
    rw [exec_dmaStart_takes h hl, State.runDmaStart_accepted hown hmark hidle hne hmax hok]
  case abort =>
    rintro s u p k h rfl hl hown
    rw [exec_dmaAbort_takes h hl]
    exact ⟨fun hidle => congrArg Host.Outcome.next (State.runDmaAbort_idle hown hidle),
      fun hrun => congrArg Host.Outcome.next (State.runDmaAbort_running hown hrun)⟩
  case status =>
    rintro s u p k h rfl hl he hn hk
    rw [exec_dmaStatus_takes h hl, State.runDmaStatus_accepted he hn hk]

end Sys2Proof.Machine

/-! # The shutters: opcodes, samples, triggers and records (R392, R397, R398, R401, R404, R405) -/

namespace Sys2Proof.Machine

theorem exec_shutterArm_takes {s : State} {p : Packet} (h : s.takes 0x0400 p true) (hl : p.payload.length = 4) :
    exec (.shutterArm p) s = .next ((s.taken 0x0400 p).runOrder 0x0400 p (.arm (leAt p.payload 1 1 % 2 == 1))) :=
  State.next_command_takes h (decide_eq_true hl) _ _

theorem exec_shutterStop_takes {s : State} {p : Packet} (h : s.takes 0x0401 p true) (hl : p.payload.length = 4) :
    exec (.shutterStop p) s = .next ((s.taken 0x0401 p).runOrder 0x0401 p .stop) :=
  State.next_command_takes h (decide_eq_true hl) _ _

theorem exec_shutterTrigger_takes {s : State} {p : Packet} (h : s.takes 0x0402 p true) (hl : p.payload.length = 4) :
    exec (.shutterTrigger p) s = .next ((s.taken 0x0402 p).runOrder 0x0402 p .trigger) :=
  State.next_command_takes h (decide_eq_true hl) _ _

theorem exec_shutterRelease_takes {s : State} {p : Packet} (h : s.takes 0x0403 p true) (hl : p.payload.length = 8) :
    exec (.shutterRelease p) s = .next ((s.taken 0x0403 p).runShutRelease p) :=
  State.next_command_takes h (decide_eq_true hl) _ _

theorem exec_shutterStatus_takes {s : State} {p : Packet} (h : s.takes 0x0404 p true) (hl : p.payload.length = 4) :
    exec (.shutterStatus p) s = .next ((s.taken 0x0404 p).runShutStatus p) :=
  State.next_command_takes h (decide_eq_true hl) _ _

/-- An order that passes the checks of R404 and that the shutter's state admits (R405) waits for the next sample. -/
theorem State.runOrder_accepted {u : State} {op : Nat} {p : Packet} {o : ShutOrder}
    (hlease : u.leaseCheck 6 (leAt p.payload 0 1) p = none) (hcheck : u.shutCheck .host (leAt p.payload 0 1) = none)
    (hadmits : u.admits (leAt p.payload 0 1) o = true) :
    u.runOrder op p o = (u.order (leAt p.payload 0 1) o).finish op p .ok [] := by
  simp only [State.runOrder, hlease, hcheck, hadmits, if_true]

theorem State.runShutRelease_accepted {u : State} {p : Packet} (hlease : u.leaseCheck 6 (leAt p.payload 0 1) p = none)
    (hcheck : u.shutCheck .host (leAt p.payload 0 1) = none)
    (hseq : leAt p.payload 4 4 ≤ (u.rd (Reg.shutSSeq (leAt p.payload 0 1))).toNat) :
    u.runShutRelease p = (u.releaseRecords (leAt p.payload 0 1) (leAt p.payload 4 4)).finish 0x0403 p .ok [] := by
  simp only [State.runShutRelease, hlease, hcheck, if_neg hseq.not_gt]

theorem State.runShutStatus_accepted {u : State} {p : Packet} (hq : leAt p.payload 0 1 < 8) :
    u.runShutStatus p = u.finish 0x0404 p .ok
      (wordsBytes [u.rd (Reg.shutSState (leAt p.payload 0 1)), u.rd (Reg.shutSSeq (leAt p.payload 0 1))]) :=
  if_neg hq.not_ge

/-- Settles O15: each packet that is taken runs its opcode, whose checks all pass. -/
theorem shutterOpcodesComplete : Obligations.ShutterOpcodesComplete := by
  refine ⟨?arm, ?stop, ?trigger, ?release, ?status⟩
  case arm =>
    rintro s u p h rfl hl hlease hcheck hadmits
    rw [exec_shutterArm_takes h hl, State.runOrder_accepted hlease hcheck hadmits]
  case stop =>
    rintro s u p h rfl hl hlease hcheck hadmits
    rw [exec_shutterStop_takes h hl, State.runOrder_accepted hlease hcheck hadmits]
  case trigger =>
    rintro s u p h rfl hl hlease hcheck hadmits
    rw [exec_shutterTrigger_takes h hl, State.runOrder_accepted hlease hcheck hadmits]
  case release =>
    rintro s u p h rfl hl hlease hcheck hseq
    rw [exec_shutterRelease_takes h hl, State.runShutRelease_accepted hlease hcheck hseq]
  case status =>
    rintro s u p h rfl hl hq
    rw [exec_shutterStatus_takes h hl, State.runShutStatus_accepted hq]

theorem exec_shutterSample_due {s : State} {q : Nat} (pads dio sins : Word) (dt : Nat) (h : s.sampleDue q = true) :
    exec (.shutterSample q pads dio sins dt) s = .next (s.shutterSample q pads dio sins (s.linearAt dt)) :=
  congrArg Host.Outcome.next (if_pos h)

theorem exec_patternTrigger_due {s : State} {q back frac held : Nat} {pads dio sins : Word}
    (h : s.patternDue q back frac held pads dio sins = true) :
    exec (.patternTrigger q back frac held pads dio sins) s = .next (s.patternAt q back frac) :=
  congrArg Host.Outcome.next (if_pos h)

theorem exec_recordClosed_due {s : State} {q : Nat} {e : ShutEnd} {t : ShutTrig}
    (hclosing : (s.shutRun q).closing = some e) (htrig : (s.shutRun q).trig = some t) :
    exec (.recordClosed q) s = .next (s.closeRecord q e t) := by
  show execRecordClosed q s = _
  unfold execRecordClosed
  rw [hclosing, htrig]

/-- Settles O36: each row is due under its condition. -/
theorem shutterRowsComplete : Obligations.ShutterRowsComplete :=
  ⟨fun _ _ pads dio sins dt h => exec_shutterSample_due pads dio sins dt h,
    fun _ _ _ _ _ _ _ _ h => exec_patternTrigger_due h,
    fun _ _ _ _ hclosing htrig => exec_recordClosed_due hclosing htrig⟩

end Sys2Proof.Machine

/-! # CFG_DISCARD (R436) -/

namespace Sys2Proof.Machine

theorem exec_cfgDiscard_takes {s : State} {p : Packet} (h : s.takes 0x0103 p true) (hl : p.payload = []) :
    exec (.cfgDiscard p) s = .next ((s.taken 0x0103 p).runDiscard p) :=
  State.next_command_takes h (decide_eq_true hl) _ _

theorem State.runDiscard_accepted {u : State} {p : Packet} (hlease : u.leaseCheck 1 0 p = none) :
    u.runDiscard p = u.emptyStaging.finish 0x0103 p .ok [] := by
  simp only [State.runDiscard, hlease]

/-- Settles O47: between taking the packet and answering it, which leave the configuration alone, only the staging area
is emptied. -/
theorem cfgDiscardEmptiesStaging : Obligations.CfgDiscardEmptiesStaging := by
  intro s p h hlease hl
  have hbefore := AnswerOnly.taken s 0x0103 p .none
  have hafter := AnswerOnly.finish (s.taken 0x0103 p).emptyStaging 0x0103 p .ok []
  refine ⟨_, _, (exec_cfgDiscard_takes h hl).trans (congrArg Host.Outcome.next (State.runDiscard_accepted hlease)), rfl,
    hafter.staging, hafter.fixes.trans hbefore.fixes, hafter.ledger.trans hbefore.ledger,
    fun a => (hafter.rdByte a).trans (hbefore.rdByte a), fun a hlo hhi => ?_⟩
  have hin : ¬ outsideConverter a := by unfold outsideConverter; omega
  exact (hafter.2 a hin).trans (hbefore.2 a hin)

end Sys2Proof.Machine

/-! # Events, counters and STATUS_READ (R560 to R562, R565 to R570) -/

namespace Sys2Proof.Machine

theorem exec_eventSubscribe_takes {s : State} {p : Packet} (h : s.takes 0x0601 p true) (hmin : 4 ≤ p.payload.length)
    (hl : p.payload.length = 4 + 4 * leAt p.payload 2 2) :
    exec (.eventSubscribe p) s = .next ((s.taken 0x0601 p).runSubscribe p) :=
  State.next_command_takes h (by rw [decide_eq_true hmin, decide_eq_true hl]; rfl) _ _

theorem exec_eventUnsubscribe_takes {s : State} {p : Packet} (h : s.takes 0x0602 p true) (hl : p.payload.length = 4) :
    exec (.eventUnsubscribe p) s = .next ((s.taken 0x0602 p).runUnsubscribe p) :=
  State.next_command_takes h (decide_eq_true hl) _ _

theorem exec_counterRead_takes {s : State} {p : Packet} (h : s.takes 0x0603 p true) (hl : p.payload.length = 4) :
    exec (.counterRead p) s = .next ((s.taken 0x0603 p).runCounterRead p) :=
  State.next_command_takes h (decide_eq_true hl) _ _

theorem exec_contactSheet_takes {s : State} {p : Packet} (h : s.takes 0x0604 p true) (hl : p.payload = []) :
    exec (.contactSheet (some p)) s = .next ((s.taken 0x0604 p).runSheet p) :=
  State.next_command_takes h (decide_eq_true hl) _ _

theorem exec_contactSheet_fired {s : State} (h : s.perf.sheet = true) :
    exec (.contactSheet none) s = .next s.takeSheet :=
  congrArg Host.Outcome.next (if_pos h)

theorem State.runSubscribe_accepted {u : State} {p : Packet} (hmin : 1 ≤ leAt p.payload 2 2)
    (hmax : leAt p.payload 2 2 ≤ 32) (hcheck : u.eventRingCheck p (leAt p.payload 0 1) true = none) :
    u.runSubscribe p = (u.setFilters p (leAt p.payload 0 1) ((List.range (leAt p.payload 2 2)).map
      (fun i => (leAt p.payload (4 + 4 * i) 2, leAt p.payload (6 + 4 * i) 2)))).finish 0x0601 p .ok [] := by
  unfold State.runSubscribe
  simp only [decide_eq_true (And.intro hmin hmax), hcheck]

theorem State.runUnsubscribe_accepted {u : State} {p : Packet}
    (hcheck : u.eventRingCheck p (leAt p.payload 0 1) true = none) :
    u.runUnsubscribe p = (u.setFilters p (leAt p.payload 0 1) []).finish 0x0602 p .ok [] := by
  simp only [State.runUnsubscribe, hcheck]

theorem State.runCounterRead_accepted {u : State} {p : Packet} (hmin : 1 ≤ leAt p.payload 1 1)
    (hmax : leAt p.payload 0 1 + leAt p.payload 1 1 ≤ 32) :
    u.runCounterRead p = u.finish 0x0603 p .ok (wordsBytes ((List.range (leAt p.payload 1 1)).map
      (fun i => u.rd (Reg.perfCntVal (leAt p.payload 0 1 + i))))) :=
  if_neg (by omega)

/-- Settles O16: each packet that is taken runs its opcode, whose checks all pass. -/
theorem eventOpcodesComplete : Obligations.EventOpcodesComplete := by
  refine ⟨?subscribe, ?unsubscribe, ?counters, ?sheet, fun s h => exec_contactSheet_fired h⟩
  case subscribe =>
    rintro s u p h rfl hmin hl hn hmax hcheck
    rw [exec_eventSubscribe_takes h hmin hl, State.runSubscribe_accepted hn hmax hcheck]
  case unsubscribe =>
    rintro s u p h rfl hl hcheck
    rw [exec_eventUnsubscribe_takes h hl, State.runUnsubscribe_accepted hcheck]
  case counters =>
    rintro s u p h rfl hl hmin hmax
    rw [exec_counterRead_takes h hl, State.runCounterRead_accepted hmin hmax]
  case sheet =>
    rintro s u p h rfl hl
    exact exec_contactSheet_takes h hl

/-! ## The rows of events and windows -/

theorem exec_counterOverflow_due {s u v : State} {k : Nat} (sample : Word) (hk : k < 32)
    (hover : sparseGet (fun _ => false) s.perf.overflowed k = true)
    (hu : u = { s with perf := { s.perf with overflowed := sparseSet (fun _ => false) s.perf.overflowed k false } })
    (hv : v = if u.bit (Reg.perfCntCfg k) 18 then
      u.wr (Reg.perfCntSample k) (u.sampleOf (u.fld (Reg.perfCntCfg k) 0 16) sample) else u) :
    exec (.counterOverflow k sample) s
      = .next (if v.bit Reg.perfOvf k then v else (v.setBit Reg.perfOvf k true).raise 0x1100 [word k]) := by
  subst hv hu
  exact congrArg Host.Outcome.next (if_pos ⟨hk, hover⟩)

theorem exec_bandwidthWindowEnd_due {s u v : State} {w n : Nat} (hw : w < 16)
    (hon : s.bit (Reg.perfWinCfg w) 22 = true)
    (hdue : sparseGet (fun _ => 0) s.perf.since w + s.fld (Reg.perfWinCfg w) 12 10 ≤ s.tick)
    (hn : n = sparseGet (fun _ => 0) s.perf.beats w) (hu : u = s.wr (Reg.perfWinLast w) (word n))
    (hv : v = u.wr (Reg.perfWinPeak w) (word (max (u.rd (Reg.perfWinPeak w)).toNat n))) :
    exec (.bandwidthWindowEnd w) s = .next { v with perf := { v.perf with
      beats := sparseSet (fun _ => 0) v.perf.beats w 0, since := sparseSet (fun _ => 0) v.perf.since w v.tick } } := by
  subst hv hu hn
  exact congrArg Host.Outcome.next (if_pos ⟨hw, hon, hdue⟩)

theorem exec_transientRate_due {s : State} {n : Nat} (hmin : 1 ≤ n) (hmax : n ≤ 17)
    (hon : s.fld Reg.perfRateCfg 0 16 ≠ 0)
    (hrate : s.fld Reg.perfRateCfg 0 16 ≤ sparseGet (fun _ => 0) s.perf.window n)
    (hfirst : s.perf.rated.contains n = false) :
    exec (.transientRate n) s
      = .next (State.raise { s with perf := { s.perf with rated := n :: s.perf.rated } } 0x1102 [word n]) :=
  congrArg Host.Outcome.next (if_pos ⟨hmin, hmax, hon, hrate, Bool.eq_false_iff.mp hfirst⟩)

/-- Settles O46: each row is due under its conditions. -/
theorem eventRowsComplete : Obligations.EventRowsComplete := by
  refine ⟨fun s => rfl, ?overflow, ?window, ?rate⟩
  case overflow =>
    rintro s u v k sample l hk hover rfl hu hv
    exact exec_counterOverflow_due sample hk hover hu hv
  case window =>
    rintro s u v w n b l hw hon hdue hn hu hv rfl rfl
    exact exec_bandwidthWindowEnd_due hw hon hdue hn hu hv
  case rate =>
    rintro s u n l hmin hmax hon hrate hfirst rfl rfl
    exact exec_transientRate_due hmin hmax hon hrate hfirst

/-! ## STATUS_READ -/

theorem exec_statusRead_takes {s : State} {p : Packet} (h : s.takes 0x0600 p true) (hl : p.payload = []) :
    exec (.statusRead p) s = .next ((s.taken 0x0600 p).runStatusRead p) :=
  State.next_command_takes h (decide_eq_true hl) _ _

theorem length_flatMap_range {α : Type} {g : Nat → List α} {k : Nat} (hg : ∀ b, (g b).length = k) (n : Nat) :
    ((List.range n).flatMap g).length = k * n := by
  simp [List.length_flatMap, hg, Nat.mul_comm]

/-- Of pieces of one length in a row, each stands where its number says. -/
theorem take_drop_flatMap_range {α : Type} {g : Nat → List α} {k : Nat} (hg : ∀ b, (g b).length = k) {b n : Nat}
    (hb : b < n) : (((List.range n).flatMap g).drop (k * b)).take k = g b := by
  induction n with
  | zero => exact absurd hb (Nat.not_lt_zero b)
  | succ n ih =>
    have hlen := length_flatMap_range hg n
    rw [List.range_succ, List.flatMap_append, List.flatMap_singleton]
    by_cases hbn : b < n
    · have hroom : k * b + k ≤ k * n := by
        rw [← Nat.mul_succ]
        exact Nat.mul_le_mul_left k hbn
      rw [List.drop_append_of_le_length (by omega), List.take_append_of_le_length (by rw [List.length_drop]; omega),
        ih hbn]
    · obtain rfl : b = n := by omega
      rw [← hlen, List.drop_left, List.take_of_length_le (hg b).le]

/-- The two words of block `b` that STATUS_READ returns (R562). -/
def State.blockStatus (s : State) (b : Nat) : List Byte :=
  wordBytes (s.readReg (0x10000000 + 0x10000 * b)) ++ wordBytes (s.readReg (0x10000004 + 0x10000 * b))

theorem State.length_blockStatus (s : State) (b : Nat) : (s.blockStatus b).length = 8 := rfl

theorem State.runStatusRead_eq (s : State) (p : Packet) :
    s.runStatusRead p = s.finish 0x0600 p .ok ((List.range 17).flatMap s.blockStatus) := by
  have hblock (b : Nat) :
      wordsBytes [s.readReg (blockBase (b + 1)), s.readReg (blockBase (b + 1) + 4)] = s.blockStatus b := by
    have h0 : blockBase (b + 1) = 0x10000000 + 0x10000 * b := by unfold blockBase; omega
    have h4 : blockBase (b + 1) + 4 = 0x10000004 + 0x10000 * b := by omega
    rw [h4, h0]
    rfl
  unfold State.runStatusRead
  rw [wordsBytes, List.flatMap_assoc]
  exact congrArg (fun g => s.finish 0x0600 p .ok ((List.range 17).flatMap g)) (funext hblock)

/-- Settles O17: the reply is 17 pieces of 8 bytes. -/
theorem statusReadReturnsEveryBlock : Obligations.StatusReadReturnsEveryBlock := by
  rintro s u p h rfl hl
  exact ⟨_, (exec_statusRead_takes h hl).trans (congrArg Host.Outcome.next (State.runStatusRead_eq _ p)),
    length_flatMap_range (State.length_blockStatus _) 17,
    fun b hb => take_drop_flatMap_range (State.length_blockStatus _) hb⟩

end Sys2Proof.Machine

/-! # The contact sheet (R568) -/

namespace Sys2Proof.Machine

/-! ## Copying registers -/

/-- Register `g k` is copied to register `f k`, for each `k` below `n`. -/
def State.copyRegs (s : State) (f g : Nat → Nat) (n : Nat) : State :=
  (List.range n).foldl (fun s k => s.wr (f k) (s.rd (g k))) s

theorem State.copyRegs_succ (s : State) (f g : Nat → Nat) (n : Nat) :
    s.copyRegs f g (n + 1) = (s.copyRegs f g n).wr (f n) ((s.copyRegs f g n).rd (g n)) := by
  simp [State.copyRegs, List.range_succ]

theorem State.rd_copyRegs_other (s : State) {f g : Nat → Nat} {n a : Nat} (h : ∀ k < n, f k ≠ a) :
    (s.copyRegs f g n).rd a = s.rd a := by
  unfold State.copyRegs
  exact foldl_keeps_mem (fun s => s.rd a) _ _ (fun s k hk => s.rd_wr_ne _ (h k (List.mem_range.mp hk)).symm) s

/-- Where no copy is itself copied, each copy reads what its original read. -/
theorem State.rd_copyRegs (s : State) {f g : Nat → Nat} {n k : Nat} (hinj : f.Injective)
    (hapart : ∀ j < n, ∀ i < n, f j ≠ g i) (hk : k < n) : (s.copyRegs f g n).rd (f k) = s.rd (g k) := by
  induction n with
  | zero => exact absurd hk (Nat.not_lt_zero k)
  | succ n ih =>
    rw [State.copyRegs_succ]
    by_cases hkn : k = n
    · rw [hkn, State.rd_wr_same, s.rd_copyRegs_other (fun j hj => hapart j (by omega) n (by omega))]
    · rw [State.rd_wr_ne _ _ (fun h => hkn (hinj h)),
        ih (fun j hj i hi => hapart j (by omega) i (by omega)) (by omega)]

theorem State.copyRegs_mem (s : State) (f g : Nat → Nat) (n : Nat) : (s.copyRegs f g n).mem = s.mem := by
  unfold State.copyRegs
  exact foldl_keeps State.mem _ (fun s k => s.wr_mem _ _) _ s

/-! ## Counting and raising CONTACT_SHEET -/

/-- A register that raising CONTACT_SHEET may write: its event bit, the counters of PERF, and what the merger shows. -/
def fedBySheet (a : Nat) : Prop :=
  a = 0x10100004 ∨ a = Reg.perfStatus ∨ a = Reg.perfEvtLost ∨ ∃ k < 32, a = Reg.perfCntVal k

theorem State.rd_bumpCounter_other (s : State) {a k : Nat} (n fuel : Nat) (h : ∀ k < 32, a ≠ Reg.perfCntVal k)
    (hk : k < 32) : (s.bumpCounter k n fuel).rd a = s.rd a := by
  induction fuel generalizing s k n with
  | zero => rfl
  | succ fuel ih =>
    unfold State.bumpCounter
    dsimp only
    split
    · exact s.rd_wr_ne _ (h k hk)
    · split
      · rename_i hc
        have hk' : k + 1 < 32 := by
          simp only [State.chained, Bool.and_eq_true, decide_eq_true_eq] at hc
          exact hc.1.1
        rw [ih _ _ hk', s.rd_wr_ne _ (h k hk)]
      · rw [State.rd_perf]
        exact s.rd_wr_ne _ (h k hk)

theorem State.rd_countSource_other (s : State) {a : Nat} (src n : Nat) (h : ∀ k < 32, a ≠ Reg.perfCntVal k) :
    (s.countSource src n).rd a = s.rd a := by
  unfold State.countSource
  refine foldl_keeps_mem (fun s => s.rd a) _ _ (fun s k hk => ?_) s
  dsimp only
  split
  · exact s.rd_bumpCounter_other _ _ h (List.mem_range.mp hk)
  · rfl

theorem State.rd_enqueueEvent_other (s : State) {a : Nat} (code : Nat) (d : List Word) (hs : a ≠ Reg.perfStatus)
    (hl : a ≠ Reg.perfEvtLost) : (s.enqueueEvent code d).rd a = s.rd a := by
  unfold State.enqueueEvent
  split
  · rw [State.rd_put_ne _ _ _ _ hs, State.rd_evq]
  · rw [State.rd_evLost, s.rd_countUp_ne _ _ _ hl]

/-- CONTACT_SHEET is no fault: it is neither counted as one nor recorded. -/
theorem State.raise_sheet (s : State) (d : List Word) :
    s.raise 0x1101 d = ((s.setBits (eventBits 0x1101)).countSource 0x1101 1).enqueueEvent 0x1101 d := rfl

theorem State.rd_raise_sheet (s : State) {a : Nat} (d : List Word) (h : ¬ fedBySheet a) :
    (s.raise 0x1101 d).rd a = s.rd a := by
  have hbit : ∀ e ∈ eventBits 0x1101, e.1 ≠ a := by
    intro e he
    obtain rfl : e = (0x10100004, 1) := by simpa [eventBits, blockBase] using he
    exact fun k => h (.inl k.symm)
  rw [State.raise_sheet, State.rd_enqueueEvent_other _ _ _ (fun k => h (.inr (.inl k))) (fun k => h (.inr (.inr (.inl k)))),
    State.rd_countSource_other _ _ _ (fun k hk e => h (.inr (.inr (.inr ⟨k, hk, e⟩)))), State.rd_setBits _ hbit]

/-! ## The sheet -/

/-- The snapshots of the counters and of the fault statistics. -/
def State.snapshots (s : State) : State :=
  (s.copyRegs Reg.perfCntSnap Reg.perfCntVal 32).copyRegs (fun n => Reg.perfFsnap (n + 1)) (fun n => Reg.perfFstat (n + 1)) 17

/-- The time of the sheet. -/
def State.sheetTime (s : State) : State :=
  (s.wr Reg.perfCsTimeLo (s.rd Reg.netTcLinLo)).put Reg.perfCsTimeHi 0 16 (s.fld Reg.netTcLinHi 0 16)

/-- The counters start again from 0 where PERF_CS_CFG says so. -/
def State.sheetClear (s : State) : State :=
  if s.bit Reg.perfCsCfg 5 then (List.range 32).foldl (fun s k => s.wr (Reg.perfCntVal k) 0) s else s

/-- A sheet takes its snapshots, its time and its number, and is raised. -/
theorem State.takeSheet_eq (s : State) :
    ∃ v : PerfSt, s.takeSheet
      = { (s.snapshots.sheetTime.countWrap Reg.perfCsSeq 0 32 1).sheetClear.raise 0x1101 [] with perf := v } := ⟨_, rfl⟩

theorem State.rd_sheetTime (s : State) {a : Nat} (hlo : a ≠ Reg.perfCsTimeLo) (hhi : a ≠ Reg.perfCsTimeHi) :
    s.sheetTime.rd a = s.rd a := by
  rw [State.sheetTime, State.rd_put_ne _ _ _ _ hhi, State.rd_wr_ne _ _ hlo]

theorem State.rd_sheetClear (s : State) {a : Nat} (h : ¬ fedBySheet a) : s.sheetClear.rd a = s.rd a := by
  unfold State.sheetClear
  split
  · refine foldl_keeps_mem (fun s => s.rd a) _ _ (fun s k hk => s.rd_wr_ne _ fun e => h ?_) s
    exact .inr (.inr (.inr ⟨k, List.mem_range.mp hk, e⟩))
  · rfl

theorem State.sheetClear_mem (s : State) : s.sheetClear.mem = s.mem := by
  unfold State.sheetClear
  split
  · exact foldl_keeps State.mem _ (fun s k => s.wr_mem _ _) _ s
  · rfl

/-- What raising the sheet, clearing the counters and stamping it leave of a register. -/
theorem State.rd_takeSheet (s : State) {a : Nat} (h : ¬ fedBySheet a) (hseq : a ≠ Reg.perfCsSeq)
    (hlo : a ≠ Reg.perfCsTimeLo) (hhi : a ≠ Reg.perfCsTimeHi) : s.takeSheet.rd a = s.snapshots.rd a := by
  obtain ⟨v, hv⟩ := s.takeSheet_eq
  rw [hv, State.rd_perf, State.rd_raise_sheet _ _ h, State.rd_sheetClear _ h, State.rd_countWrap_ne _ _ _ _ hseq,
    State.rd_sheetTime _ hlo hhi]

theorem State.rd_takeSheet_cntSnap (s : State) {k : Nat} (hk : k < 32) :
    s.takeSheet.rd (Reg.perfCntSnap k) = s.rd (Reg.perfCntVal k) := by
  have hfed : ¬ fedBySheet (Reg.perfCntSnap k) := by
    unfold fedBySheet Reg.perfCntSnap Reg.perfStatus Reg.perfEvtLost Reg.perfCntVal
    omega
  rw [s.rd_takeSheet hfed (by unfold Reg.perfCntSnap Reg.perfCsSeq; omega)
    (by unfold Reg.perfCntSnap Reg.perfCsTimeLo; omega) (by unfold Reg.perfCntSnap Reg.perfCsTimeHi; omega),
    State.snapshots, State.rd_copyRegs_other _ (fun n hn => by unfold Reg.perfFsnap Reg.perfCntSnap; omega)]
  exact s.rd_copyRegs (fun i j e => by unfold Reg.perfCntSnap at e; omega)
    (fun j hj i hi => by unfold Reg.perfCntSnap Reg.perfCntVal; omega) hk

theorem State.rd_takeSheet_fsnap (s : State) {n : Nat} (hmin : 1 ≤ n) (hmax : n ≤ 17) :
    s.takeSheet.rd (Reg.perfFsnap n) = s.rd (Reg.perfFstat n) := by
  obtain ⟨k, rfl⟩ := Nat.exists_eq_add_of_le' hmin
  have hfed : ¬ fedBySheet (Reg.perfFsnap (k + 1)) := by
    unfold fedBySheet Reg.perfFsnap Reg.perfStatus Reg.perfEvtLost Reg.perfCntVal
    omega
  rw [s.rd_takeSheet hfed (by unfold Reg.perfFsnap Reg.perfCsSeq; omega)
    (by unfold Reg.perfFsnap Reg.perfCsTimeLo; omega) (by unfold Reg.perfFsnap Reg.perfCsTimeHi; omega),
    State.snapshots]
  refine (State.rd_copyRegs _ (f := fun n => Reg.perfFsnap (n + 1)) (fun i j e => ?_) (fun j hj i hi => ?_)
    (by omega)).trans (s.rd_copyRegs_other fun j hj => ?_)
  · simp only [Reg.perfFsnap] at e
    omega
  · unfold Reg.perfFsnap Reg.perfFstat
    omega
  · unfold Reg.perfCntSnap Reg.perfFstat
    omega

/-- PERF_CS_SEQ counts the sheets modulo 2^32. -/
theorem State.fld_takeSheet_seq (s : State) :
    s.takeSheet.fld Reg.perfCsSeq 0 32 = (s.fld Reg.perfCsSeq 0 32 + 1) % 2 ^ 32 := by
  have hfed : ¬ fedBySheet Reg.perfCsSeq := by
    unfold fedBySheet Reg.perfCsSeq Reg.perfStatus Reg.perfEvtLost Reg.perfCntVal
    omega
  have hkept : s.snapshots.sheetTime.rd Reg.perfCsSeq = s.rd Reg.perfCsSeq := by
    rw [State.rd_sheetTime _ (by decide) (by decide), State.snapshots,
      State.rd_copyRegs_other _ (fun n hn => by unfold Reg.perfFsnap Reg.perfCsSeq; omega),
      State.rd_copyRegs_other _ (fun k hk => by unfold Reg.perfCntSnap Reg.perfCsSeq; omega)]
  obtain ⟨v, hv⟩ := s.takeSheet_eq
  rw [hv, State.fld, State.rd_perf, State.rd_raise_sheet _ _ hfed, State.rd_sheetClear _ hfed, ← State.fld,
    State.countWrap, State.fld_put_same _ _ _ (by decide), State.fld, hkept, ← State.fld]

theorem State.mem_of_perf (s : State) (v : PerfSt) : State.mem { s with perf := v } = s.mem := rfl

theorem State.takeSheet_rdByte (s : State) (a : Nat) : s.takeSheet.rdByte a = s.rdByte a := by
  obtain ⟨v, hv⟩ := s.takeSheet_eq
  have hmem : (s.snapshots.sheetTime.countWrap Reg.perfCsSeq 0 32 1).sheetClear.mem = s.mem := by
    rw [State.sheetClear_mem, State.countWrap_mem, State.sheetTime, State.put_mem, State.wr_mem, State.snapshots,
      State.copyRegs_mem, State.copyRegs_mem]
  rw [hv, State.rdByte, State.mem_of_perf, ← State.rdByte, State.rdByte_raise, State.rdByte, hmem, ← State.rdByte]

/-- Settles O58: raising the sheet and clearing the counters come after the snapshots, and write none of them. -/
theorem contactSheetCopiesEveryCounter : Obligations.ContactSheetCopiesEveryCounter := by
  intro s h
  exact ⟨_, exec_contactSheet_fired h, fun k hk => s.rd_takeSheet_cntSnap hk,
    fun n hmin hmax => s.rd_takeSheet_fsnap hmin hmax, s.fld_takeSheet_seq, s.takeSheet_rdByte⟩

end Sys2Proof.Machine

/-! # Packets before their opcode runs (R415, R425, R426, R428, R442) -/

namespace Sys2Proof.Machine

/-- INVALID_PACKET at step 1 (R415). -/
theorem exec_invalidPacket_first {s : State} {op : Nat} {p : Packet} (hserves : s.serves p.chan = true) :
    exec (.invalidPacket 1 op p) s = .next (s.countUp Reg.hostDrop 0 16 1) := by
  refine congrArg Host.Outcome.next ((if_neg (not_not_intro hserves)).trans ?_)
  exact if_pos rfl

/-- From step 2 on a packet needs room in its command ring; `step` then says how it fails. -/
theorem exec_invalidPacket_room {s : State} {k op : Nat} {p : Packet} (hk : k ≠ 1) (hserves : s.serves p.chan = true)
    (hroom : s.commandFull p.chan = false) :
    exec (.invalidPacket k op p) s = .next (if k = 2 then s.refuse op p .badLength [] false
      else if k = 3 then s.refuse op p .badCrc [] false
      else match s.judge op p with
        | .refuse st payload tagged => s.refused op p st payload tagged
        | _ => s) := by
  refine congrArg Host.Outcome.next ((if_neg (not_not_intro hserves)).trans ?_)
  exact (if_neg hk).trans (if_neg (Bool.eq_false_iff.mp hroom))

theorem exec_invalidPacket_judged {s : State} {k op : Nat} {p : Packet} {st : Status} {payload : List Byte}
    {tagged : Bool} (hk : 4 ≤ k) (hserves : s.serves p.chan = true) (hroom : s.commandFull p.chan = false)
    (hjudge : s.judge op p = .refuse st payload tagged) :
    exec (.invalidPacket k op p) s = .next (s.refused op p st payload tagged) := by
  rw [exec_invalidPacket_room (by omega) hserves hroom, if_neg (by omega), if_neg (by omega), hjudge]

theorem State.admission_badOpcode {s : State} {op : Nat} (p : Packet) (lenOk : Bool) (h : opRow op = none) :
    s.admission op p lenOk = some .badOpcode := by
  simp [State.admission, State.roleCheck, h]

/-- An opcode outside the table of R428 consumes its seq and is refused. -/
theorem exec_badOpcode_refused {s : State} {op : Nat} {p : Packet} (hop : opRow op = none)
    (hserves : s.serves p.chan = true) (hroom : s.commandFull p.chan = false) (htake : s.judge op p = .take) :
    exec (.badOpcode op p) s = .next (State.answer (if audited op then
        (s.consume p).audit p.session ((s.consume p).role p.session) .opcode op 0x0101 else s.consume p)
      op p .badOpcode []) := by
  refine congrArg Host.Outcome.next ((if_pos hop).trans ?_)
  rw [State.command_of_take hserves hroom htake, State.accept, State.admission_badOpcode p true hop]
  rfl

theorem exec_duplicatePacket_resend {s : State} {op : Nat} {p : Packet} {c : Consumed} {r : Reply}
    (hserves : s.serves p.chan = true) (hroom : s.commandFull p.chan = false) (hresend : s.judge op p = .resend c)
    (hreply : c.reply = some r) : exec (.duplicatePacket op p) s = .next (s.emit r) := by
  obtain ⟨seq, crc, reply⟩ := c
  subst hreply
  show execDuplicatePacket op p s = _
  rw [execDuplicatePacket, if_neg (not_not_intro hserves), if_neg (Bool.eq_false_iff.mp hroom), hresend]

theorem exec_sessionIdleClose_due {s : State} {n : Nat} (hopen : s.isOpen n = true)
    (hidle : (s.session n).lastTick + s.sessionTimeout ≤ s.tick) :
    exec (.sessionIdleClose n) s = .next (s.endSession n .idle) :=
  congrArg Host.Outcome.next (if_pos ⟨hopen, hidle⟩)

theorem exec_commandTimeout_due {s : State} {n seq : Nat} {f : InFlight}
    (hfind : s.inflight.find? (fun f => s.timedOut f && f.packet.session == n && f.packet.seq == seq) = some f) :
    exec (.commandTimeout n seq) s = .next (s.timeOut f) := by
  show execCommandTimeout n seq s = _
  rw [execCommandTimeout, hfind]

/-- Settles O8: each step of R415 has its own answer. -/
theorem packetFailuresAnsweredAsR415Says : Obligations.PacketFailuresAnsweredAsR415Says :=
  ⟨fun _ _ _ hserves => exec_invalidPacket_first hserves,
    fun _ _ _ hserves hroom => ⟨exec_invalidPacket_room (by decide) hserves hroom,
      exec_invalidPacket_room (by decide) hserves hroom⟩,
    fun _ _ _ _ _ _ _ hk _ hserves hroom hjudge => exec_invalidPacket_judged hk hserves hroom hjudge,
    fun _ _ _ hop hserves hroom htake => exec_badOpcode_refused hop hserves hroom htake,
    fun _ _ _ _ _ hserves hroom hresend hreply => exec_duplicatePacket_resend hserves hroom hresend hreply,
    fun _ _ hopen hidle => exec_sessionIdleClose_due hopen hidle,
    fun _ _ _ _ hfind => exec_commandTimeout_due hfind⟩

end Sys2Proof.Machine

/-! # Session opcodes (R423, R426, R428, R439, R547) -/

namespace Sys2Proof.Machine

/-- A SESSION_OPEN that opens no session again opens the lowest free one (R423). -/
theorem exec_sessionOpen_free {s : State} {p : Packet} {n : Nat} (hsession : p.session = 0xFF)
    (hserves : s.serves p.chan = true) (hroom : s.commandFull p.chan = false) (hauth : p.auth = .absent)
    (hl : p.payload.length = 4) (hagain : s.openedAgain p = none) (hfree : s.freeSession = some n) :
    exec (.sessionOpen p) s
      = .next ((s.openSession n p).refuse 0 p .ok (s.openReply n p.chan) false) := by
  show execSessionOpen p s = _
  rw [execSessionOpen, if_pos hsession, if_neg (not_not_intro hserves), if_neg (Bool.eq_false_iff.mp hroom),
    if_neg (not_not_intro hauth), State.runOpen, if_neg (not_not_intro hl), hagain, hfree]

theorem exec_sessionAuthPhase1_takes {s : State} {p : Packet} (h : s.takes 1 p true) (hl : p.payload.length = 132)
    (hphase : leAt p.payload 0 1 = 1) : exec (.sessionAuthPhase1 p) s = .next ((s.taken 1 p).runAuth1 p) :=
  (congrArg Host.Outcome.next (if_neg (by omega))).trans (State.next_command_takes h (decide_eq_true hl) _ _)

theorem exec_sessionAuthPhase2_takes {s : State} {p : Packet} (sigOk : Bool) (h : s.takes 1 p true)
    (hl : p.payload.length = 100) (hphase : leAt p.payload 0 1 = 2) :
    exec (.sessionAuthPhase2 p sigOk) s = .next ((s.taken 1 p (.flag sigOk)).runAuth2 p sigOk) :=
  (congrArg Host.Outcome.next (if_neg (not_not_intro hphase))).trans
    (State.next_command_takes h (decide_eq_true hl) _ _)

theorem exec_sessionClose_takes {s : State} {p : Packet} (h : s.takes 2 p true) (hl : p.payload = []) :
    exec (.sessionClose p) s = .next ((s.taken 2 p).runClose p) :=
  State.next_command_takes h (decide_eq_true hl) _ _

theorem exec_sessionKeepalive_takes {s : State} {p : Packet} (h : s.takes 3 p true) (hl : p.payload = []) :
    exec (.sessionKeepalive p) s = .next ((s.taken 3 p).runKeepalive p) :=
  State.next_command_takes h (decide_eq_true hl) _ _

theorem exec_sessionInfo_takes {s : State} {p : Packet} (h : s.takes 4 p true) (hl : p.payload = []) :
    exec (.sessionInfo p) s = .next ((s.taken 4 p).runInfo p) :=
  State.next_command_takes h (decide_eq_true hl) _ _

/-! ## SESSION_AUTH -/

theorem State.session_setSession (s : State) (n : Nat) (v : Session) : (s.setSession n v).session n = v :=
  sparseGet_set_same _ _ _ _

theorem State.length_freshBytes (s : State) (n : Nat) : (s.freshBytes n).length = n := by simp [State.freshBytes]

/-- What phase 1 leaves for phase 2: a fresh nonce and a fresh key (R547). -/
def State.heldPhase (s : State) (p : Packet) : AuthPhase :=
  { slot := leAt p.payload 1 1, nonce := Config.freeKey s.fresh, key := Config.freeKey (s.fresh + 1), tick := s.tick }

/-- The session holds the phase; nonce, key and reply are spent. -/
def State.holdPhase (s : State) (p : Packet) : State :=
  State.setSession { s with fresh := s.fresh + 1 + 1 + 1 } p.session
    { s.session p.session with phase1 := some (s.heldPhase p) }

theorem State.phase1_holdPhase (s : State) (p : Packet) :
    ((s.holdPhase p).session p.session).phase1 = some (s.heldPhase p) :=
  congrArg Session.phase1 (State.session_setSession _ _ _)

theorem State.runAuth1_accepted {u : State} {p : Packet} (hphase : leAt p.payload 0 1 = 1)
    (hauth : u.isAuth p.session = false) (hcred : (u.cred (leAt p.payload 1 1)).enabled = true) :
    u.runAuth1 p = (u.holdPhase p).finish 1 p .ok (State.freshBytes { u with fresh := u.fresh + 1 + 1 } 224) := by
  unfold State.runAuth1
  rw [if_neg (by simp [hauth]), if_neg (by omega), if_neg (not_not_intro hcred)]
  rfl

/-- The session has its role and its key (R547). -/
def State.authenticated (s : State) (p : Packet) (a : AuthPhase) : State :=
  (((s.setSession p.session { s.session p.session with key := some a.key, credential := a.slot, counter := 0 }).put
    (Reg.hostSess p.session) 0 2 2).put (Reg.hostSess p.session) 5 2 (s.cred a.slot).role).audit p.session
      (s.cred a.slot).role .sessionAuth a.slot 0

/-- The phase that phase 1 left is spent. -/
def State.spendPhase (s : State) (p : Packet) : State :=
  s.setSession p.session { s.session p.session with phase1 := none }

theorem State.runAuth2_accepted {u : State} {p : Packet} {a : AuthPhase} (hauth : u.isAuth p.session = false)
    (hphase : (u.session p.session).phase1 = some a) (htime : u.tick ≤ a.tick + 5000) :
    u.runAuth2 p true = ((u.spendPhase p).authenticated p a).finish 1 p .ok [] := by
  unfold State.runAuth2
  rw [if_neg (by simp [hauth])]
  simp only [hphase]
  exact (if_neg htime.not_gt).trans (if_neg (by simp))

theorem quietReg_hostSess {code n : Nat} (hn : n < 128) (hb : ∀ e ∈ eventBits code, e.1 < 0x100C0100 ∨ 0x100C0300 ≤ e.1) :
    quietReg code (Reg.hostSess n) := by
  refine ⟨?_, ?_, fun e he => ?_⟩
  · unfold Reg.hostSess; omega
  · unfold Reg.hostSess Reg.memFrDrop; omega
  · have := hb e he
    unfold Reg.hostSess
    omega

/-- What SESSION_AUTH leaves in the session's word. -/
theorem State.rd_authenticated (s : State) {p : Packet} (a : AuthPhase) (hp : p.session < 128) :
    (s.authenticated p a).rd (Reg.hostSess p.session)
      = putFld (putFld (s.rd (Reg.hostSess p.session)) 0 2 2) 5 2 (s.cred a.slot).role := by
  rw [State.authenticated, State.rd_audit _ _ _ _ _ _ (quietReg_hostSess hp (by decide))
    (by unfold Reg.hostSess Reg.secAudit; omega), State.put, State.rd_wr_same, State.put, State.rd_wr_same]
  rfl

theorem State.isAuth_authenticated (s : State) {p : Packet} (a : AuthPhase) (hp : p.session < 128) :
    (s.authenticated p a).isAuth p.session = true := by
  rw [State.isAuth, State.fld, s.rd_authenticated a hp, field_putFld_apart _ _ (by decide) (by decide),
    field_putFld_same _ _ (by decide)]
  simp [hp]

theorem State.role_authenticated (s : State) {p : Packet} (a : AuthPhase) (hp : p.session < 128) :
    (s.authenticated p a).role p.session = (s.cred a.slot).role % 4 := by
  rw [State.role, State.fld, s.rd_authenticated a hp]
  exact field_putFld_same _ _ (by decide)

theorem State.session_authenticated (s : State) (p : Packet) (a : AuthPhase) :
    (s.authenticated p a).session p.session
      = { s.session p.session with key := some a.key, credential := a.slot, counter := 0 } := by
  rw [State.session, State.authenticated, State.audit_sessions, State.put_sessions, State.put_sessions, ← State.session,
    State.session_setSession]

/-- Settles O7: SESSION_OPEN acts before any session is asked; the others are packets that are taken. -/
theorem sessionOpcodesComplete : Obligations.SessionOpcodesComplete := by
  refine ⟨?opens, ?phase1, ?phase2, fun s p h hl => exec_sessionClose_takes h hl,
    fun s p h hl => exec_sessionKeepalive_takes h hl, fun s p h hl => exec_sessionInfo_takes h hl⟩
  case opens =>
    intro s p n hsession hserves hroom hauth hl hagain hfree
    exact exec_sessionOpen_free hsession hserves hroom hauth hl hagain hfree
  case phase1 =>
    intro s p h hl hphase hauth hcred
    rw [exec_sessionAuthPhase1_takes h hl hphase]
    exact ⟨_, _, _, _, congrArg Host.Outcome.next (State.runAuth1_accepted hphase hauth hcred),
      State.length_freshBytes _ _, State.phase1_holdPhase _ p⟩
  case phase2 =>
    intro s p a h hl hphase hp hauth hheld htime
    have hsession := ((s.taken 1 p (.flag true)).spendPhase p).session_authenticated p a
    have hspent : (((s.taken 1 p (.flag true)).spendPhase p).session p.session).phase1 = none :=
      congrArg Session.phase1 (State.session_setSession _ _ _)
    refine ⟨_, (exec_sessionAuthPhase2_takes true h hl hphase).trans
      (congrArg Host.Outcome.next (State.runAuth2_accepted hauth hheld htime)), State.isAuth_authenticated _ a hp,
      State.role_authenticated _ a hp, ?_, ?_⟩
    · rw [hsession]
    · rw [hsession, hspent]

end Sys2Proof.Machine

/-! # What answering keeps of the sessions and the leases (R415, R425) -/

namespace Sys2Proof.Machine

/-! ## Sessions, and the words of sessions and leases -/

/-- A word of a session or of a lease: HOST_SESSs, HOST_LEASEi_A, HOST_LEASEi_B. -/
abbrev linkReg (a : Nat) : Prop := 0x100C0100 ≤ a ∧ a < 0x100C0C00

/-- `t` holds the sessions of `s`, and the words of its sessions and leases. -/
structure KeepsLinks (s t : State) : Prop where
  sessions : t.sessions = s.sessions
  words : ∀ a, linkReg a → t.rd a = s.rd a

theorem linkReg_hostSess {n : Nat} (h : n < 128) : linkReg (Reg.hostSess n) := by
  unfold Reg.hostSess
  omega

theorem linkReg_hostLeaseA {i : Nat} (h : i < 256) : linkReg (Reg.hostLeaseA i) := by
  unfold Reg.hostLeaseA
  omega

theorem KeepsLinks.refl (s : State) : KeepsLinks s s := ⟨rfl, fun _ _ => rfl⟩

theorem KeepsLinks.trans {s t u : State} (h : KeepsLinks s t) (k : KeepsLinks t u) : KeepsLinks s u :=
  ⟨k.sessions.trans h.sessions, fun a ha => (k.words a ha).trans (h.words a ha)⟩

theorem KeepsLinks.ite {s t u : State} {c : Prop} [Decidable c] (h : KeepsLinks s t) (k : KeepsLinks s u) :
    KeepsLinks s (if c then t else u) := by
  split
  · exact h
  · exact k

theorem KeepsLinks.foldl {β : Type} {f : State → β → State} (l : List β) (h : ∀ s, ∀ b ∈ l, KeepsLinks s (f s b))
    (s : State) : KeepsLinks s (l.foldl f s) := by
  induction l generalizing s with
  | nil => exact .refl s
  | cons b l ih => exact (h s b List.mem_cons_self).trans (ih (fun s b hb => h s b (List.mem_cons_of_mem _ hb)) _)

/-- Of the fields, those of the link to the host but the sessions, and those of the cycle program, are free. -/
theorem KeepsLinks.fields (s : State) (rings : List (Nat × RingQ)) (memx : MemSt) (inflight : List InFlight)
    (replies : List (Nat × List Reply)) (net : NetSt) (sent : List Reply) (sec : SecSt) (cyc : CycleSt) :
    KeepsLinks s { s with rings := rings, memx := memx, inflight := inflight, replies := replies, net := net,
                          sent := sent, sec := sec, cyc := cyc } := ⟨rfl, fun _ _ => rfl⟩

theorem KeepsLinks.setNet (s : State) (v : NetSt) : KeepsLinks s { s with net := v } := ⟨rfl, fun _ _ => rfl⟩
theorem KeepsLinks.setCyc (s : State) (v : CycleSt) : KeepsLinks s { s with cyc := v } := ⟨rfl, fun _ _ => rfl⟩
theorem KeepsLinks.setPoolRun (s : State) (v : Bool) : KeepsLinks s { s with memx := { s.memx with poolRun := v } } :=
  ⟨rfl, fun _ _ => rfl⟩

theorem KeepsLinks.wr (s : State) {a : Nat} (v : Word) (h : ¬ linkReg a) : KeepsLinks s (s.wr a v) :=
  ⟨rfl, fun _ hb => s.rd_wr_ne v (fun e => h (e ▸ hb))⟩

theorem KeepsLinks.put (s : State) {a : Nat} (lo n v : Nat) (h : ¬ linkReg a) : KeepsLinks s (s.put a lo n v) := .wr s _ h

theorem KeepsLinks.setBit (s : State) {a : Nat} (i : Nat) (b : Bool) (h : ¬ linkReg a) : KeepsLinks s (s.setBit a i b) :=
  .wr s _ h

theorem KeepsLinks.countUp (s : State) {a : Nat} (lo n k : Nat) (h : ¬ linkReg a) : KeepsLinks s (s.countUp a lo n k) :=
  .wr s _ h

theorem KeepsLinks.countWrap (s : State) {a : Nat} (lo n k : Nat) (h : ¬ linkReg a) :
    KeepsLinks s (s.countWrap a lo n k) := .wr s _ h

/-! ## Events and audit entries -/

theorem quietReg_linkReg {a code : Nat} (ha : linkReg a) (hb : ∀ e ∈ eventBits code, ¬ linkReg e.1) :
    quietReg code a :=
  ⟨by omega, by unfold Reg.memFrDrop; omega, fun e he k => hb e he (k ▸ ha)⟩

theorem KeepsLinks.raise (s : State) {code : Nat} (d : List Word) (hc : code < 0x4000)
    (hb : ∀ e ∈ eventBits code, ¬ linkReg e.1) : KeepsLinks s (s.raise code d) :=
  ⟨State.sessions_of_unlogged (s.raise_unlogged code d), fun _ ha => s.rd_raise d hc (quietReg_linkReg ha hb)⟩

theorem KeepsLinks.countSource (s : State) (src n : Nat) : KeepsLinks s (s.countSource src n) :=
  ⟨State.sessions_of_unlogged (s.countSource_unlogged src n), fun _ ha => s.rd_countSource src n (by omega)⟩

theorem KeepsLinks.audit (s : State) (n role : Nat) (k : AuditKind) (x y : Nat) :
    KeepsLinks s (s.audit n role k x y) :=
  ⟨s.audit_sessions n role k x y, fun _ ha => s.rd_audit n role k x y (quietReg_linkReg ha (by decide))
    (by unfold Reg.secAudit; omega)⟩

theorem KeepsLinks.queueCause (s : State) (code index : Nat) : KeepsLinks s (s.queueCause code index) := by
  unfold State.queueCause
  split
  · exact (KeepsLinks.fields s s.rings s.memx s.inflight s.replies s.net s.sent s.sec _).trans (.wr _ _ (by decide))
  · have h : KeepsLinks s (s.countUp Reg.cycleErrDrop 0 16 1) := .countUp s _ _ _ (by decide)
    exact .ite h (h.trans ((KeepsLinks.raise _ [] (by decide) (by decide)).trans (.setCyc _ _)))

theorem KeepsLinks.keepLink (s : State) : KeepsLinks s s.keepLink := by
  unfold State.keepLink
  have h := KeepsLinks.fields s s.rings s.memx s.inflight s.replies s.net s.sent s.sec { s.cyc with hostTick := s.tick }
  refine .ite h (h.trans (KeepsLinks.trans ?_ (.queueCause _ _ _)))
  refine KeepsLinks.trans ?_ (.raise _ _ (by decide) (by decide))
  exact (KeepsLinks.setBit _ _ _ (by decide)).trans (.put _ _ _ _ (by decide))

/-! ## Rings and replies -/

theorem KeepsLinks.setFill (s : State) {r : Nat} (f : Nat) (h : r < 64) : KeepsLinks s (s.setFill r f) := by
  have hr : ¬ linkReg (Reg.memRingStat r) := by unfold Reg.memRingStat; omega
  unfold State.setFill
  exact ((KeepsLinks.put s _ _ _ hr).trans (.put _ _ _ _ (by decide))).trans (.setBit _ _ _ hr)

theorem KeepsLinks.setRing (s : State) (r : Nat) (q : RingQ) : KeepsLinks s (s.setRing r q) :=
  .fields s _ s.memx s.inflight s.replies s.net s.sent s.sec s.cyc

theorem KeepsLinks.append (s : State) {r : Nat} (n : Nat) (bytes : List Byte) (h : r < 64) :
    KeepsLinks s (s.append r n bytes) := by
  have hr : ¬ linkReg (Reg.memRingStat r) := by unfold Reg.memRingStat; omega
  unfold State.append
  refine KeepsLinks.trans (KeepsLinks.trans ?_ (.setPoolRun _ _)) (.countSource _ _ _)
  exact ((KeepsLinks.setRing s _ _).trans (.setFill _ _ h)).trans (.countWrap _ _ _ _ hr)

theorem KeepsLinks.popUnit (s : State) {r : Nat} (h : r < 64) : KeepsLinks s (s.popUnit r) := by
  unfold State.popUnit
  split
  · exact .refl s
  · exact (KeepsLinks.setRing s _ _).trans (.setFill _ _ h)

theorem KeepsLinks.fillReplies (s : State) {c : Nat} (h : c < 8) : KeepsLinks s (s.fillReplies c) := by
  unfold State.fillReplies
  exact .foldl _ (fun s _ _ => .ite (.append s _ _ (by omega)) (.refl s)) s

theorem KeepsLinks.sendReply (s : State) {c : Nat} (h : c < 8) : KeepsLinks s (s.sendReply c) := by
  unfold State.sendReply
  split
  · exact .refl s
  · refine KeepsLinks.trans (KeepsLinks.trans ?_ (.popUnit _ (by omega))) (.fillReplies _ h)
    exact .fields s s.rings s.memx s.inflight _ s.net _ s.sec s.cyc

theorem KeepsLinks.drainPcie (s : State) {c : Nat} (h : c < 8) : KeepsLinks s (s.drainPcie c) := by
  unfold State.drainPcie
  refine .foldl _ (fun s _ _ => .ite (KeepsLinks.trans ?_ (.setNet _ _)) (.refl s)) s
  refine (KeepsLinks.sendReply s h).trans (.put _ _ _ _ ?_)
  unfold winReg
  omega

theorem KeepsLinks.emit (s : State) {r : Reply} (h : r.chan < 8) : KeepsLinks s (s.emit r) := by
  have hwait : KeepsLinks s (s.setWaitingReplies r.chan (s.waitingReplies r.chan ++ [r])) :=
    .fields s s.rings s.memx s.inflight _ s.net s.sent s.sec s.cyc
  have hfill := hwait.trans (.fillReplies _ h)
  exact .ite (hfill.trans (.drainPcie _ h)) hfill

theorem KeepsLinks.countStatus (s : State) (st : Status) : KeepsLinks s (s.countStatus st) := by
  unfold State.countStatus
  split
  · exact .countUp s _ _ _ (by decide)
  · exact .countUp s _ _ _ (by decide)
  · exact .refl s

/-- A refusal before the seq is consumed keeps every session and lease (R415). -/
theorem KeepsLinks.refuse (s : State) (op : Nat) {p : Packet} (st : Status) (payload : List Byte) (tag : Bool)
    (h : p.chan < 8) : KeepsLinks s (s.refuse op p st payload tag) :=
  (KeepsLinks.countStatus s st).trans (.emit _ h)

theorem chan_lt_of_serves {s : State} {c : Nat} (h : s.serves c = true) : c < 8 := by
  simp only [State.serves, State.transportOn, Bool.and_eq_true, decide_eq_true_eq] at h
  exact h.1.1

end Sys2Proof.Machine

/-! # A packet that fails before step 6 of R415 (R425) -/

namespace Sys2Proof.Machine

/-- A packet refused before step 6 touches neither the sessions and leases nor what answering leaves alone. -/
def KeepsAtRefusal (s t : State) : Prop := KeepsLinks s t ∧ AnswerOnly s t

theorem KeepsAtRefusal.refl (s : State) : KeepsAtRefusal s s := ⟨.refl s, .refl s⟩

theorem KeepsAtRefusal.ite {s t u : State} {c : Prop} [Decidable c] (h : KeepsAtRefusal s t) (k : KeepsAtRefusal s u) :
    KeepsAtRefusal s (if c then t else u) := by
  split
  · exact h
  · exact k

theorem KeepsAtRefusal.countDrop (s : State) (lo n k : Nat) : KeepsAtRefusal s (s.countUp Reg.hostDrop lo n k) :=
  ⟨.countUp s _ _ _ (by decide), .countUp s _ _ _ (by decide)⟩

theorem KeepsAtRefusal.refuse (s : State) (op : Nat) {p : Packet} (st : Status) (payload : List Byte) (tag : Bool)
    (h : p.chan < 8) : KeepsAtRefusal s (s.refuse op p st payload tag) :=
  ⟨.refuse s op st payload tag h, .refuse s op p st payload tag⟩

/-- Every refusal of steps 4 and 5 but AUTH_FAILED, which is step 6. -/
theorem KeepsAtRefusal.refused (s : State) (op : Nat) {p : Packet} {st : Status} (payload : List Byte) (tag : Bool)
    (h : p.chan < 8) (hst : st ≠ .authFailed) : KeepsAtRefusal s (s.refused op p st payload tag) := by
  have hanswer := KeepsAtRefusal.refuse s op st payload tag h
  have hcounted : KeepsAtRefusal s ((s.refuse op p st payload tag).countUp Reg.hostDrop 16 16 1) :=
    ⟨hanswer.1.trans (KeepsAtRefusal.countDrop _ _ _ _).1, hanswer.2.trans (KeepsAtRefusal.countDrop _ _ _ _).2⟩
  unfold State.refused
  split
  · exact hcounted
  · exact absurd rfl hst
  · exact hanswer

theorem KeepsAtRefusal.turnAway (s : State) (op : Nat) {p : Packet} (h : p.chan < 8) :
    KeepsAtRefusal s (s.turnAway op p) :=
  .ite (.countDrop s _ _ _) (.refuse s _ _ _ _ h)

/-- A packet on a channel that is not served, or that finds its command ring full, gets no further (R418). -/
theorem exec_invalidPacket_unserved {s : State} {k op : Nat} {p : Packet} (hserves : ¬ s.serves p.chan = true) :
    exec (.invalidPacket k op p) s = .next s :=
  congrArg Host.Outcome.next (if_pos hserves)

theorem exec_invalidPacket_full {s : State} {k op : Nat} {p : Packet} (hk : k ≠ 1) (hserves : s.serves p.chan = true)
    (hfull : s.commandFull p.chan = true) : exec (.invalidPacket k op p) s = .next (s.turnAway op p) :=
  congrArg Host.Outcome.next ((if_neg (not_not_intro hserves)).trans ((if_neg hk).trans (if_pos hfull)))

theorem keepsAtRefusal_invalidPacket {s t : State} {k op : Nat} {p : Packet} (hmin : 1 ≤ k) (hmax : k ≤ 5)
    (hexec : exec (.invalidPacket k op p) s = .next t)
    (hauth : k = 4 ∨ k = 5 → ∀ payload b, s.judge op p ≠ .refuse .authFailed payload b) : KeepsAtRefusal s t := by
  by_cases hserves : s.serves p.chan = true
  case neg =>
    obtain rfl := Host.Outcome.next.inj ((exec_invalidPacket_unserved hserves).symm.trans hexec)
    exact .refl s
  have hchan := chan_lt_of_serves hserves
  by_cases h1 : k = 1
  · subst h1
    obtain rfl := Host.Outcome.next.inj ((exec_invalidPacket_first hserves).symm.trans hexec)
    exact .countDrop s _ _ _
  cases hroom : s.commandFull p.chan with
  | true =>
    obtain rfl := Host.Outcome.next.inj ((exec_invalidPacket_full h1 hserves hroom).symm.trans hexec)
    exact .turnAway s op hchan
  | false =>
    obtain rfl := Host.Outcome.next.inj ((exec_invalidPacket_room h1 hserves hroom).symm.trans hexec)
    by_cases h2 : k = 2
    · rw [if_pos h2]
      exact .refuse s _ _ _ _ hchan
    by_cases h3 : k = 3
    · rw [if_neg h2, if_pos h3]
      exact .refuse s _ _ _ _ hchan
    rw [if_neg h2, if_neg h3]
    split
    · next st payload tag hjudge =>
      exact .refused s op payload tag hchan fun h => hauth (by omega) payload tag (h ▸ hjudge)
    · exact .refl s

/-- Settles O56: up to step 5 a packet is only counted and answered. -/
theorem refusedPacketKeepsItsSeq : Obligations.RefusedPacketKeepsItsSeq := by
  intro s t k op p hmin hmax hexec hauth
  obtain ⟨hlinks, hanswer⟩ := keepsAtRefusal_invalidPacket hmin hmax hexec hauth
  refine ⟨hlinks.sessions, fun n hn => hlinks.words _ (linkReg_hostSess hn), fun i hi => ?_, hanswer.staging,
    hanswer.ledger, hanswer.rdByte⟩
  rw [State.leaseKind, State.fld, hlinks.words _ (linkReg_hostLeaseA hi), ← State.fld, ← State.leaseKind]

end Sys2Proof.Machine

/-! # A packet resent unchanged (R415, R425) -/

namespace Sys2Proof.Machine

/-! ## The session of a packet that is taken and answered -/

/-- The session of `p` once `p` has consumed its seq, with `reply` the latest reply to it. -/
def State.consumedSession (s : State) (p : Packet) (reply : Option Reply) : Session :=
  { s.session p.session with
    lastTick := s.tick, authRun := 0, counter := (s.session p.session).counter + 1,
    history := { seq := p.seq, crc := p.crc, reply := reply } :: (s.session p.session).history.take 15 }

theorem State.consume_links (s : State) (p : Packet) :
    KeepsLinks ((s.setSession p.session (s.consumedSession p none)).put (Reg.hostSess p.session) 13 8 (p.seq + 1))
      (s.consume p) := by
  unfold State.consume
  exact .ite ((KeepsLinks.countSource _ _ _).trans (.keepLink _)) (.countSource _ _ _)

theorem State.session_of_sessions {s t : State} (h : t.sessions = s.sessions) (n : Nat) : t.session n = s.session n := by
  rw [State.session, h, ← State.session]

/-- What a session's word says of its state, its channel and its expected seq. -/
def sessionCourse (w : Word) : Nat × Nat × Nat := (field w 0 2, field w 2 3, field w 13 8)

theorem sessionCourse_putFlight (w : Word) (k : Nat) : sessionCourse (putFld w 8 5 k) = sessionCourse w := by
  unfold sessionCourse
  rw [field_putFld_below w k (by decide) (by decide), field_putFld_below w k (by decide) (by decide),
    field_putFld_above w k (by decide) (by decide)]

theorem sessionCourse_putSeq (w : Word) (k : Nat) :
    sessionCourse (putFld w 13 8 k) = (field w 0 2, field w 2 3, k % 256) := by
  unfold sessionCourse
  rw [field_putFld_below w k (by decide) (by decide), field_putFld_below w k (by decide) (by decide),
    field_putFld_same w k (by decide)]
  rfl

/-- The course of the session of `p`. -/
def State.course (s : State) (p : Packet) : Nat × Nat × Nat := sessionCourse (s.rd (Reg.hostSess p.session))

theorem State.course_putFlight (s : State) (p : Packet) (k : Nat) :
    (s.put (Reg.hostSess p.session) 8 5 k).course p = s.course p := by
  rw [State.course, State.put, State.rd_wr_same, sessionCourse_putFlight, ← State.course]

theorem State.course_consume (s : State) {p : Packet} (hp : p.session < 128) :
    (s.consume p).course p
      = (s.fld (Reg.hostSess p.session) 0 2, s.fld (Reg.hostSess p.session) 2 3, (p.seq + 1) % 256) := by
  rw [State.course, (s.consume_links p).words _ (linkReg_hostSess hp), State.put, State.rd_wr_same,
    sessionCourse_putSeq]
  rfl

/-- Taking the packet counts it among those in flight. -/
theorem State.taken_eq (s : State) (op : Nat) (p : Packet) (aid : Aid) :
    ∃ (u : State) (k : Nat), s.taken op p aid = u.put (Reg.hostSess p.session) 8 5 k ∧ KeepsLinks (s.consume p) u := by
  unfold State.taken
  generalize s.consume p = v
  exact ⟨_, _, rfl, .fields v v.rings v.memx _ v.replies v.net v.sent v.sec v.cyc⟩

theorem State.session_taken (s : State) (op : Nat) (p : Packet) (aid : Aid) :
    (s.taken op p aid).session p.session = s.consumedSession p none := by
  obtain ⟨u, k, htaken, hu⟩ := s.taken_eq op p aid
  rw [htaken, State.session_of_sessions ((State.put_sessions _ _ _ _ _).trans
    (hu.sessions.trans ((s.consume_links p).sessions.trans (State.put_sessions _ _ _ _ _))))]
  exact State.session_setSession _ _ _

theorem State.course_taken (s : State) (op : Nat) {p : Packet} (aid : Aid) (hp : p.session < 128) :
    (s.taken op p aid).course p = (s.consume p).course p := by
  obtain ⟨u, k, htaken, hu⟩ := s.taken_eq op p aid
  rw [htaken, State.course_putFlight, State.course, hu.words _ (linkReg_hostSess hp), ← State.course]

/-- The state in which a command's final reply is made: it is no longer in flight. -/
theorem State.finish_eq_answer (u : State) (op : Nat) (p : Packet) (st : Status) (payload : List Byte) :
    ∃ v : State, u.finish op p st payload = v.answer op p st payload ∧
      KeepsLinks (u.put (Reg.hostSess p.session) 8 5 (u.fld (Reg.hostSess p.session) 8 5 - 1)) v := by
  refine ⟨_, rfl, ?_⟩
  have hflight : KeepsLinks (u.put (Reg.hostSess p.session) 8 5 (u.fld (Reg.hostSess p.session) 8 5 - 1))
      (State.put { u with inflight := dropFlight p u.inflight } (Reg.hostSess p.session) 8 5
        (u.fld (Reg.hostSess p.session) 8 5 - 1)) := ⟨rfl, fun _ _ => rfl⟩
  exact hflight.trans (.ite (.audit _ _ _ _ _ _) (.refl _))

/-- A reply is kept with the latest packet of its session, where that has its seq (R425). -/
theorem State.session_noteReply (v : State) {p : Packet} {r : Reply} {c : Consumed} {cs : List Consumed}
    (h : (v.session p.session).history = c :: cs) (hc : c.seq = p.seq) :
    (v.noteReply p r).session p.session
      = { v.session p.session with history := { c with reply := some r } :: cs } := by
  have hput : State.noteReply.put p r (v.session p.session).history = { c with reply := some r } :: cs := by
    rw [h, State.noteReply.put, if_pos hc]
  rw [← hput]
  exact State.session_setSession _ _ _

/-- The final reply to `p` is kept in its session, whose course goes on. -/
theorem State.finish_taken {s : State} {op : Nat} {p : Packet} (aid : Aid) (st : Status) (payload : List Byte)
    (hp : p.session < 128) (hchan : p.chan < 8) :
    ∃ r : Reply, (r.status = st.code ∧ r.payload = payload ∧ r.session = p.session ∧ r.seq = p.seq) ∧
      ((s.taken op p aid).finish op p st payload).session p.session = s.consumedSession p (some r) ∧
      ((s.taken op p aid).finish op p st payload).course p = (s.consume p).course p := by
  obtain ⟨v, hv, hlinks⟩ := (s.taken op p aid).finish_eq_answer op p st payload
  have hcounted := hlinks.trans (KeepsLinks.countStatus v st)
  have hemit := KeepsLinks.emit ((v.countStatus st).noteReply p (v.replyOf op p st payload))
    (r := v.replyOf op p st payload) hchan
  have hsession : (v.countStatus st).session p.session = s.consumedSession p none := by
    rw [State.session_of_sessions hcounted.sessions, State.session_of_sessions (State.put_sessions _ _ _ _ _),
      s.session_taken op p aid]
  have hnoted (t : State) (r : Reply) : (t.noteReply p r).course p = t.course p := rfl
  refine ⟨v.replyOf op p st payload, ⟨rfl, rfl, rfl, rfl⟩, ?_, ?_⟩
  · rw [hv, State.answer, State.session_of_sessions hemit.sessions,
      State.session_noteReply _ (congrArg Session.history hsession) rfl, hsession]
    rfl
  · rw [hv, State.answer, State.course, hemit.words _ (linkReg_hostSess hp), ← State.course, hnoted, State.course,
      hcounted.words _ (linkReg_hostSess hp), ← State.course, State.course_putFlight, s.course_taken op aid hp]

/-! ## The checks of R415 on the packet that comes again -/

/-- A packet that passes steps 4 to 6 comes from the open session's own channel and address. -/
theorem State.judge_take {s : State} {op : Nat} {p : Packet} (hp : p.session < 128) (h : s.judge op p = .take) :
    s.isOpen p.session = true ∧ s.sessChan p.session = p.chan ∧
      ¬ ((p.chan = 5 ∨ p.chan = 6) ∧ ((s.session p.session).srcIp ≠ p.srcIp ∨ (s.session p.session).srcPort ≠ p.srcPort)) := by
  unfold State.judge at h
  rw [if_neg (by omega)] at h
  by_contra hbad
  rw [if_pos (by tauto)] at h
  cases h

/-- A packet of that session whose seq is not the expected one is a resend where the history holds it. -/
theorem State.judge_resend {s : State} {op : Nat} {p : Packet} {c : Consumed} (hp : p.session < 128)
    (hopen : s.isOpen p.session = true) (hchan : s.sessChan p.session = p.chan)
    (hsrc : ¬ ((p.chan = 5 ∨ p.chan = 6) ∧ ((s.session p.session).srcIp ≠ p.srcIp ∨ (s.session p.session).srcPort ≠ p.srcPort)))
    (hseq : p.seq ≠ s.fld (Reg.hostSess p.session) 13 8)
    (hfind : (s.session p.session).history.find? (fun c => c.seq == p.seq && c.crc == p.crc) = some c) :
    s.judge op p = .resend c := by
  unfold State.judge
  rw [if_neg (by omega), if_neg (by tauto), if_pos hseq, hfind]

/-- Settles O55: the packet stands at the head of its session's history with the reply, and another seq is expected. -/
theorem resentPacketIsNotExecutedAgain : Obligations.ResentPacketIsNotExecutedAgain := by
  rintro s u t op p aid st payload h hp hseq rfl rfl
  obtain ⟨hserves, -, htake, -, -⟩ := h
  obtain ⟨r, ⟨hst, hpayload, hsess, hrseq⟩, hsession, hcourse⟩ :=
    State.finish_taken (s := s) (op := op) aid st payload hp (chan_lt_of_serves hserves)
  generalize (s.taken op p aid).finish op p st payload = t at hsession hcourse ⊢
  rw [s.course_consume hp, State.course, sessionCourse, Prod.mk.injEq, Prod.mk.injEq] at hcourse
  obtain ⟨hstate, hchan, hnext⟩ := hcourse
  refine ⟨r, hst, hpayload, hsess, hrseq, ?_, fun hserves' hroom' => ?_⟩
  · rw [State.keptReply, hsession]
    simp [State.consumedSession]
  · obtain ⟨hopen, hsame, hsrc⟩ := State.judge_take hp htake
    refine exec_duplicatePacket_resend hserves' hroom' (c := { seq := p.seq, crc := p.crc, reply := some r })
      (State.judge_resend hp ?_ ?_ ?_ ?_ ?_) rfl
    · rw [State.isOpen, State.fld, hstate]
      exact hopen
    · rw [State.sessChan, State.fld, hchan]
      exact hsame
    · rw [hsession]
      exact hsrc
    · rw [State.fld, hnext]
      omega
    · rw [hsession]
      simp [State.consumedSession]

end Sys2Proof.Machine

/-! # Opcodes of leases and of configuration (R430, R431, R433, R434, R436 to R439) -/

namespace Sys2Proof.Machine

theorem exec_leaseTake_takes {s : State} {p : Packet} (elsewhere : Bool) (h : s.takes 0x0104 p true)
    (hl : p.payload.length = 8) :
    exec (.leaseTake p elsewhere) s = .next ((s.taken 0x0104 p (.flag elsewhere)).runTake p elsewhere) :=
  State.next_command_takes h (decide_eq_true hl) _ _

theorem exec_leaseRelease_takes {s : State} {p : Packet} (h : s.takes 0x0105 p true) (hl : p.payload.length = 4) :
    exec (.leaseRelease p) s = .next ((s.taken 0x0105 p).runRelease p) :=
  State.next_command_takes h (decide_eq_true hl) _ _

theorem exec_cfgRead_takes {s : State} {p : Packet} (h : s.takes 0x0100 p true) (hl : p.payload.length = 8) :
    exec (.cfgRead p) s = .next ((s.taken 0x0100 p).runCfgRead p) :=
  State.next_command_takes h (decide_eq_true hl) _ _

theorem exec_cfgWrite_takes {s : State} {p : Packet} (elsewhere : Bool) (h : s.takes 0x0101 p true)
    (hmin : 8 ≤ p.payload.length) (hmax : p.payload.length ≤ 4096) (hl : p.payload.length % 4 = 0) :
    exec (.cfgWrite p elsewhere) s = .next ((s.taken 0x0101 p (.flag elsewhere)).runCfgWrite p elsewhere) :=
  State.next_command_takes h (by simp [hmin, hmax, hl]) _ _

theorem exec_cfgFix_takes {s : State} {p : Packet} (h : s.takes 0x0102 p true) (hl : p.payload = []) :
    exec (.cfgFix p) s = .next ((s.taken 0x0102 p).runFix p) :=
  State.next_command_takes h (decide_eq_true hl) _ _

/-! ## LEASE_TAKE -/

/-- Lease entry `i` holds the object that the packet names, for its session, under the next handle (R437). -/
def State.enterLease (s : State) (p : Packet) (i : Nat) : State :=
  let t : State := { s with leaseLast := s.nextHandle, leaseDur := sparseSet (fun _ => 0) s.leaseDur i (leAt p.payload 4 4) }
  let t := t.wr (Reg.hostLeaseA i) (word (leAt p.payload 0 1 + leAt p.payload 2 2 * 2 ^ 8 + p.session * 2 ^ 24))
  let t := t.wr (Reg.hostLeaseB i) (word (s.nextHandle + leAt p.payload 4 4 * 2 ^ 16))
  let t := t.put Reg.memLease 0 9 (t.fld Reg.memLease 0 9 + 1)
  t.put (Reg.hostSess p.session) 21 8 (t.fld (Reg.hostSess p.session) 21 8 + 1)

theorem State.enterLease_leaseLast (s : State) (p : Packet) (i : Nat) :
    (s.enterLease p i).leaseLast = s.nextHandle := by
  simp [State.enterLease]

theorem State.enterLease_leaseDur (s : State) (p : Packet) (i : Nat) :
    sparseGet (fun _ => 0) (s.enterLease p i).leaseDur i = leAt p.payload 4 4 := by
  simp [State.enterLease, sparseGet_set_same]

/-- A free object that the role may lease takes the lowest free entry (R437, R439, R492). -/
theorem State.runTake_accepted {u : State} {p : Packet} {elsewhere : Bool} {mask top i : Nat}
    (hkind : leaseKinds (leAt p.payload 0 1) = some (mask, top)) (hindex : leAt p.payload 2 2 ≤ top)
    (hmin : 100 ≤ leAt p.payload 4 4) (hmax : leAt p.payload 4 4 ≤ 60000)
    (hrole : mask / 2 ^ u.role p.session % 2 = 1)
    (hfree : u.leaseOn (leAt p.payload 0 1) (leAt p.payload 2 2) = none)
    (hentry : (List.range 256).find? (fun i => u.leaseKind i == 0) = some i)
    (htt : leAt p.payload 0 1 = 7 → elsewhere = false ∧ u.hasSurveyor = true) :
    u.runTake p elsewhere = (u.enterLease p i).granted p u.nextHandle := by
  have helse : ¬ (leAt p.payload 0 1 = 7 ∧ elsewhere = true) := fun ⟨h7, he⟩ => by simp [(htt h7).1] at he
  have hlead : ¬ (leAt p.payload 0 1 = 7 ∧ ¬ u.hasSurveyor = true) := fun ⟨h7, hn⟩ => hn (htt h7).2
  unfold State.runTake
  simp only [hkind]
  rw [if_neg (by omega), if_neg (by omega), if_neg helse]
  simp only [hfree, hentry]
  rw [if_neg hlead]
  rfl

theorem State.runRelease_accepted {u : State} {p : Packet} {i : Nat}
    (hlease : u.leaseCheck (leAt p.payload 0 1) (leAt p.payload 2 2) p = none)
    (hon : u.leaseOn (leAt p.payload 0 1) (leAt p.payload 2 2) = some i) :
    u.runRelease p = (u.endLease i .release).finish 0x0105 p .ok [] := by
  simp only [State.runRelease, hlease, hon]

/-! ## CFG_READ -/

theorem State.runCfgRead_ledger {u : State} {p : Packet} (hspace : leAt p.payload 0 1 = 2) (hmin : 1 ≤ leAt p.payload 2 2)
    (hmax : leAt p.payload 2 2 ≤ 512) :
    u.runCfgRead p = u.finish 0x0100 p .ok
      (((u.ledger.drop (leAt p.payload 4 4)).take (leAt p.payload 2 2)).flatMap claimBytes) :=
  (if_pos hspace).trans (if_neg (by omega))

/-- The range checks of spaces 0 and 1. -/
theorem State.runCfgRead_registers {u : State} {p : Packet} {a n : Nat} (ha : a = leAt p.payload 4 4)
    (hn : n = leAt p.payload 2 2) (hmin : 1 ≤ n) (hmax : n ≤ 1024) (halign : a % 4 = 0) (hfirst : inBlocks a = true)
    (hlast : inBlocks (a + 4 * n - 4) = true) (hspace : leAt p.payload 0 1 < 2)
    (hlease : leAt p.payload 0 1 = 1 → u.leaseCheck 1 0 p = none) :
    u.runCfgRead p = if leAt p.payload 0 1 = 0 then (u.readFixed a n).2.finish 0x0100 p .ok (u.readFixed a n).1
      else u.finish 0x0100 p .ok ((List.range n).flatMap (fun i =>
        wordBytes ((u.stagedValue (a + 4 * i)).getD (u.readReg (a + 4 * i))))) := by
  subst ha hn
  have hstaged : ¬ (leAt p.payload 0 1 = 1 ∧ u.leaseCheck 1 0 p ≠ none) := fun ⟨h1, hl⟩ => hl (hlease h1)
  have hrange : ¬ (leAt p.payload 2 2 = 0 ∨ 1024 < leAt p.payload 2 2 ∨ leAt p.payload 4 4 % 4 ≠ 0
      ∨ ¬ inBlocks (leAt p.payload 4 4) = true
      ∨ ¬ inBlocks (leAt p.payload 4 4 + 4 * leAt p.payload 2 2 - 4) = true) := by
    rintro (h | h | h | h | h)
    · omega
    · omega
    · exact h halign
    · exact h hfirst
    · exact h hlast
  unfold State.runCfgRead
  exact (if_neg (by omega)).trans ((if_neg (by omega)).trans ((if_neg hstaged).trans (if_neg hrange)))

/-! ## CFG_WRITE and CFG_FIX -/

theorem State.runCfgWrite_accepted {u : State} {p : Packet} {elsewhere : Bool} {l : List (Nat × Word)}
    (hlease : u.leaseCheck 1 0 p = none)
    (hchecks : ∀ i < (p.payload.length - 4) / 4, u.stageCheck p elsewhere (leAt p.payload 0 4 + 4 * i) = none)
    (hl : l = stageAll u.staging (leAt p.payload 0 4) (bytesWords ((p.payload.length - 4) / 4) (p.payload.drop 4)))
    (hroom : l.length ≤ 4096) :
    u.runCfgWrite p elsewhere = State.finish { u with staging := l } 0x0101 p .ok [] := by
  have hnone : (List.range ((p.payload.length - 4) / 4)).findSome?
      (fun i => u.stageCheck p elsewhere (leAt p.payload 0 4 + 4 * i)) = none := by
    simpa only [List.findSome?_eq_none_iff, List.mem_range] using hchecks
  subst hl
  unfold State.runCfgWrite
  simp only [hlease, hnone]
  rw [if_neg hroom.not_gt]

theorem State.runFix_empty {u : State} {p : Packet} (hlease : u.leaseCheck 1 0 p = none) (hempty : u.staging = []) :
    u.runFix p = u.finish 0x0102 p .ok [] := by
  simp only [State.runFix, hlease, if_pos hempty]

theorem State.runFix_accepted {u : State} {p : Packet} (hlease : u.leaseCheck 1 0 p = none) (hset : u.staging ≠ [])
    (hverdict : u.fixVerdict = none) : u.runFix p = (u.pend 0x0102 p).fixAccept 0x0102 p := by
  simp only [State.runFix, hlease, if_neg hset, hverdict]

theorem exec_fixApplied_due {s : State} (h : s.fixes ≠ []) : exec .fixApplied s = .next s.applyNow.startHeld :=
  congrArg Host.Outcome.next (if_neg h)

theorem exec_leaseExpiry_due {s : State} {i : Nat} (hi : i < 256) (hheld : s.leaseKind i ≠ 0) (hleft : s.leaseLeft i = 0) :
    exec (.leaseExpiry i) s = .next (s.endLease i .expiry) :=
  congrArg Host.Outcome.next (if_pos ⟨hi, hheld, hleft⟩)

/-- Settles O9: each packet that is taken runs its opcode, whose checks all pass. -/
theorem leaseAndConfigurationOpcodesComplete : Obligations.LeaseAndConfigurationOpcodesComplete := by
  refine ⟨?take, ?release, ?ledger, ?registers, ?write, ?discard, ?fix, fun s h => exec_fixApplied_due h,
    fun s i hi hheld hleft => exec_leaseExpiry_due hi hheld hleft⟩
  case take =>
    rintro s u p e mask top i h rfl hl hkind hindex hmin hmax hrole hfree hentry htt
    exact ⟨_, (exec_leaseTake_takes e h hl).trans (congrArg Host.Outcome.next
      (State.runTake_accepted hkind hindex hmin hmax hrole hfree hentry htt)),
      State.enterLease_leaseLast _ p i, State.enterLease_leaseDur _ p i⟩
  case release =>
    rintro s u p i h rfl hl hlease hon
    rw [exec_leaseRelease_takes h hl, State.runRelease_accepted hlease hon]
  case ledger =>
    rintro s u p h rfl hl hspace hmin hmax
    rw [exec_cfgRead_takes h hl, State.runCfgRead_ledger hspace hmin hmax]
  case registers =>
    rintro s u p a n h rfl hl ha hn hmin hmax halign hfirst hlast
    rw [exec_cfgRead_takes h hl]
    refine ⟨fun h0 => ?_, fun h1 hlease => ?_⟩
    · rw [State.runCfgRead_registers ha hn hmin hmax halign hfirst hlast (by omega) (by omega), if_pos h0]
    · rw [State.runCfgRead_registers ha hn hmin hmax halign hfirst hlast (by omega) fun _ => hlease,
        if_neg (by omega)]
  case write =>
    rintro s u p e l h rfl hmin hmax hlen hlease hchecks hl hroom
    rw [exec_cfgWrite_takes e h hmin hmax hlen, State.runCfgWrite_accepted hlease hchecks hl hroom]
  case discard =>
    rintro s u p h rfl hl hlease
    exact (exec_cfgDiscard_takes h hl).trans (congrArg Host.Outcome.next (State.runDiscard_accepted hlease))
  case fix =>
    rintro s u p h rfl hl hlease
    rw [exec_cfgFix_takes h hl]
    exact ⟨fun hempty => congrArg Host.Outcome.next (State.runFix_empty hlease hempty),
      fun hset hverdict => congrArg Host.Outcome.next (State.runFix_accepted hlease hset hverdict)⟩

end Sys2Proof.Machine

/-! # Ethernet and CAN (R420, R443 to R448, R464, R466, R467, R579) -/

namespace Sys2Proof.Machine

/-! ## Ethernet -/

/-- A frame at an enabled port that is up is taken or counted. -/
theorem exec_ethFrameReceived_up {s : State} {p dt : Nat} {f : EthFrame} (hp : p < 2)
    (hon : s.fld (Reg.netEthCfg p) 0 3 ≠ 0) (hup : s.bit (Reg.netEthStat p) 0 = true) :
    exec (.ethFrameReceived p f dt) s
      = .next (if ¬ ethGood f = true then s.countUp (Reg.netEthErr p) 0 16 1 else s.takeEth p f dt) := by
  have hserved : ¬ (2 ≤ p ∨ s.fld (Reg.netEthCfg p) 0 3 = 0 ∨ ¬ s.bit (Reg.netEthStat p) 0 = true) := by
    rintro (h | h | h)
    · exact h.not_gt hp
    · exact hon h
    · exact h hup
  exact congrArg Host.Outcome.next (if_neg hserved)

theorem exec_ethFrameSent_due {s : State} {p what : Nat} (dt : Nat) (tsReq last : Bool) (h : s.hasFrame p what = true) :
    exec (.ethFrameSent p what dt tsReq last) s = .next (s.frameSent p what dt tsReq last).startHeld :=
  congrArg Host.Outcome.next (if_pos h)

/-- MDIO is served in every mode in which the port is on (R579). -/
theorem ethUse_mdio {mode : Nat} (h : mode ∈ [1, 2, 3, 4, 5]) : ethUse mode 16 = .both := by
  revert mode
  decide

/-- The link of a clocked port comes up at a speed of its mode (R443, R444). -/
theorem exec_ethLinkUp_due {s u : State} {p speed mode : Nat} (hp : p < 2) (hclock : s.ethClock = true)
    (hmode : mode = s.fld (Reg.netEthCfg p) 0 3) (hon : mode ∈ [1, 2, 3, 4, 5])
    (hspeed : (ethSpeeds mode).contains speed = true)
    (hu : u = (s.setBit (Reg.netEthStat p) 0 true).put (Reg.netEthStat p) 1 2 speed) :
    exec (.ethLinkUp p speed) s = .next (((u.setBit (Reg.netEthStat p) 3 (s.bit (Reg.netEthCfg p) 5)).setBit
      Reg.netStatus (6 + p) true).setBit Reg.hostStatus (5 + p) true) := by
  subst hu hmode
  have hserved : ¬ (2 ≤ p ∨ ¬ s.ethClock = true ∨ s.ethPad p 16 ≠ .both
      ∨ ¬ (ethSpeeds (s.fld (Reg.netEthCfg p) 0 3)).contains speed = true) := by
    rintro (h | h | h | h)
    · exact h.not_gt hp
    · exact h hclock
    · exact h (ethUse_mdio hon)
    · exact h hspeed
  exact congrArg Host.Outcome.next (if_neg hserved)

theorem exec_ethReassemblyTimeout_due {s : State} {p key t : Nat} (hmem : (p, key, t) ∈ s.net.reasm)
    (hdue : t + 20 ≤ s.tick) :
    exec (.ethReassemblyTimeout p key) s = .next ((s.setNet { s.net with
      reasm := s.net.reasm.filter (fun r => !(r.1 == p && r.2.1 == key)) }).countUp Reg.hostEthReasm 0 16 1) :=
  congrArg Host.Outcome.next (if_pos (List.any_eq_true.mpr ⟨_, hmem, by simp [hdue]⟩))

theorem exec_ethPortDownFault_due {s : State} {p : Nat} (hp : p < 2) (hdown : s.bit (Reg.netEthStat p) 0 = false)
    (hdue : sparseGet (fun _ => 0) s.net.downTick p + 1000 ≤ s.tick) :
    exec (.ethPortDownFault p) s = .next (s.faultSessions (fun c => c == 5 + p)) :=
  congrArg Host.Outcome.next (if_pos ⟨hp, Bool.eq_false_iff.mp hdown, hdue⟩)

/-! ## CAN -/

/-- Controller `n` is in use and on the bus. -/
theorem canServes {s : State} {n : Nat} (hn : n < 4) (hformat : s.canFormat n ≠ 0) (hstate : s.canState n ≠ 2) :
    ¬ (4 ≤ n ∨ s.canFormat n = 0 ∨ s.canState n = 2) := by
  rintro (h | h | h)
  · exact h.not_gt hn
  · exact hformat h
  · exact hstate h

theorem exec_canFrameReceived_due {s u : State} {n : Nat} {f : CanFrame} (dt errors tec rec' : Nat) (hn : n < 4)
    (hformat : s.canFormat n ≠ 0) (hclass : canClass f.flags ≤ s.canFormat n) (hstate : s.canState n ≠ 2)
    (hu : u = s.canErrors n errors tec rec') :
    exec (.canFrameReceived n f dt errors tec rec') s
      = .next (if u.accepts n f = true ∧ u.ringEnabled 59 = true then
          u.offer 59 (inlineDescs (u.canBytes n f dt).length) (u.canBytes n f dt) else u) := by
  subst hu
  exact congrArg Host.Outcome.next ((if_neg (canServes hn hformat hstate)).trans (if_neg hclass.not_gt))

theorem exec_canFrameSent_due {s : State} {n : Nat} {r : RingUnit} {l : List RingUnit} (lost : Bool)
    (dt errors tec rec' : Nat) (hn : n < 4) (hformat : s.canFormat n ≠ 0) (hstate : s.canState n ≠ 2)
    (hsends : s.bit (Reg.netCanCfg n) 3 = false) (hunits : (s.ring (60 + n)).units = r :: l) :
    exec (.canFrameSent n lost dt errors tec rec') s = .next (s.canSent n r lost dt errors tec rec') := by
  have hserved : ¬ (4 ≤ n ∨ s.canFormat n = 0 ∨ s.canState n = 2 ∨ s.bit (Reg.netCanCfg n) 3 = true) := by
    rintro (h | h | h | h)
    · exact h.not_gt hn
    · exact hformat h
    · exact hstate h
    · exact Bool.false_ne_true (hsends.symm.trans h)
  show execCanFrameSent n lost dt errors tec rec' s = _
  rw [execCanFrameSent, if_neg hserved, hunits]

theorem exec_canBusOff_due {s : State} {n : Nat} (onBus : Bool) (dt : Nat) (hn : n < 4) (hformat : s.canFormat n ≠ 0)
    (hstate : s.canState n ≠ 2) : exec (.canBusOff n onBus dt) s = .next (s.canOff n onBus dt) :=
  congrArg Host.Outcome.next (if_neg (canServes hn hformat hstate))

theorem exec_canBusOn_due {s u : State} {n : Nat} (hn : n < 4) (hstate : s.canState n = 2)
    (hrecovers : (s.canSt n).recovering = true ∨ s.bit (Reg.netCanCfg n) 4 = true)
    (hu : u = ((s.wr (Reg.netCanStat n) 0).setBit Reg.netStatus (8 + n) false).setBit Reg.netStatus (12 + n) false) :
    exec (.canBusOn n) s = .next ((u.setCanSt n { u.canSt n with recovering := false }).raise 0x0E08 []) := by
  subst hu
  exact congrArg Host.Outcome.next (if_pos ⟨hn, hstate, hrecovers⟩)

/-- Settles O38: each row is due under its conditions. -/
theorem ethernetAndCanRowsComplete : Obligations.EthernetAndCanRowsComplete := by
  refine ⟨?good, ?bad, fun s p what dt tsReq last h => exec_ethFrameSent_due dt tsReq last h,
    fun s u p speed mode hp hclock hmode hon hspeed hu => exec_ethLinkUp_due hp hclock hmode hon hspeed hu,
    fun s p hp => rfl, ?reassembly, fun s p hp hdown hdue => exec_ethPortDownFault_due hp hdown hdue,
    fun s u n dt errors tec rec' f hn hformat hclass hstate hu =>
      exec_canFrameReceived_due dt errors tec rec' hn hformat hclass hstate hu,
    fun s n dt errors tec rec' lost r l hn hformat hstate hsends hunits =>
      exec_canFrameSent_due lost dt errors tec rec' hn hformat hstate hsends hunits,
    fun s n dt onBus hn hformat hstate => exec_canBusOff_due onBus dt hn hformat hstate,
    fun s u n hn hstate hrecovers hu => exec_canBusOn_due hn hstate hrecovers hu⟩
  case good =>
    intro s p dt f hp hon hup hgood
    rw [exec_ethFrameReceived_up hp hon hup, if_neg (not_not_intro hgood)]
  case bad =>
    intro s p dt f hp hon hup hbad
    rw [exec_ethFrameReceived_up hp hon hup, if_pos (Bool.eq_false_iff.mp hbad)]
  case reassembly =>
    rintro s p key t v hmem hdue rfl
    exact exec_ethReassemblyTimeout_due hmem hdue

end Sys2Proof.Machine

/-! # Time (R452, R454, R457, R533) -/

namespace Sys2Proof.Machine

theorem exec_ptpSync_due {s : State} (offset : Int) (incNs incFrac portState utc : Nat)
    (h : s.timeSource = 1 ∨ s.timeSource = 2) :
    exec (.ptpSync offset incNs incFrac portState utc) s
      = .next (((s.hearSync.put Reg.netPtpStat 0 4 portState).put Reg.netPtpStat 16 16 utc).syncTime offset incNs
          incFrac) := by
  have hsource : s.ptpSource = true := by simpa [State.ptpSource] using h
  exact congrArg Host.Outcome.next (if_pos hsource)

theorem exec_timeLocked_due {s : State} (hstate : s.timeState ≠ 1) (hgood : 16 ≤ s.net.good) (hsource : s.timeSource ≠ 0) :
    exec .timeLocked s = .next ((s.put Reg.netStatus 0 2 1).raise 0x0E00 []).tcUpdate :=
  congrArg Host.Outcome.next (if_pos ⟨hstate, hgood, hsource⟩)

theorem exec_timeSourceLost_due {s : State} (h : s.sourceSilent = true) : exec .timeSourceLost s = .next s.loseTime :=
  congrArg Host.Outcome.next (if_pos h)

theorem exec_timeFree_due {s : State} (hstate : s.timeState = 2)
    (hdue : s.net.holdTick + s.fld Reg.netTimeCfg 16 12 * 1000 ≤ s.tick) :
    exec .timeFree s = .next ((s.put Reg.netStatus 0 2 0).raise 0x0E02 []).tcUpdate :=
  congrArg Host.Outcome.next (if_pos ⟨hstate, hdue⟩)

theorem exec_timeMatch_due {s : State} {k dt : Nat} (hk : k < 16) (hon : s.bit (Reg.netCmpCfg k) 0 = true)
    (hreached : 0 ≤ s.cmpDistance k dt) (hfirst : dt = 0 ∨ s.net.moved = true ∨ s.cmpDistance k (dt - 1) < 0) :
    exec (.timeMatch k dt) s = .next (s.fireCmp k dt) := by
  have hdue : s.cmpDue k dt = true := by
    unfold State.cmpDue
    simpa [hk, hon, hreached, or_assoc] using hfirst
  exact congrArg Host.Outcome.next (if_pos hdue)

theorem exec_rtcWrite_due {s u : State} {n : Nat} (hlocked : s.timeState = 1) (hsecond : s.wholeSecond = some n)
    (hu : u = (s.wr Reg.sysRtcLo (word n)).wr Reg.sysRtcHi (word (n / 2 ^ 32))) :
    exec .rtcWrite s = .next (u.setSys { u.sys with rtcRest := 0 }) := by
  subst hu
  show execRtcWrite s = _
  simp only [execRtcWrite, hsecond]
  rw [if_pos hlocked]

/-- Settles O39: each row is due under its conditions. -/
theorem timeRowsComplete : Obligations.TimeRowsComplete :=
  ⟨fun _ offset incNs incFrac portState utc h => exec_ptpSync_due offset incNs incFrac portState utc h,
    fun _ hstate hgood hsource => exec_timeLocked_due hstate hgood hsource,
    fun _ h => exec_timeSourceLost_due h,
    fun _ hstate hdue => exec_timeFree_due hstate hdue,
    fun _ _ _ hk hon hreached hfirst => exec_timeMatch_due hk hon hreached hfirst,
    fun _ _ _ hlocked hsecond hu => exec_rtcWrite_due hlocked hsecond hu⟩

end Sys2Proof.Machine

/-! # Opcodes of the fabric (R484, R494, R507) -/

namespace Sys2Proof.Machine

theorem exec_fabStatus_takes {s : State} {p : Packet} (h : s.takes 0x0700 p true) (hl : p.payload = []) :
    exec (.fabStatus p) s = .next ((s.taken 0x0700 p).runFabStatus p) :=
  State.next_command_takes h (decide_eq_true hl) _ _

theorem exec_fabNodeRead_takes {s : State} {p : Packet} (h : s.takes 0x0701 p true) (hl : p.payload.length = 12) :
    exec (.fabNodeRead p) s = .next ((s.taken 0x0701 p).runNodeRead p) :=
  State.next_command_takes h (decide_eq_true hl) _ _

theorem exec_fabSurvey_takes {s : State} {p : Packet} (h : s.takes 0x0702 p true) (hl : p.payload = []) :
    exec (.fabSurvey p) s = .next ((s.taken 0x0702 p).runSurvey p) :=
  State.next_command_takes h (decide_eq_true hl) _ _

theorem exec_fabTtSwap_takes {s : State} {p : Packet} (h : s.takes 0x0703 p true) (hl : p.payload = []) :
    exec (.fabTtSwap p) s = .next ((s.taken 0x0703 p).runSwap p) :=
  State.next_command_takes h (decide_eq_true hl) _ _

/-! ## FAB_NODE_READ -/

/-- The checks of R507 on the node and the range that the packet names. -/
theorem nodeRead_checks {u : State} {p : Packet} {node n : Nat} (hnode : node = leAt p.payload 0 2 % 2 ^ 12)
    (hn : n = leAt p.payload 8 2) (hknown : u.knowsNode node = true) (hmin : 1 ≤ n) (hmax : n ≤ 256)
    (hrange : deviceRange (leAt p.payload 4 4) n = true) :
    ¬ (¬ u.knowsNode (leAt p.payload 0 2 % 2 ^ 12) = true ∨ leAt p.payload 8 2 = 0 ∨ 256 < leAt p.payload 8 2
      ∨ ¬ deviceRange (leAt p.payload 4 4) (leAt p.payload 8 2) = true) := by
  subst hnode hn
  rintro (h | h | h | h)
  · exact h hknown
  · omega
  · omega
  · exact h hrange

/-- The node's own words are answered at once. -/
theorem State.runNodeRead_own {u : State} {p : Packet} {node n : Nat} (hnode : node = leAt p.payload 0 2 % 2 ^ 12)
    (hn : n = leAt p.payload 8 2) (hknown : u.knowsNode node = true) (hmin : 1 ≤ n) (hmax : n ≤ 256)
    (hrange : deviceRange (leAt p.payload 4 4) n = true) (hown : node = u.nodeId) (hon : u.bit Reg.fabCfg 1 = true) :
    u.runNodeRead p = u.finish 0x0701 p .ok
      (wordsBytes ((List.range n).map (fun k => u.bar2Word (leAt p.payload 4 4 + 4 * k)))) := by
  have hchecks := nodeRead_checks hnode hn hknown hmin hmax hrange
  subst hnode hn
  exact (if_neg hchecks).trans ((if_pos hown).trans (if_pos hon))

/-- Another node is asked. -/
theorem State.runNodeRead_other {u : State} {p : Packet} {node n port : Nat} {r : NodeRead}
    (hnode : node = leAt p.payload 0 2 % 2 ^ 12) (hn : n = leAt p.payload 8 2) (hknown : u.knowsNode node = true)
    (hmin : 1 ≤ n) (hmax : n ≤ 256) (hrange : deviceRange (leAt p.payload 4 4) n = true)
    (hport : port = (u.wayPorts node 0 ++ u.wayPorts node 1).head?.getD 4)
    (hr : r = { packet := p, tag := u.fab.seq, node := node, start := u.tick, port := port }) (hother : node ≠ u.nodeId) :
    u.runNodeRead p = ((u.setFab { u.fab with reads := u.fab.reads ++ [r] }).pend 0x0701 p).sendFab node
      (.readReq u.fab.seq (leAt p.payload 4 4) n) := by
  have hchecks := nodeRead_checks hnode hn hknown hmin hmax hrange
  subst hr hport hnode hn
  exact (if_neg hchecks).trans (if_neg hother)

/-! ## FAB_SURVEY and FAB_TT_SWAP -/

theorem State.runSurvey_accepted {u v : State} {p : Packet} (hlead : u.hasSurveyor = true)
    (hv : v = (u.setSurvey { u.fab.survey with cmds := u.fab.survey.cmds ++ [p] }).pend 0x0702 p) :
    u.runSurvey p = if v.isSurveyor then v.startReports else v.sendFab v.surveyorId .again := by
  subst hv
  exact if_neg (not_not_intro hlead)

/-- The checks of R494, and whether the shadow differs from the active timetable. -/
theorem State.runSwap_accepted {u v : State} {p : Packet} {cycle : Nat} (hlease : u.leaseCheck 7 0 p = none)
    (hlead : u.hasSurveyor = true) (hdist : u.fab.tt.dist = none)
    (hcycle : cycle = if u.isSurveyor then (u.rd Reg.fabCycle).toNat + 16 else 0)
    (hv : v = ((u.setTt { u.fab.tt with swap := some cycle, swapCmd := some p }).setBit Reg.fabTtStat 15 true).pend
      0x0703 p) :
    u.runSwap p = if u.fab.shadow = u.fab.active ∧ u.fld Reg.fabTtCycle 0 14 = u.activeCycle then
        u.finish 0x0703 p .ok []
      else if v.isSurveyor then v else v.sendFab v.surveyorId (.timetable .swap) := by
  subst hv hcycle
  unfold State.runSwap
  simp only [hlease]
  exact (if_neg (not_not_intro hlead)).trans (if_neg (not_not_intro hdist))

/-- Settles O18: each packet that is taken runs its opcode, whose checks all pass. -/
theorem fabricOpcodesComplete : Obligations.FabricOpcodesComplete := by
  refine ⟨?status, ?nodeRead, ?survey, ?swap⟩
  case status =>
    rintro s u p h rfl hl
    exact exec_fabStatus_takes h hl
  case nodeRead =>
    rintro s u p node n port r h rfl hl hnode hn hknown hmin hmax hrange hport hr
    rw [exec_fabNodeRead_takes h hl]
    refine ⟨fun hown hon => ?_, fun hother => ?_⟩
    · rw [State.runNodeRead_own hnode hn hknown hmin hmax hrange hown hon]
    · rw [State.runNodeRead_other hnode hn hknown hmin hmax hrange hport hr hother]
  case survey =>
    rintro s u v p h rfl hl hlead hv
    rw [exec_fabSurvey_takes h hl, State.runSurvey_accepted hlead hv]
  case swap =>
    rintro s u v p cycle h rfl hl hlease hlead hdist hcycle hv
    rw [exec_fabTtSwap_takes h hl, State.runSwap_accepted hlease hlead hdist hcycle hv]
    exact ⟨fun halike => by rw [if_pos halike], fun hdiffer => by rw [if_neg hdiffer]⟩

end Sys2Proof.Machine

/-! # Links and frames of the fabric (R472, R475 to R479) -/

namespace Sys2Proof.Machine

theorem exec_linkUp_due {s : State} {p : Nat} (delay : Nat) (same : Bool) (hp : p < 4) (hclock : s.fabClock = true)
    (hstate : s.portState p < 2) (hagain : (s.port p).again ≤ s.tick) :
    exec (.linkUp p delay same) s
      = .next (if delay ≤ 320 ∧ same = true then s.qualify p delay else s.refuseLink p) :=
  congrArg Host.Outcome.next (if_pos ⟨hp, hclock, hstate, hagain⟩)

theorem exec_linkDown_due {s : State} {p : Nat} (h : s.portUp p = true) :
    exec (.linkDown p) s = .next (s.dropLink p 0) :=
  congrArg Host.Outcome.next (if_pos h)

theorem exec_portRetry_due {s : State} {p : Nat} (hp : p < 4) (hmarked : s.portState p = 3)
    (hheld : (s.port p).held = false) (hdue : (s.port p).marks.head?.getD 0 + 1000 ≤ s.tick) :
    exec (.portRetry p) s = .next (s.put (Reg.fabPortStat p) 0 2 1) :=
  congrArg Host.Outcome.next (if_pos ⟨hp, hmarked, Bool.eq_false_iff.mp hheld, hdue⟩)

/-- A frame of another node that this node can place is taken (R475). -/
theorem exec_fabFrameReceived_taken {s : State} {p : Nat} {f : FabFrame} (arrival : Nat) (aborted : Bool)
    (hup : s.portUp p = true) (hbody : f.body ≠ .other) (hsrc : s.nodeId ≠ 0 → f.src ≠ s.nodeId)
    (hplaced : isSurvey f.body = true ∨ s.hasRoutes = true ∨ f.dst = s.nodeId ∨ f.dst = broadcast) :
    exec (.fabFrameReceived p f aborted arrival) s
      = .next (s.takeFrame p f aborted (s.inSlot (p / 2) f arrival)) := by
  have hgood : ¬ (f.body = .other ∨ (s.nodeId ≠ 0 ∧ f.src = s.nodeId)) := by
    rintro (h | ⟨hid, h⟩)
    · exact hbody h
    · exact hsrc hid h
  have hknown : ¬ (¬ isSurvey f.body = true ∧ ¬ s.hasRoutes = true ∧ f.dst ≠ s.nodeId ∧ f.dst ≠ broadcast) := by
    rintro ⟨hsurvey, hroutes, hmine, hall⟩
    obtain h | h | h | h := hplaced
    · exact hsurvey h
    · exact hroutes h
    · exact hmine h
    · exact hall h
  exact congrArg Host.Outcome.next ((if_neg (not_not_intro hup)).trans ((if_neg hgood).trans (if_neg hknown)))

/-- A first copy that fails its check is asked for again (R476). -/
theorem exec_fabFrameCheckFail_first {s u : State} {p : Nat} {f : FabFrame} (tag : Nat) (hup : s.portUp p = true)
    (hu : u = s.passOn p f true) :
    exec (.fabFrameCheckFail p tag 0 f) s = .next (u.setPort p { u.port p with nak := some (tag % 256) }) := by
  subst hu
  show execFabFrameCheckFail p tag 0 f s = _
  simp only [execFabFrameCheckFail, if_neg (not_not_intro hup)]

theorem exec_fabFrameCheckFail_resent {s : State} {p : Nat} {f : FabFrame} (tag : Nat) (hup : s.portUp p = true) :
    exec (.fabFrameCheckFail p tag 1 f) s = .next ((s.passOn p f true).markLink p) := by
  show execFabFrameCheckFail p tag 1 f s = _
  simp only [execFabFrameCheckFail, if_neg (not_not_intro hup)]

/-- A first copy that is kept is sent once more (R476). -/
theorem exec_nakReceived_kept {s u : State} {p tag : Nat} {k : Kept} (passes : Bool) (hup : s.portUp p = true)
    (hkept : (s.port p).kept.find? (fun k => k.tag == tag % 256) = some k) (hfirst : k.copy = false)
    (hu : u = s.sendOn k.frame k.aborted true p) :
    exec (.nakReceived p tag passes) s
      = .next (if passes then (u.raiseTransient 0x0F (word p) (linkInfo false)).countUp (Reg.fabPortErr p) 0 16 1
          else u.markLink p) := by
  subst hu
  show execNakReceived p tag passes s = _
  simp only [execNakReceived, hkept]
  rw [if_neg (not_not_intro hup), if_neg (Bool.eq_false_iff.mp hfirst)]

theorem exec_frameIdleStop_due {s : State} {p : Nat} (stray : Nat) (f : FabFrame) (hup : s.portUp p = true) :
    exec (.frameIdleStop p stray f) s
      = .next (((s.passOn p f true).countUp (Reg.fabPortErr p) 16 16 1).countUp Reg.fabErr 0 16 stray) :=
  congrArg Host.Outcome.next (if_neg (not_not_intro hup))

theorem exec_helloSend_due {s u : State} {p : Nat} (hup : s.portUp p = true) (hon : s.bit Reg.fabCfg 0 = true)
    (hdue : ∀ t, (s.port p).hello = some t → t + 100 ≤ s.tick)
    (hu : u = s.originate broadcast 0 false 1 (.hello s.ownKey s.nodeId s.bestKey) [p]) :
    exec (.helloSend p) s = .next (u.setPort p { u.port p with hello := some u.tick }) := by
  subst hu
  show execHelloSend p s = _
  unfold execHelloSend
  cases hhello : (s.port p).hello with
  | none => exact congrArg Host.Outcome.next (if_pos ⟨hup, hon, rfl⟩)
  | some t => exact congrArg Host.Outcome.next (if_pos ⟨hup, hon, decide_eq_true (hdue t hhello)⟩)

/-- Settles O40: each row is due under its conditions. -/
theorem fabricLinkRowsComplete : Obligations.FabricLinkRowsComplete :=
  ⟨fun _ _ delay same hp hclock hstate hagain => exec_linkUp_due delay same hp hclock hstate hagain,
    fun _ _ h => exec_linkDown_due h,
    fun _ _ hp hmarked hheld hdue => exec_portRetry_due hp hmarked hheld hdue,
    fun _ _ arrival _ aborted hup hbody hsrc hplaced =>
      exec_fabFrameReceived_taken arrival aborted hup hbody hsrc hplaced,
    fun _ _ _ tag _ hup hu => exec_fabFrameCheckFail_first tag hup hu,
    fun _ _ tag _ hup => exec_fabFrameCheckFail_resent tag hup,
    fun _ _ _ _ _ passes hup hkept hfirst hu => exec_nakReceived_kept passes hup hkept hfirst hu,
    fun _ _ stray f hup => exec_frameIdleStop_due stray f hup,
    fun _ _ _ hup hon hdue hu => exec_helloSend_due hup hon hdue hu⟩

end Sys2Proof.Machine

/-! # The survey and the surveyor (R480 to R482, R500, R507) -/

namespace Sys2Proof.Machine

theorem exec_becomeSurveyor_due {s u : State} (hon : s.bit Reg.fabCfg 0 = true) (hfirst : s.isSurveyor = false)
    (hsurvey : s.bit Reg.fabStatus 5 = true) (hbest : s.bestKey = s.ownKey)
    (hquiet : s.fab.survey.bestTick + 50 ≤ s.tick) (hu : u = s.setBit Reg.fabStatus 1 true) :
    exec .becomeSurveyor s = .next (u.put Reg.fabNode 12 12 s.nodeId).startReports := by
  subst hu
  exact congrArg Host.Outcome.next (if_pos ⟨hon, Bool.eq_false_iff.mp hfirst, hsurvey, hbest, hquiet⟩)

theorem exec_reportSend_due {s u : State} (hdue : s.fab.survey.reportDue = true) (hon : s.bit Reg.fabCfg 0 = true)
    (hlead : s.isSurveyor = false) (hu : u = s.setSurvey { s.fab.survey with reportDue := false }) :
    exec .reportSend s
      = .next (u.sendFab (if u.surveyorId = 0 then broadcast else u.surveyorId) (.report u.ownReport)) := by
  subst hu
  exact congrArg Host.Outcome.next (if_pos ⟨hdue, hon, Bool.eq_false_iff.mp hlead⟩)

theorem exec_idAssignment_due {s : State} (x y : Nat) (hlead : s.isSurveyor = true)
    (hsurvey : s.bit Reg.fabStatus 5 = true) (hwaits : s.fab.survey.waits = false) :
    exec (.idAssignment x y) s = .next (s.assignNodes x y) :=
  congrArg Host.Outcome.next (if_pos ⟨hlead, hsurvey, Bool.eq_false_iff.mp hwaits⟩)

theorem exec_surveyDone_due {s : State} (hlead : s.isSurveyor = true) (hwaits : s.fab.survey.waits = true)
    (hall : s.allConfirmed = true) : exec .surveyDone s = .next s.endSurvey :=
  congrArg Host.Outcome.next (if_pos ⟨hlead, hwaits, hall⟩)

theorem exec_fabNodeReadTimeout_due {s : State} {r : NodeRead}
    (h : s.fab.reads.find? (fun r => decide (r.start + 100 ≤ s.tick)) = some r) :
    exec .fabNodeReadTimeout s = .next (s.endReads (fun q => q == r) .timeout []) := by
  show execFabNodeReadTimeout s = _
  rw [execFabNodeReadTimeout, h]

/-- The deputy becomes surveyor with the reports that the route lists in force give (R500). -/
theorem exec_surveyorChanged_due {s u v : State} (hdeputy : s.bit Reg.fabStatus 2 = true)
    (hlead : s.isSurveyor = false) (hmissed : 3 ≤ s.fab.cyc.missed)
    (hu : u = s.setFabCyc { s.fab.cyc with missed := 0, lost := false })
    (hv : v = (((u.setBit Reg.fabStatus 1 true).setBit Reg.fabStatus 2 false).put Reg.fabNode 12 12
      ((u.setBit Reg.fabStatus 1 true).setBit Reg.fabStatus 2 false).nodeId).put Reg.fabNodes 12 12 0) :
    exec .surveyorChanged s = .next ((v.setSurvey { v.fab.survey with
      reports := v.routeReports ++ [v.ownReport], second := none, waits := false }).raise 0x0F04 []).showFab := by
  subst hv hu
  exact congrArg Host.Outcome.next (if_pos ⟨hdeputy, Bool.eq_false_iff.mp hlead, hmissed⟩)

/-- Settles O41: each row is due under its conditions. -/
theorem surveyRowsComplete : Obligations.SurveyRowsComplete := by
  refine ⟨fun s u hon hfirst hsurvey hbest hquiet hu => exec_becomeSurveyor_due hon hfirst hsurvey hbest hquiet hu,
    fun s u hdue hon hlead hu => exec_reportSend_due hdue hon hlead hu,
    fun s x y hlead hsurvey hwaits => exec_idAssignment_due x y hlead hsurvey hwaits,
    fun s hlead hwaits hall => exec_surveyDone_due hlead hwaits hall,
    fun s r h => exec_fabNodeReadTimeout_due h, ?changed⟩
  case changed =>
    rintro s u v l hdeputy hlead hmissed hu hv rfl
    exact exec_surveyorChanged_due hdeputy hlead hmissed hu hv

end Sys2Proof.Machine

/-! # What a reset records (R528) -/

namespace Sys2Proof.Machine

/-! ## The fields of SYS_RESET_CAUSE -/

/-- The word that a reset records, as its cause, the cause before, and the count of resets. -/
theorem resetCause_toNat (w : Word) {c : Nat} (hc : c < 256) :
    (resetCause w c).toNat = c + field w 0 8 * 2 ^ 8 + min 0xFFFF (field w 16 16 + 1) * 2 ^ 16 := by
  have hprev := field_lt w 0 8
  simp only [resetCause, word, BitVec.toNat_ofNat]
  omega

theorem resetCause_cause (w : Word) {c : Nat} (hc : c < 256) : field (resetCause w c) 0 8 = c := by
  have hw := resetCause_toNat w hc
  simp only [field] at hw ⊢
  omega

theorem resetCause_previous (w : Word) {c : Nat} (hc : c < 256) : field (resetCause w c) 8 8 = field w 0 8 := by
  have hw := resetCause_toNat w hc
  simp only [field] at hw ⊢
  omega

theorem resetCause_count (w : Word) {c : Nat} (hc : c < 256) :
    field (resetCause w c) 16 16 = min 0xFFFF (field w 16 16 + 1) := by
  have hw := resetCause_toNat w hc
  simp only [field] at hw ⊢
  omega

/-- Of the registers that a reset writes, SYS_RESET_CAUSE is written once. -/
theorem State.rd_afterReset_cause (s : State) (c : Nat) :
    (s.afterReset c).rd Reg.sysResetCause = resetCause (s.rd Reg.sysResetCause) c := by
  unfold State.afterReset
  dsimp only
  rw [State.rd_showVault, State.rd_setBit_ne _ _ _ (by decide), State.rd_setBit_ne _ _ _ (by decide),
    State.rd_setBit_ne _ _ _ (by decide), State.rd_put_ne _ _ _ _ (by decide), State.rd_put_ne _ _ _ _ (by decide),
    State.rd_setBit_ne _ _ _ (by decide), State.rd_wr_same]

/-! ## Of two causes the lower -/

theorem State.needReset_due {s : State} {d : Nat} (c : Nat) (hdue : s.sys.due = some d) :
    (s.needReset c).sys.due = some (min c d) := by
  unfold State.needReset
  rw [hdue]
  rfl

/-- Settles O49: the record is the last thing that a reset writes to its register, and a second cause is compared with
the one that is due. -/
theorem resetRecordsItsCause : Obligations.ResetRecordsItsCause := by
  refine ⟨fun s c hlow hended hc => ?_, fun s d hdue => ?_⟩
  · refine ⟨s.afterReset c, exec_resetAssert hlow hended, ?_, ?_, ?_⟩
    · rw [State.fld, State.rd_afterReset_cause, resetCause_cause _ hc]
    · rw [State.fld, State.rd_afterReset_cause, resetCause_previous _ hc, State.fld]
    · rw [State.fld, State.rd_afterReset_cause, resetCause_count _ hc, State.fld]
  · exact ⟨⟨s.needReset 3, rfl, State.needReset_due 3 hdue⟩, ⟨s.needReset 4, rfl, State.needReset_due 4 hdue⟩⟩

end Sys2Proof.Machine

/-! # Clocks and supplies (R513 to R523, R531) -/

namespace Sys2Proof.Machine

/-! ## Clocks -/

theorem exec_pllUnlock_locked {s u : State} (hlocked : s.bit Reg.sysClkStat 2 = true)
    (hu : u = (s.setBit Reg.sysClkStat 2 false).raise 0x0100 []) :
    exec .pllUnlock s
      = .next (if u.laneSwitching then u.needReset 5 else u.setSys { u.sys with relock := true }) := by
  subst hu
  exact congrArg Host.Outcome.next (if_pos hlocked)

theorem exec_relockStart_due {s : State} (hasked : s.sys.relock = true ∨ s.refModeDue = true)
    (hidle : s.sys.acquiring = 0) :
    exec .relockStart s = .next (s.stopClocks.setSys
      { s.stopClocks.sys with relock := false, acquiring := 1, acquireTick := s.tick }) :=
  congrArg Host.Outcome.next (if_pos ⟨hasked, hidle⟩)

theorem exec_pllLock_acquiring {s u : State} (hacquiring : s.sys.acquiring ≠ 0)
    (hu : u = (s.setSys { s.sys with acquiring := 0 }).takeItems (fun a => a == Reg.sysClkCfg) State.wrRw) :
    exec .pllLock s
      = .next ((u.startClocks.raise 0x0101 []).countUp Reg.sysRelockCount 0 16 1).closeFixes := by
  subst hu
  exact congrArg Host.Outcome.next (if_neg hacquiring)

/-- The first expiry of an acquisition tries again. -/
theorem exec_relockTimeout_first {s : State} (hfirst : s.sys.acquiring = 1) (hdue : s.sys.acquireTick + 2 ≤ s.tick) :
    exec .relockTimeout s = .next (s.setSys { s.sys with acquiring := 2, acquireTick := s.tick }) := by
  show execRelockTimeout s = _
  simp only [execRelockTimeout, hfirst, if_neg hdue.not_gt]

/-- The second expiry is lasting, and a reset follows. -/
theorem exec_relockTimeout_second {s : State} (hsecond : 2 ≤ s.sys.acquiring)
    (hdue : s.sys.acquireTick + 2 ≤ s.tick) :
    exec .relockTimeout s = .next (((s.raiseLasting 1 0 0).setSys { s.sys with acquiring := 0 }).needReset 5) := by
  obtain ⟨n, hn⟩ := Nat.exists_eq_add_of_le' hsecond
  show execRelockTimeout s = _
  simp only [execRelockTimeout, hn, if_neg hdue.not_gt]

theorem exec_refclkPresent_held {s : State} (hheld : s.sys.hold = 2) :
    exec .refclkPresent s = .next (s.setSys { s.sys with hold := 0 }) :=
  congrArg Host.Outcome.next (if_pos hheld)

/-! ## Supplies -/

theorem exec_vsysFail_first {s : State} (hgood : s.bit Reg.sysStatus 4 = false) :
    exec .vsysFail s = .next s.powerFail :=
  congrArg Host.Outcome.next (if_neg (Bool.eq_false_iff.mp hgood))

theorem exec_holdupEnd_due {s u : State} {duration vmin : Nat} (hfailed : s.bit Reg.sysStatus 4 = true)
    (hend : duration = 1000 ∨ (duration < 1000 ∧ vmin < 1030))
    (hu : u = s.wr Reg.sysHoldup (word (min duration 0xFFFF + min vmin 0xFFFF * 2 ^ 16))) :
    exec (.holdupEnd duration vmin) s = .next (u.setSys { u.sys with ended := true }) := by
  subst hu
  exact congrArg Host.Outcome.next (if_pos ⟨hfailed, hend⟩)

theorem exec_vsysHigh_first {s : State} (hlow : s.sys.high = false) :
    exec .vsysHigh s = .next ((s.setSys { s.sys with high := true }).raise 0x0102 []) :=
  congrArg Host.Outcome.next (if_neg (Bool.eq_false_iff.mp hlow))

theorem exec_reverseBlocked_driven {s : State} (hdriven : s.sys.gate = true) :
    exec .reverseBlocked s = .next ((s.setSys { s.sys with gate := false }).raise 0x0104 []) :=
  congrArg Host.Outcome.next (if_pos hdriven)

/-- VBAT is measured where it has not been within the hour. -/
theorem exec_vbatMeasure_due {s u v : State} {mv : Nat} (hpresent : s.bit Reg.sysStatus 0 = true)
    (hdue : ∀ t, s.sys.vbatTick = some t → t + 3600000 ≤ s.tick) (hu : u = s.put Reg.sysVbat 0 12 (min mv 0xFFF))
    (hv : v = (u.setSys { u.sys with vbatTick := some u.tick }).setBit Reg.sysStatus 1 (decide (2600 ≤ mv))) :
    exec (.vbatMeasure mv) s = .next (if mv < 2600 then v.raise 0x0103 [] else v) := by
  subst hv hu
  show execVbatMeasure mv s = _
  unfold execVbatMeasure
  cases hlast : s.sys.vbatTick with
  | none => exact congrArg Host.Outcome.next (if_pos (Bool.and_eq_true_iff.mpr ⟨hpresent, rfl⟩))
  | some t =>
    exact congrArg Host.Outcome.next
      (if_pos (Bool.and_eq_true_iff.mpr ⟨hpresent, decide_eq_true (hdue t hlast)⟩))

/-- Settles O43: each row is due under its conditions. -/
theorem clockAndSupplyRowsComplete : Obligations.ClockAndSupplyRowsComplete :=
  ⟨fun _ _ hlocked hu => exec_pllUnlock_locked hlocked hu,
    fun _ hasked hidle => exec_relockStart_due hasked hidle,
    fun _ _ hacquiring hu => exec_pllLock_acquiring hacquiring hu,
    fun _ hfirst hdue => exec_relockTimeout_first hfirst hdue,
    fun _ _ hsecond hdue hu => hu ▸ exec_relockTimeout_second hsecond hdue,
    fun _ => rfl,
    fun _ hheld => exec_refclkPresent_held hheld,
    fun _ hgood => exec_vsysFail_first hgood,
    fun _ _ _ _ hfailed hend hu => exec_holdupEnd_due hfailed hend hu,
    fun _ hlow => exec_vsysHigh_first hlow,
    fun _ => rfl,
    fun _ hdriven => exec_reverseBlocked_driven hdriven,
    fun _ => rfl,
    fun _ _ _ _ hpresent hdue hu hv => exec_vbatMeasure_due hpresent hdue hu hv⟩

end Sys2Proof.Machine

/-! # Resets and start-up (R520 to R532) -/

namespace Sys2Proof.Machine

/-- An entry that is due begins where no other is under way. -/
theorem exec_resetEntry_due {s u : State} {c : Nat} (hcause : s.entryCause = some c) (hidle : s.sys.low = none)
    (hu : u = s.setSys { s.sys with due := none, request := none, low := some c }) :
    exec .resetEntry s = .next (u.busUpdate.takeRecord (Config.entryCode c).toNat []) := by
  subst hu
  show execResetEntry s = _
  simp only [execResetEntry, hcause, hidle]

theorem exec_powerGood_held {s u : State} (cold : Bool) (hheld : s.sys.hold = 1)
    (hu : u = (s.setSys { s.sys with hold := 0 }).setBit Reg.sysStatus 0 true) :
    exec (.powerGood cold) s
      = .next (if cold then u.wr Reg.sysResetCause (resetCause (u.rd Reg.sysResetCause) 1) else u) := by
  subst hu
  exact congrArg Host.Outcome.next (if_pos hheld)

theorem exec_startUp_released {s : State} (checks : BootChecks) (hreleased : s.sys.hold = 0)
    (hboot : s.fld Reg.sysBoot 0 5 = 0) (hdue : s.sys.due = none) (hlow : s.sys.low = none) :
    exec (.startUp checks) s = .next (s.bootSteps 1 [State.bootSupplies checks, State.bootClocks checks,
      State.bootVault checks, State.bootImage checks, State.bootSafe checks (s.vaultLost checks),
      State.bootSelfTest checks, State.bootConfig checks, fun s => (s, true)]) :=
  congrArg Host.Outcome.next (if_pos ⟨hreleased, hboot, hdue, hlow⟩)

theorem exec_startupDone_due {s : State} (ms : Nat) (hboot : s.fld Reg.sysBoot 0 5 = 8) (hdue : s.sys.due = none)
    (hlow : s.sys.low = none) : exec (.startupDone ms) s = .next (s.bootDone ms) :=
  congrArg Host.Outcome.next (if_pos ⟨hboot, hdue, hlow⟩)

/-- Settles O44: each row is due under its conditions. -/
theorem resetAndStartUpRowsComplete : Obligations.ResetAndStartUpRowsComplete :=
  ⟨fun _ _ _ hcause hidle hu => exec_resetEntry_due hcause hidle hu,
    fun _ _ hlow hended => exec_resetAssert hlow hended,
    fun _ _ cold hheld hu => exec_powerGood_held cold hheld hu,
    fun _ checks hreleased hboot hdue hlow => exec_startUp_released checks hreleased hboot hdue hlow,
    fun _ ms hboot hdue hlow => exec_startupDone_due ms hboot hdue hlow,
    fun _ => rfl⟩

end Sys2Proof.Machine

/-! # Opcodes of images, credentials and CERT_MODE (R541 to R553) -/

namespace Sys2Proof.Machine

theorem exec_imageBegin_takes {s : State} {p : Packet} (h : s.takes 0x0800 p true) (hl : p.payload.length = 8) :
    exec (.imageBegin p) s = .next ((s.taken 0x0800 p).runImageBegin p) :=
  State.next_command_takes h (decide_eq_true hl) _ _

theorem exec_imageData_takes {s : State} {p : Packet} (h : s.takes 0x0801 p true) (hmin : 8 ≤ p.payload.length)
    (hmax : p.payload.length ≤ 4092) : exec (.imageData p) s = .next ((s.taken 0x0801 p).runImageData p) :=
  State.next_command_takes h (decide_eq_true ⟨hmin, hmax⟩) _ _

theorem exec_imageCommit_takes {s : State} {p : Packet} (h : s.takes 0x0802 p true) (hl : p.payload = []) :
    exec (.imageCommit p) s = .next ((s.taken 0x0802 p).runCommit p) :=
  State.next_command_takes h (decide_eq_true hl) _ _

theorem exec_imageStatus_takes {s : State} {p : Packet} (h : s.takes 0x0803 p true) (hl : p.payload = []) :
    exec (.imageStatus p) s = .next ((s.taken 0x0803 p).runImageStatus p) :=
  State.next_command_takes h (decide_eq_true hl) _ _

theorem exec_auditRead_takes {s : State} {p : Packet} (h : s.takes 0x0804 p true) (hl : p.payload.length = 6) :
    exec (.auditRead p) s = .next ((s.taken 0x0804 p).runAuditRead p) :=
  State.next_command_takes h (decide_eq_true hl) _ _

theorem exec_credentialSet_takes {s : State} {p : Packet} (h : s.takes 0x0805 p true) (hl : p.payload.length = 116) :
    exec (.credentialSet p) s = .next ((s.taken 0x0805 p).runCredential p) :=
  State.next_command_takes h (decide_eq_true hl) _ _

theorem exec_certModeSet_takes {s : State} {p : Packet} (h : s.takes 0x0806 p true) (hl : p.payload.length = 4) :
    exec (.certModeSet p) s = .next ((s.taken 0x0806 p).runCert p) :=
  State.next_command_takes h (decide_eq_true hl) _ _

theorem exec_tamperClear_takes {s : State} {p : Packet} (h : s.takes 0x0807 p true) (hl : p.payload.length = 4) :
    exec (.tamperClear p) s = .next ((s.taken 0x0807 p).runTamperClear p) :=
  State.next_command_takes h (decide_eq_true hl) _ _

/-! ## IMAGE_DATA (R542) -/

/-- The inactive slot takes a chunk of the transfer `t`. -/
def State.takeChunk (s : State) (t : Transfer) (data : List Byte) : State :=
  let b := s.inactiveSlot t.kind
  let s := s.setSlot t.kind b (s.slot t.kind b ++ data)
  s.setImage { s.sec.image with transfer := some { t with next := t.next + data.length } }

theorem State.slot_takeChunk_inactive (s : State) (t : Transfer) (data : List Byte) :
    (s.takeChunk t data).slot t.kind (s.inactiveSlot t.kind) = s.slot t.kind (s.inactiveSlot t.kind) ++ data :=
  sparseGet_set_same _ _ _ _

/-- The active slot keeps its contents. -/
theorem State.slot_takeChunk_active (s : State) (t : Transfer) (data : List Byte) :
    (s.takeChunk t data).slot t.kind (1 - s.inactiveSlot t.kind) = s.slot t.kind (1 - s.inactiveSlot t.kind) := by
  have hslots : 2 * t.kind + (1 - s.inactiveSlot t.kind) ≠ 2 * t.kind + s.inactiveSlot t.kind := by
    unfold State.inactiveSlot
    omega
  exact sparseGet_set_ne _ _ _ hslots

theorem State.transfer_takeChunk (s : State) (t : Transfer) (data : List Byte) :
    (s.takeChunk t data).sec.image.transfer = some { t with next := t.next + data.length } := rfl

/-- The open transfer takes no data from another session. -/
theorem State.runImageData_foreign {u : State} {p : Packet} {t : Transfer} (ht : u.sec.image.transfer = some t)
    (hsession : t.session ≠ p.session) : u.runImageData p = u.finish 0x0801 p .notPermitted [] := by
  simp only [State.runImageData, ht, if_pos (Or.inl hsession : t.session ≠ p.session ∨ t.erasing ∨ t.verifying)]

theorem State.runImageData_closed {u : State} (p : Packet) (ht : u.sec.image.transfer = none) :
    u.runImageData p = u.finish 0x0801 p .notPermitted [] := by
  simp only [State.runImageData, ht]

/-- Of the session of the open transfer the offset and the length decide. -/
theorem State.runImageData_own {u : State} {p : Packet} {t : Transfer} (ht : u.sec.image.transfer = some t)
    (hsession : t.session = p.session) (herasing : t.erasing = false) (hverifying : t.verifying = false) :
    u.runImageData p = if leAt p.payload 0 4 ≠ t.next ∨ t.length < leAt p.payload 0 4 + (p.payload.length - 4) then
      u.finish 0x0801 p .outOfRange [] else (u.takeChunk t (p.payload.drop 4)).finish 0x0801 p .ok [] := by
  have hopen : ¬ (t.session ≠ p.session ∨ t.erasing = true ∨ t.verifying = true) := by
    simp [hsession, herasing, hverifying]
  simp only [State.runImageData, ht, if_neg hopen, List.length_drop]
  split
  · rfl
  · rename_i haccepted
    have hoffset : leAt p.payload 0 4 = t.next := not_not.mp fun h => haccepted (Or.inl h)
    simp only [State.takeChunk, hoffset, List.length_drop]

/-- Settles O20: the chunk goes to the inactive slot of the open transfer, and the checks of R542 decide before. -/
theorem imageDataWritesTheInactiveSlot : Obligations.ImageDataWritesTheInactiveSlot := by
  refine ⟨?opened, ?closed⟩
  case opened =>
    rintro s u p t h rfl hmin hmax ht herasing hverifying
    rw [exec_imageData_takes h hmin hmax]
    refine ⟨fun hsession hoffset hlength => ?_, fun hsession => ?_, fun hsession houtside => ?_⟩
    · have haccepted : ¬ (leAt p.payload 0 4 ≠ t.next ∨ t.length < leAt p.payload 0 4 + (p.payload.length - 4)) := by
        omega
      rw [State.runImageData_own ht hsession herasing hverifying, if_neg haccepted]
      refine ⟨_, rfl, State.slot_takeChunk_inactive _ _ _, State.slot_takeChunk_active _ _ _, ?_⟩
      rw [State.transfer_takeChunk, List.length_drop]
    · rw [State.runImageData_foreign ht hsession]
    · rw [State.runImageData_own ht hsession herasing hverifying, if_pos houtside]
  case closed =>
    rintro s u p h rfl hmin hmax ht
    rw [exec_imageData_takes h hmin hmax, State.runImageData_closed p ht]

/-! ## IMAGE_BEGIN and IMAGE_COMMIT (R541, R543) -/

/-- The checks of R541 pass: the slot is erased for the new transfer. -/
theorem State.runImageBegin_accepted {u : State} {p : Packet} {t : Transfer} {l : List (Nat × Nat)}
    (hmin : 1 ≤ leAt p.payload 0 1) (hmax : leAt p.payload 0 1 ≤ 3)
    (hrole : leAt p.payload 0 1 ≠ 1 → u.role p.session = engineer) (hheader : 256 ≤ leAt p.payload 4 4)
    (hbody : bodyLengthOk (leAt p.payload 0 1) (leAt p.payload 4 4 - 256) = true)
    (hfree : ∀ o, u.sec.image.transfer = some o → o.session = p.session)
    (ht : t = Transfer.mk p.session (leAt p.payload 0 1) (leAt p.payload 4 4) 0 true false p)
    (hpending : l = sparseSet (fun _ => 0) u.sec.image.pending (leAt p.payload 0 1) 0) :
    u.runImageBegin p = ((u.setImage { u.sec.image with transfer := some t, pending := l }).setBit
      Reg.secStatus 10 true).pend 0x0800 p := by
  subst ht hpending
  have hpermitted : ¬ ((leAt p.payload 0 1 = 2 ∨ leAt p.payload 0 1 = 3) ∧ u.role p.session ≠ engineer) := by
    rintro ⟨hkind, hother⟩
    exact hother (hrole (by omega))
  have hknown : ¬ (leAt p.payload 0 1 < 1 ∨ 3 < leAt p.payload 0 1 ∨ leAt p.payload 4 4 < 256
      ∨ ¬ bodyLengthOk (leAt p.payload 0 1) (leAt p.payload 4 4 - 256) = true) := by
    rintro (h | h | h | h)
    · omega
    · omega
    · omega
    · exact h hbody
  unfold State.runImageBegin
  refine (if_neg hpermitted).trans ((if_neg hknown).trans ?_)
  cases hopen : u.sec.image.transfer with
  | none => exact if_neg Bool.false_ne_true
  | some o => exact if_neg (by simp [hfree o hopen])

/-- A whole container of the session's own transfer is verified. -/
theorem State.runCommit_accepted {u : State} {p : Packet} {t : Transfer} (ht : u.sec.image.transfer = some t)
    (hsession : t.session = p.session) (herasing : t.erasing = false) (hverifying : t.verifying = false)
    (hwhole : t.length ≤ t.next) :
    u.runCommit p
      = (u.setImage { u.sec.image with transfer := some { t with verifying := true, packet := p } }).pend 0x0802 p := by
  have hopen : ¬ (t.session ≠ p.session ∨ t.erasing = true ∨ t.verifying = true) := by
    simp [hsession, herasing, hverifying]
  simp only [State.runCommit, ht, if_neg hopen, if_neg hwhole.not_gt]

/-! ## AUDIT_READ (R553) -/

theorem State.runAuditRead_accepted {u : State} {p : Packet} (hmin : 1 ≤ leAt p.payload 4 2)
    (hmax : leAt p.payload 4 2 ≤ 127) :
    u.runAuditRead p = u.finish 0x0804 p .ok ((((u.sec.flash ++ u.sec.waiting).dropWhile
      (fun e => decide (e.seq < leAt p.payload 0 4))).take (leAt p.payload 4 2)).flatMap AuditEntry.bytes) := by
  have hcount : ¬ (leAt p.payload 4 2 = 0 ∨ 127 < leAt p.payload 4 2) := by omega
  exact if_neg hcount

/-! ## CREDENTIAL_SET (R545) -/

/-- A credential enters the table where the table keeps an administrator. -/
theorem State.runCredential_role {u : State} {p : Packet} {i : Nat} {key : List Byte} {c : Cred}
    {table : List (Nat × Cred)} (hi : i = leAt p.payload 0 1) (hkey : key = (p.payload.drop 4).take 96)
    (hkind : leAt p.payload 1 1 = 0) (hmax : i ≤ 31) (hrole : leAt p.payload 2 1 ≤ 3) (hcurve : onCurve key = true)
    (hc : c = { key := key, role := leAt p.payload 2 1, name := p.payload.drop 100,
                enabled := leAt p.payload 3 1 % 2 == 1 })
    (htable : table = sparseSet (fun _ => Cred.empty) u.sec.creds i c) (hadmin : adminIn table = true)
    (hdistinct : u.certMode = true → sameKeys table = false) :
    u.runCredential p = (((u.setSec { u.sec with creds := table }).showCreds.raise 0x1003 []).finish
      0x0805 p .ok []).faultCredential i := by
  have hpermitted : ¬ (¬ adminIn table = true ∨ (u.certMode = true ∧ sameKeys table = true)) := by
    rintro (h | ⟨hcert, hsame⟩)
    · exact h hadmin
    · exact Bool.eq_false_iff.mp (hdistinct hcert) hsame
  have hrange : ¬ (31 < i ∨ 3 < leAt p.payload 2 1 ∨ ¬ onCurve key = true) := by
    rintro (h | h | h)
    · omega
    · omega
    · exact h hcurve
  subst htable hc hkey hi
  exact (if_pos hkind).trans ((if_neg hpermitted).trans (if_neg hrange))

/-- An empty owner slot takes its key. -/
theorem State.runCredential_ownerKey {u : State} {p : Packet} {i : Nat} {key : List Byte}
    (hi : i = leAt p.payload 0 1) (hkey : key = (p.payload.drop 4).take 96) (hkind : leAt p.payload 1 1 = 1)
    (hkeep : leAt p.payload 3 1 / 2 % 2 = 0) (hmin : 1 ≤ i) (hmax : i ≤ 4) (hempty : (u.owner i).key = [])
    (hcurve : onCurve key = true) :
    u.runCredential p = ((u.setOwner i { u.owner i with key := key }).showOwners.raise 0x1003 []).finish
      0x0805 p .ok [] := by
  have hfree : ¬ (1 ≤ i ∧ i ≤ 4 ∧ (u.owner i).key ≠ []) := fun h => h.2.2 hempty
  have hrange : ¬ (i < 1 ∨ 4 < i ∨ ¬ onCurve key = true) := by
    rintro (h | h | h)
    · omega
    · omega
    · exact h hcurve
  subst hkey hi
  exact (if_neg (by omega)).trans
    ((if_pos hkind).trans ((if_neg (by omega)).trans ((if_neg hfree).trans (if_neg hrange))))

/-- An owner slot is revoked; in CERT_MODE another must remain. -/
theorem State.runCredential_revoke {u : State} {p : Packet} {i : Nat} (hi : i = leAt p.payload 0 1)
    (hkind : leAt p.payload 1 1 = 1) (hrevoke : leAt p.payload 3 1 / 2 % 2 = 1) (hmin : 1 ≤ i) (hmax : i ≤ 4)
    (hleft : u.certMode = true → ∃ j < 5, j ≠ i ∧ u.ownerOk j = true) :
    u.runCredential p = ((u.setOwner i { u.owner i with revoked := true }).showOwners.raise 0x1003 []).finish
      0x0805 p .ok [] := by
  have hpermitted : ¬ (i = 0 ∨ (u.certMode = true
      ∧ (List.range 5).filter (fun j => j ≠ i ∧ u.ownerOk j) = [])) := by
    rintro (h | ⟨hcert, hnone⟩)
    · omega
    · obtain ⟨j, hj, hne, hok⟩ := hleft hcert
      exact List.filter_eq_nil_iff.mp hnone j (List.mem_range.mpr hj) (decide_eq_true ⟨hne, hok⟩)
  subst hi
  exact (if_neg (by omega)).trans
    ((if_pos hkind).trans ((if_pos hrevoke).trans ((if_neg hpermitted).trans (if_neg hmax.not_gt))))

/-! ## CERT_MODE_SET (R549) -/

/-- A change of CERT_MODE that its conditions allow takes one of its 16 steps. -/
theorem State.runCert_accepted {u : State} {p : Packet} (hchange : leAt p.payload 0 1 % 2 ≠ u.sec.certSteps % 2)
    (hleft : u.sec.certSteps < 16) (hholds : leAt p.payload 0 1 % 2 = 1 → u.certFails = none) :
    u.runCert p = ((((((u.setSec { u.sec with certSteps := u.sec.certSteps + 1 }).setBit Reg.secStatus 0
      true).setBit Reg.secStatus 1 (leAt p.payload 0 1 % 2 == 0)).setBit Reg.hostStatus 16 true).put Reg.secStatus 2 4
      (min 15 (u.sec.certSteps + 1))).raise 0x1004 []).finish 0x0806 p .ok [] := by
  have hdiffers : ¬ decide (leAt p.payload 0 1 % 2 = 1) = decide (u.sec.certSteps % 2 = 1) := by
    rw [decide_eq_decide]
    omega
  have hconditions : (if decide (leAt p.payload 0 1 % 2 = 1) = true then u.certFails else none) = none := by
    split
    next hon => exact hholds (of_decide_eq_true hon)
    next => rfl
  have hoff : (!decide (leAt p.payload 0 1 % 2 = 1)) = (leAt p.payload 0 1 % 2 == 0) := by
    rw [Bool.eq_iff_iff]
    simp
  simp only [State.runCert, if_neg hdiffers, if_neg hleft.not_ge, hconditions, hoff]

/-! ## TAMPER_CLEAR (R551) -/

/-- Only the latches of inputs 0 to 3 can be named. -/
theorem mod_sixteen_bit (m : Nat) {i : Nat} (hi : i < 4) : m % 16 / 2 ^ i % 2 = m / 2 ^ i % 2 := by
  interval_cases i <;> omega

/-- No input named stands asserted: the latches are cleared, and a start-up stopped by them may run again. -/
theorem State.runTamperClear_accepted {u v : State} {p : Packet}
    (hquiet : ∀ i < 4, leAt p.payload 0 4 / 2 ^ i % 2 = 1 → u.bit Reg.secTamperStat (4 + i) = false)
    (hv : v = ((List.range 4).foldl (fun s i =>
      if leAt p.payload 0 4 / 2 ^ i % 2 = 1 then s.setBit Reg.secTamperStat i false else s) u).finish 0x0807 p .ok []) :
    u.runTamperClear p
      = if v.fld Reg.secTamperStat 0 4 = 0 ∧ v.sys.tamperStop = true then v.requestReset else v := by
  have hpermitted : ¬ (List.range 4).any (fun i =>
      leAt p.payload 0 4 % 16 / 2 ^ i % 2 == 1 && u.bit Reg.secTamperStat (4 + i)) = true := by
    rw [List.any_eq_true]
    rintro ⟨i, hmem, hstanding⟩
    have hi : i < 4 := List.mem_range.mp hmem
    rw [mod_sixteen_bit _ hi, Bool.and_eq_true_iff, beq_iff_eq] at hstanding
    exact Bool.eq_false_iff.mp (hquiet i hi hstanding.1) hstanding.2
  have hclears : (List.range 4).foldl (fun s i =>
        if leAt p.payload 0 4 % 16 / 2 ^ i % 2 = 1 then s.setBit Reg.secTamperStat i false else s) u
      = (List.range 4).foldl (fun s i =>
        if leAt p.payload 0 4 / 2 ^ i % 2 = 1 then s.setBit Reg.secTamperStat i false else s) u :=
    List.foldl_ext _ _ _ fun _ i hmem => by rw [mod_sixteen_bit _ (List.mem_range.mp hmem)]
  subst hv
  simp only [State.runTamperClear, if_neg hpermitted, hclears]

/-- Settles O19: each packet that is taken runs its opcode, whose checks all pass. -/
theorem securityOpcodesComplete : Obligations.SecurityOpcodesComplete := by
  refine ⟨?imageBegin, ?imageCommit, ?imageStatus, ?auditRead, ?credentialSet, ?certModeSet, ?tamperClear⟩
  case imageBegin =>
    rintro s u p t l h rfl hl hmin hmax hrole hheader hbody hfree ht hpending
    rw [exec_imageBegin_takes h hl, State.runImageBegin_accepted hmin hmax hrole hheader hbody hfree ht hpending]
  case imageCommit =>
    rintro s u p t h rfl hl ht hsession herasing hverifying hwhole
    rw [exec_imageCommit_takes h hl, State.runCommit_accepted ht hsession herasing hverifying hwhole]
  case imageStatus =>
    rintro s u p h rfl hl
    exact exec_imageStatus_takes h hl
  case auditRead =>
    rintro s u p h rfl hl hmin hmax
    rw [exec_auditRead_takes h hl, State.runAuditRead_accepted hmin hmax]
  case credentialSet =>
    rintro s u p i flags key h rfl hl hi rfl hkey
    rw [exec_credentialSet_takes h hl]
    refine ⟨fun c table hkind hmax hrole hcurve hc htable hadmin hdistinct => ?_,
      fun hkind hkeep hmin hmax hempty hcurve => ?_, fun hkind hrevoke hmin hmax hleft => ?_⟩
    · rw [State.runCredential_role hi hkey hkind hmax hrole hcurve hc htable hadmin hdistinct]
    · rw [State.runCredential_ownerKey hi hkey hkind hkeep hmin hmax hempty hcurve]
    · rw [State.runCredential_revoke hi hkind hrevoke hmin hmax hleft]
  case certModeSet =>
    rintro s u p h rfl hl hchange hleft hholds
    rw [exec_certModeSet_takes h hl, State.runCert_accepted hchange hleft hholds]
  case tamperClear =>
    rintro s u v p h rfl hl hquiet hv
    rw [exec_tamperClear_takes h hl, State.runTamperClear_accepted hquiet hv]

end Sys2Proof.Machine

/-! # Images, the audit log and tamper inputs (R541, R543, R550, R553) -/

namespace Sys2Proof.Machine

theorem exec_imageEraseDone_erasing {s u : State} {t : Transfer} (ht : s.sec.image.transfer = some t)
    (herasing : t.erasing = true) (hu : u = s.setSlot t.kind (s.inactiveSlot t.kind) []) :
    exec .imageEraseDone s = .next ((u.setImage
      { u.sec.image with transfer := some { t with erasing := false } }).finishLate 0x0800 t.packet .ok []) := by
  subst hu
  show execImageEraseDone s = _
  simp only [execImageEraseDone, ht, if_pos herasing]

/-- A container that passes every step of R539 gets its pending mark. -/
theorem exec_imageCommitted_passed {s u : State} {sig hash gcm : Bool} {t : Transfer} {b : Nat} {l : List (Nat × Nat)}
    (ht : s.sec.image.transfer = some t) (hverifying : t.verifying = true) (hb : b = s.inactiveSlot t.kind)
    (hpassed : s.verifySteps t.kind (s.slot t.kind b) { signature := sig, hash := hash, gcm := gcm } = 0)
    (hu : u = (s.setImage { s.sec.image with transfer := none }).setBit Reg.secStatus 10 false)
    (hpending : l = sparseSet (fun _ => 0) u.sec.image.pending t.kind (b + 1)) :
    exec (.imageCommitted sig hash gcm) s = .next (((u.setImage { u.sec.image with pending := l }).raise
      0x1000 []).finishLate 0x0802 t.packet .ok []) := by
  subst hpending hu hb
  show execImageCommitted sig hash gcm s = _
  simp only [execImageCommitted, ht, if_neg (not_not_intro hverifying), hpassed]

/-- One that fails a step is answered with the status of the step: the three steps of cryptography differ. -/
theorem exec_imageCommitted_failed {s u : State} {sig hash gcm : Bool} {t : Transfer} {n : Nat}
    (ht : s.sec.image.transfer = some t) (hverifying : t.verifying = true)
    (hstep : s.verifySteps t.kind (s.slot t.kind (s.inactiveSlot t.kind))
      { signature := sig, hash := hash, gcm := gcm } = n) (hfailed : n ≠ 0)
    (hu : u = (s.setImage { s.sec.image with transfer := none }).setBit Reg.secStatus 10 false) :
    exec (.imageCommitted sig hash gcm) s = .next (if n = 3 ∨ n = 5 ∨ n = 6 then
        u.finishLate 0x0802 t.packet .authFailed []
      else u.finishLate 0x0802 t.packet .outOfRange (n8 n)) := by
  subst hu
  show execImageCommitted sig hash gcm s = _
  simp only [execImageCommitted, ht, if_neg (not_not_intro hverifying), hstep]
  congr 1
  split
  · exact absurd rfl hfailed
  · rw [if_pos (by omega)]
  · rw [if_pos (by omega)]
  · rw [if_pos (by omega)]
  · next hsignature hhash hgcm => rw [if_neg (by tauto)]

theorem exec_auditFlush_writes {s u : State} {all : List AuditEntry} (hall : all = s.sec.flash ++ s.sec.waiting)
    (hu : u = s.setSec { s.sec with waiting := [], flash := all.drop (all.length - auditRing) }) :
    exec .auditFlush s = .next (if s.sec.waiting.any (fun e => e.seq != 0 && e.seq % auditRing == 0) ∧ u.certMode then
      u.raise 0x1007 [] else u) := by
  subst hu hall
  rfl

/-- An enabled input that becomes asserted is recorded. -/
theorem exec_tamper_enabled {s u : State} {i : Nat} {high asserted : Bool} (hi : i < 4)
    (hon : s.bit Reg.secTamperCfg (4 * i) = true) (hasserted : asserted = (high != s.bit Reg.secTamperCfg (4 * i + 1)))
    (hu : u = s.setBit Reg.secTamperStat (4 + i) asserted) :
    exec (.tamper i high) s = .next (if asserted = true ∧ s.bit Reg.secTamperStat (4 + i) = false then
      u.tamperRecord i (u.fld Reg.secTamperCfg (4 * i + 2) 2) else u) := by
  subst hu hasserted
  refine congrArg Host.Outcome.next ((if_pos ⟨hi, hon⟩).trans ?_)
  simp only [Bool.not_eq_true]

/-- Settles O45: each row is due under its conditions. -/
theorem securityRowsComplete : Obligations.SecurityRowsComplete :=
  ⟨fun _ _ _ ht herasing hu => exec_imageEraseDone_erasing ht herasing hu,
    fun _ _ _ _ _ _ _ _ ht hverifying hb hpassed hu hpending =>
      exec_imageCommitted_passed ht hverifying hb hpassed hu hpending,
    fun _ _ _ _ _ _ _ ht hverifying hstep hfailed hu => exec_imageCommitted_failed ht hverifying hstep hfailed hu,
    fun _ _ _ hall hu => exec_auditFlush_writes hall hu,
    fun _ _ _ _ _ hi hon hasserted hu => exec_tamper_enabled hi hon hasserted hu⟩

end Sys2Proof.Machine
